-- ==== Sys2Proof/Word.lean ====
section
/-! DEFINITION. The word types of the block: bytes, 32-bit register words and fabric addresses. -/
namespace Sys2Proof

/-- One byte of a fabric memory or of a protocol message. -/
abbrev Byte := BitVec 8

/-- The 32-bit word of an object address (R8). -/
abbrev Word := BitVec 32

end Sys2Proof
end

