-- ==== Sys2Proof/Operand.lean ====
section
/-! DEFINITION. The operands of the commands: what the outside world brings to the block with each command.
A message is given by its decoded content; whether a signature or a MAC on it verifies is part of the operand. -/
namespace Sys2Proof

/-! ## Fabric (chapter 1) -/

/-- Kinds of fabric access (R28). -/
inductive AccessKind where
  | read | write | exec
  deriving DecidableEq, Repr

/-- A tagged fabric request (R17, R18). `part` is the partition of a task access, `slot` the slot it runs in,
`res` a resource the access operates on (R44). -/
structure FabReq where
  req : Fin 32
  tag : BitVec 8
  kind : AccessKind
  addr : BitVec 32
  len : Nat
  data : List Byte
  part : Option (Fin 64)
  slot : Option Nat
  res : Option Nat
  deriving DecidableEq, Repr

/-- The outcome of the error correction of a memory access (R21). -/
inductive Ecc where
  | clean
  /-- Words corrected. -/
  | corrected (words : Nat)
  | uncorrectable
  /-- The CRC-32C of an MRAM record that is read does not match. -/
  | recordCrc
  deriving DecidableEq, Repr

/-- The error correction of a DMA beat: at its source and at its destination. -/
structure BeatEcc where
  src : Ecc
  dst : Ecc
  deriving DecidableEq, Repr

/-- What a slot does when it runs: whether it ends by itself, and the results of the class H work a slot may carry
(R22, R493). -/
structure SlotWork where
  finish : Bool
  scrubCorr : Nat
  scrubUncorr : Nat
  /-- The scrubber completed a pass in this slot. -/
  scrubEnd : Bool
  /-- A rolling self-test step: whether it passed, and whether it ended a pass. -/
  bist : Option (Bool × Bool)
  deriving DecidableEq, Repr

/-! ## Images and start (chapters 2 and 16) -/

/-- Attributes of a slot (Table 1.4). -/
structure SlotDef where
  /-- 0–23 task engines, 24–27 crypto engines, 28 loop engine, 64–127 DMA channels 00–63. -/
  engine : Nat
  /-- The period counts tides instead of waves (R15). -/
  perTide : Bool
  period : Nat
  phase : Nat
  span : Nat
  bound : Nat
  part : Nat
  task : Nat
  deriving DecidableEq, Repr

/-- One region descriptor of the image (R27). -/
structure RegionDef where
  base : Nat
  limit : Nat
  rights : BitVec 4
  valid : Bool
  deriving DecidableEq, Repr

/-- One partition of the image. -/
structure PartDef where
  cls : Nat
  regions : List RegionDef
  deriving DecidableEq, Repr

/-- One entry of the ownership map (R42). -/
structure OwnDef where
  id : Nat
  owner : Option Nat
  deriving DecidableEq, Repr

/-- A declared buffer: its resource identifier and byte range (Table 1.8 type 0x11). -/
structure BufDef where
  id : Nat
  base : Nat
  size : Nat
  deriving DecidableEq, Repr

/-- An issuer certificate as decoded (R440). `rootDigest` is the SHA-384 of the owner root key it carries. -/
structure Cert where
  issuer : BitVec 64
  /-- Key 1 is the first 8 bytes of the SHA-384 of key 2. -/
  idOk : Bool
  rights : BitVec 9
  notBefore : Nat
  notAfter : Nat
  rootDigest : Nat
  /-- The signature verifies under the carried root key. -/
  sigOk : Bool
  deriving DecidableEq, Repr

/-- The firmware image of a bank as read from the tide store (chapter 2, Firmware image). -/
structure FwImage where
  length : Nat
  svn : Nat
  /-- SHA-384 of the image. -/
  digest : Nat
  keyIndex : Nat
  /-- SHA-384 of the key under which its signature verifies, if it verifies under any. -/
  keyHash : Option Nat
  /-- The firmware start self-test passes (exit 0x0109). -/
  selfTest : Bool
  /-- Version and digest of the legally relevant part (R306). -/
  lrVersion : Nat
  lrDigest : Nat
  deriving DecidableEq, Repr

/-- One directory entry of a tide table image (Table 2.4a). -/
structure SectionDef where
  kind : Nat
  flags : Nat
  offset : Nat
  size : Nat
  /-- CRC-32C over the section is CRC. -/
  crcOk : Bool
  deriving DecidableEq, Repr

/-- A declared child of a cove head (R66). -/
structure ChildDef where
  serial : Nat
  keyDigest : Nat
  /-- Pair identity of a child position held by a pair (R110). -/
  pair : Option Nat
  deriving DecidableEq, Repr

/-- The pair declaration of the COVE section (R359). -/
structure PairDef where
  identity : Nat
  twin : Bool
  pairLink : Nat
  lhLink : Nat
  pairedSout : BitVec 16
  pairedLs : BitVec 32
  deriving DecidableEq, Repr

/-- An initial value of a declared field: object address, lowest bit, value. -/
structure FieldInit where
  addr : Nat
  lo : Nat
  value : Nat
  deriving DecidableEq, Repr


/-- Declarations of the image that no object map shows. -/
structure Decl where
  slots : List SlotDef := []
  /-- Identifier of the allocation task (Table 1.4, R518). -/
  allocTask : Nat := 0
  buffers : List BufDef := []
  /-- VLAN and MAC address of each cabinet: cabinet, VLAN, address (Table 4.1). -/
  cabAddr : List (Nat × Nat × Nat) := []
  /-- Chain links declared in the COVE section. -/
  chainLinks : BitVec 8 := 0
  children : List ChildDef := []
  pair : Option PairDef := none
  /-- The device is a witness, for the pair identity given. -/
  witness : Option Nat := none
  /-- A TARIFF section is present. -/
  tariff : Bool := false
  /-- Keypads: connector, T1S port, node (R301). -/
  keypads : List (Nat × Nat × Nat) := []
  /-- Declared peripheral nodes: T1S port, node (R416). -/
  t1sNodes : List (Nat × Nat) := []
  /-- VLAN membership: VID and port mask (R408). -/
  vlans : List (Nat × BitVec 16) := []
  /-- Static forwarding entries: VID, address, port mask. -/
  fdbStatic : List (Nat × Nat × BitVec 16) := []
  /-- AUX channel of the hold-up store (R490). -/
  holdupAux : Option Nat := none
  /-- Connection keys of safe-data connections (R347). -/
  cnKeys : List (Nat × BitVec 32) := []
  /-- VLAN and destination address of each safe-data connection that the device produces (R348): connection, VLAN, address.
  DESIGN CHOICE: the spec does not say where they are kept; the image declares them here. -/
  cnAddr : List (Nat × Nat × Nat) := []
  /-- SCALE of the AC inputs whose calibration the METERING section gives: input, value (R225). -/
  acScale : List (Nat × Nat) := []
  /-- EVSE_ID of each connector, ASCII bytes (R165). -/
  evseId : List (Nat × List Byte) := []
  /-- Vault slot of the private key of the vehicle links' server, and its certificate with the sub-CA certificates after it (R146).
  DESIGN CHOICE: the spec does not say where they are kept; the image declares them here. -/
  seccKey : Nat := 511
  seccChain : List (List Byte) := []
  deriving DecidableEq, Repr

/-- A tide table image of a bank (R56, R57) as read from the tide store. -/
structure TtImage where
  length : Nat
  /-- SHA-384 of the image. -/
  digest : Nat
  /-- MAGIC, FORMAT, SECTIONS and LENGTH of the image header; its reserved bytes are zero. -/
  magic : Nat
  format : Nat
  count : Nat
  lengthField : Nat
  reservedZero : Bool
  deviceId : Nat
  svn : Nat
  sections : List SectionDef
  cert : Cert
  /-- The signature verifies under the certified integrator key. -/
  sigOk : Bool
  /-- The 32 request credits (R18). -/
  credits : List Nat
  parts : List PartDef
  ownership : List OwnDef
  decl : Decl
  fields : List FieldInit
  /-- CRC-32C of the SAFETY section (R355). -/
  safetyCrc : BitVec 32
  deriving DecidableEq, Repr

/-- The result of one self-test (R491): zone or memory, signature, whether it is the expected one, failing words. -/
structure BistRes where
  zone : Nat
  sig : BitVec 128
  pass : Bool
  bad : Nat
  deriving DecidableEq, Repr

/-- Levels and inputs at the release of reset (R49, R50) and what the ROM self-check and the stored settings give. -/
structure StartIn where
  /-- VCORE, VIO18, VIO33 and VSERDES in range, REFCLK stable, RESET_N high (R49). -/
  ready : Bool
  chainRoot : Bool
  homeSel : Bool
  /-- STRAND_N asserted. -/
  strandN : Bool
  /-- Valid ledge share present at start (R392). -/
  shareOk : Bool
  /-- The newest settings generation of another writer can be read by this firmware (R468). -/
  migrateOk : Bool
  /-- The safety start tests of the inputs and of the parameter block pass. -/
  selfTest : Bool
  /-- RTC of the ledge domain: milliseconds elapsed since it was last read. -/
  rtcMs : Nat
  /-- Tides that steps 1 to 6 take. -/
  tides : Nat
  /-- The settings generations of slot 0 and slot 1 can be read (R60). -/
  gen0Ok : Bool
  gen1Ok : Bool
  /-- Slots whose entry in the vault store fails its tag (R391); the deny list reads back without an error that ECC cannot
  correct. -/
  vaultBad : List Nat
  denyOk : Bool
  /-- Periods the ledge domain counted from the last ebb warning to the loss of VIO33 (R490). -/
  ride : Option Nat
  /-- Results of the self-tests that ROM ran (R492). -/
  bist : List BistRes
  deriving DecidableEq, Repr

/-! ## Chain (chapter 2) -/

/-- A chain address (R74): control byte and path. -/
structure ChainAddr where
  ctrl : BitVec 8
  path : BitVec 64
  deriving DecidableEq, Repr

/-- A beacon (R64). `skew` is the offset in ticks of the own boundary against the sender's, corrected by the link
delay (R430). -/
structure Beacon where
  tide : Nat
  sender : BitVec 128
  root : BitVec 128
  depth : BitVec 16
  position : BitVec 128
  skew : Int
  deriving DecidableEq, Repr

/-- A JOIN (R66): identity, digest of the carried key, image tag, and whether the signature verifies. -/
structure Join where
  serial : BitVec 128
  keyDigest : Nat
  tag : BitVec 32
  sigOk : Bool
  deriving DecidableEq, Repr

/-- A routed chain message (R75, R426) as its fragments have arrived: FRAG and payload of each, and LAST_FRAG. -/
structure Routed where
  addr : ChainAddr
  /-- TYPE of Table 14.6, and the sender's message number. -/
  kind : Nat
  msgId : Nat
  /-- Hops the message has travelled so far. -/
  travelled : Nat
  frags : List (Nat × List Byte)
  lastFrag : Nat
  deriving DecidableEq, Repr

/-- An event of a member, relayed upward (R453). -/
structure EventMsg where
  tide : Nat
  addr : Nat
  bits : Nat
  deriving DecidableEq, Repr

/-! ## Allocation (chapter 3) -/

/-- A CURVE record (Table 3.5). -/
structure CurveRec where
  flags : BitVec 16
  tide : BitVec 32
  top : Int
  orphanBudget : Nat
  holdTides : Nat
  /-- Every reserved field is zero. -/
  reservedZero : Bool
  points : List (Nat × Int)
  deriving DecidableEq, Repr

/-- A GRANT record (Table 3.6). -/
structure GrantRec where
  tide : BitVec 32
  budget : Int
  mark : BitVec 16
  flags : BitVec 16
  deriving DecidableEq, Repr

/-! ## Sampled inputs -/

/-- Everything the block samples in a wave: its pins and converters, and the work of its own engines that the spec does
not state bit for bit. -/
structure WaveIn where
  /-- SIN_00 to SIN_31. -/
  sin : BitVec 32 := 0
  /-- SOUT readbacks: voltage in 0.1 V and current in mA. -/
  soutV : List Nat := []
  soutI : List Nat := []
  /-- AUX_00 to AUX_31, 16-bit codes. -/
  aux : List Nat := []
  /-- The checks of the tide whose words SIG_EXP joins all passed (R336); the parameter block agrees with its CRC
  (R351). -/
  checksOk : Bool := true
  paramOk : Bool := true
  /-- The 500 bits of the wave at each modulator input, the first in bit 0 (R226). -/
  mods : List (BitVec 500) := []
  /-- The metrology engine does not finish the samples that this boundary delivers by the end of the following wave (R229). DESIGN
CHOICE: it is said of these samples here, so that the wave that was not finished is the one that is invalid. -/
  overrun : Bool := false
  /-- Insulation monitor of each connector, kΩ; none where it gives no value (R155). -/
  riso : List (Option Nat) := []
  /-- Milliseconds the ledge-domain oscillator counted in the tide (R270). -/
  rtcMs : Nat := 10
  /-- 802.1AS time at the boundary, ms since 1970 (R271). -/
  asMs : Nat := 0
  /-- Load-switch channels: current in mA and temperature in 0.01 °C; VLS_A and VLS_B in 0.1 V (R215). -/
  lsI : List Nat := []
  lsT : List Int := []
  vls : List Nat := []
  /-- Conversion results of the temperature sensors, 0.01 °C; none where the conversion fails (R478, R479). -/
  temps : List (Option Int) := []
  /-- VLEDGE in mV, and the supplies in range (Table 17.6). -/
  vledge : Nat := 0
  supplies : BitVec 6 := 0
  /-- EBB_N reads asserted (R261); the VIO33 monitor has not released (below 3.00 V until above 3.10 V). -/
  ebb : Bool := false
  vioLow : Bool := false
  deriving DecidableEq, Repr

/-! ## Drives and load switches (chapter 7) -/

/-- A protected output: a bridge or a load-switch channel (R212). -/
inductive OutSel where
  | gd (x : Fin 6)
  | ls (c : Fin 32)
  deriving DecidableEq, Repr

/-- What the pre-driver of a bridge sees in one sample (Table 7.1): per phase the shunt in mV, the VDS of an on switch after
blanking in 0.1 V, whether both switches read on, and VBS in 0.1 V; VDRV and VBUS in 0.1 V; its sensor in 0.01 °C. -/
structure GdSample where
  shunt : List Nat := []
  vds : List (Option Nat) := []
  both : List Bool := []
  vbs : List Nat := []
  vdrv : Nat
  vbus : Nat
  temp : Int
  deriving DecidableEq, Repr

/-- What a load-switch channel sees in one sample (Table 7.4): its current in mA, for how long it has been above OC_TRIP in
0.1 ms and held at I_LIM in µs, its temperature and that of its case reference in 0.01 °C. -/
structure LsSample where
  i : Nat
  ocFor : Nat := 0
  limFor : Nat := 0
  temp : Int
  case : Int
  deriving DecidableEq, Repr

/-- A power-die sample of a protected output. -/
inductive ProtSample where
  | gd (x : Fin 6) (q : GdSample)
  | ls (c : Fin 32) (q : LsSample)
  deriving DecidableEq, Repr

/-- The output of a sample. -/
def ProtSample.out : ProtSample → OutSel
  | .gd x _ => .gd x
  | .ls c _ => .ls c

/-- What the pre-driver of a bridge measured over the PWM period that ends: bus voltage and bootstrap voltages in 0.1 V, and
per phase the slower timed edge in ns, none where no edge was timed (R208). -/
structure PwmIn where
  vbus : Nat
  vbs : List Nat
  tsw : List (Option Nat)
  deriving DecidableEq, Repr

/-! ## Pairs (chapter 12) -/

/-- A HEALTH record (Table 12.1). -/
structure HealthRec where
  tide : BitVec 32
  role : Nat
  twin : Bool
  flags : BitVec 16
  fwSvn : BitVec 32
  passTides : BitVec 32
  deriving DecidableEq, Repr

/-- A LIGHT record (Table 12.1). -/
structure LightRec where
  tide : BitVec 32
  /-- 0 = home, 1 = twin, 0xFF = none. -/
  flood : Nat
  grant : Bool
  misses : BitVec 16
  deriving DecidableEq, Repr

/-- What the mirror carries of a loop instance beside its object map (R191): instance, dq_prev, r_anchor, and the output
history, newest first. -/
structure LoopMirror where
  loop : Nat
  dqPrev : BitVec 32
  anchor : Int
  hist : List Int
  deriving DecidableEq, Repr

/-- The model state of a cable (R196): cable, conductor, coolant and jacket temperatures in binary32 °C. -/
structure CableMirror where
  cable : Nat
  tc : BitVec 32
  tw : BitVec 32
  tj : BitVec 32
  deriving DecidableEq, Repr

/-- What the mirror carries of a child position (R110): link, latest curve record, last grant sent and tides since. -/
structure ChildMirror where
  link : Nat
  curve : Option CurveRec
  grant : Int
  since : Nat
  deriving DecidableEq, Repr

/-- What the mirror carries of a move slot beside its object map (R136): destination, connector, and the slot it waits for. -/
structure MoveMirror where
  slot : Nat
  dest : Option Nat
  conn : Option Nat
  waitFor : Option Nat
  deriving DecidableEq, Repr

/-- The mirror of the flood unit (Table 12.2): its tide number, and the register values of the mirrored blocks; a word it does
not list stands at its default. -/
structure Mirror where
  /-- It carries the state of a tide; otherwise what was accepted since, and is forwarded (R371, R447). -/
  full : Bool := true
  tide : Nat := 0
  /-- Offset in ticks of the own boundary against the sender's, corrected by the link delay (R430). -/
  skew : Int := 0
  fwSvn : BitVec 32 := 0
  regs : List (Nat × BitVec 32) := []
  /-- Committed changes of the flood unit, applied at the next boundary: object address, lowest bit, value. -/
  changes : List FieldInit := []
  /-- Window entries: issuer, identifier, result, apply tide (R447). -/
  window : List (BitVec 64 × Nat × Nat × Option Nat) := []
  /-- SEQ of the setpoint frames by cabinet; SessionID by connector. -/
  seqs : List (Nat × Nat) := []
  sids : List (Nat × Nat) := []
  /-- Paired channel states: SOUT and LS masks. -/
  sout : BitVec 16 := 0
  ls : BitVec 32 := 0
  loops : List LoopMirror := []
  cables : List CableMirror := []
  children : List ChildMirror := []
  moves : List MoveMirror := []
  deriving DecidableEq, Repr

/-! ## Network and field links (chapter 14) -/

/-- An Ethernet frame at a switch port (R408): addresses, VLAN tag with VID and PCP, length in bytes, FCS correct, and what
follows the addresses and the tag. -/
structure TsnFrame where
  dst : BitVec 48
  src : BitVec 48
  tag : Option (Nat × Fin 8)
  len : Nat
  fcsOk : Bool
  data : List Byte := []
  deriving DecidableEq, Repr

/-- A domain 0 Sync with what it gives (R413, R414): valid, from the best master, its grandmaster reports an ARB-to-PTP
mapping, the computed offset in ns. -/
structure SyncMsg where
  domain : Nat
  valid : Bool
  best : Bool
  mapping : Bool
  offset : Int
  deriving DecidableEq, Repr

/-- A frame at a T1S port (R416 to R418): free of FCS, CRC and format errors, collisions met, node of a peripheral segment,
payload. -/
structure T1sFrame where
  ok : Bool
  collisions : Nat
  node : Nat
  payload : List Byte
  deriving DecidableEq, Repr

/-- A frame at a CAN controller (R420), free of errors or not, with the receive error count it leaves and the ring entries
its partition has read since the last frame. -/
structure CanFrame where
  ok : Bool
  id : BitVec 29
  ide : Bool
  fdf : Bool
  brs : Bool
  dlc : Fin 16
  esi : Bool
  remote : Bool
  data : List Byte
  rxErrors : Nat
  taken : Nat
  tick : Fin 625
  deriving DecidableEq, Repr

/-- A frame its partition queues in a mailbox (R422). -/
structure CanBox where
  id : BitVec 29
  ide : Bool
  fdf : Bool
  data : List Byte
  deriving DecidableEq, Repr

/-- A SENT frame (R431, R432): measured tick in ns, nibbles in range, CRC correct, status nibble, raw codes, and a slow-channel
message it completed. -/
structure SentFrame where
  tickNs : Nat
  nibblesOk : Bool
  crcOk : Bool
  status : Fin 16
  raw1 : BitVec 16
  raw2 : BitVec 16
  slow : Option (BitVec 8 × BitVec 16)
  deriving DecidableEq, Repr

/-! ## Commands (chapter 15) -/

/-- The envelope of a request (R438). `sigOk` says that its signature verifies under the issuer's key; `conn` is the
TLS connection it arrived on, none for the chain. -/
structure Env where
  decodes : Bool
  size : Nat
  id : Nat
  serial : BitVec 128
  addr : Option ChainAddr
  kid : BitVec 64
  cert : Option Cert
  sigOk : Bool
  conn : Option Nat
  /-- A request of the chain: hops it travelled, and its MSG_ID (R75, R426). -/
  hops : Nat := 0
  msgId : Nat := 0
  /-- The request as it arrived: a relaying device passes these bytes on (R446). -/
  raw : List Byte := []
  deriving DecidableEq, Repr

/-- A write entry (R449). -/
structure WEntry where
  addr : BitVec 32
  value : BitVec 32
  mask : BitVec 32
  deriving DecidableEq, Repr

/-- A stage entry (R450, R452). -/
structure SEntry where
  w : WEntry
  target : Option ChainAddr
  deriving DecidableEq, Repr

/-! ## Metering (chapters 8 and 9) -/

/-- A METER record (Table 8.6): FLAGS, the seven AC sums, DC import and export. -/
structure MeterRec where
  tide : Nat
  flags : Nat
  ac : List Nat
  dcImport : Nat
  dcExport : Nat
  deriving DecidableEq, Repr

/-! ## Vehicle messages (chapter 5) -/

/-- What every V2G request carries: whether its EXI decodes, its size, its SessionID. -/
structure V2g where
  decodes : Bool
  size : Nat
  sid : Option Nat
  /-- The vehicle answers FAILED (Table 5.5, rank 5). -/
  failed : Bool := false
  deriving DecidableEq, Repr

/-- A ClientHello (R146): whether it offers the one cipher suite, the one group and the one signature algorithm, and whether it
offers PSK resumption and sends 0-RTT data. -/
structure ClientHello where
  suite : Bool
  group : Bool
  sigAlg : Bool
  psk : Bool
  early : Bool
  deriving DecidableEq, Repr

/-- The AuthorizationReq: PnC with what its contract certificate and signature show (R149), or EIM. -/
structure AuthReq where
  pnc : Bool
  subCas : Nat
  /-- Public key of the trust anchor at which the chain ends. -/
  anchor : List Byte
  /-- Validity periods of the certificates, s since 1970. -/
  validity : List (Nat × Nat)
  keyUsageOk : Bool
  sigOk : Bool
  emaid : List Byte
  deriving DecidableEq, Repr

/-- The vehicle's parameters and targets (R161): voltages in 0.1 V, currents in 0.1 A, powers in kW. -/
structure EvParams where
  targetV : Option Nat := none
  maxV : Option Nat := none
  targetI : Option Int := none
  maxChargeI : Option Nat := none
  maxChargeP : Option Nat := none
  maxDischargeI : Option Nat := none
  maxDischargeP : Option Nat := none
  deriving DecidableEq, Repr

/-- ChargeProgress of PowerDeliveryReq (Table 5.1). -/
inductive Progress where
  | start | stop | standby | renegotiate
  deriving DecidableEq, Repr

/-- ChargingSession of SessionStopReq. -/
inductive StopKind where
  | terminate | pause | serviceRenegotiation
  deriving DecidableEq, Repr

/-! ## Keys (chapter 13) -/

/-- The attributes of a key operation (R383, R384): target slot and the attribute block. -/
structure KeyAttrs where
  slot : Nat
  type : Nat
  usage : Nat
  limit : Nat
  count : Nat
  survive : Bool
  ledge : Bool
  deriving DecidableEq, Repr

/-- A secret wrapped for the import key (R384): the sender's ephemeral public key Q_e (x ‖ y, 96 bytes) and the KWP output. -/
structure KeyWrap where
  qe : List Byte
  wrapped : List Byte
  deriving DecidableEq, Repr

/-- Sub-operation OPEN of UPDATE (Table 16.1). -/
structure OpenArgs where
  bank : Option Bool
  fwLength : Nat
  ttLength : Nat
  fwDigest : BitVec 384
  ttDigest : BitVec 384
  fwSvn : Nat
  deriving DecidableEq, Repr

/-! ## Subscriptions (chapter 15) -/

/-- Ranges of a subscription: address and words (R453). -/
abbrev Ranges := List (Nat × Nat)

end Sys2Proof
end

