-- ==== Sys2Proof/Syntax.lean ====
section
/-! DEFINITION. The commands of the block: one constructor per row of spec/opcode_table.json, with its operands. -/
namespace Sys2Proof

/-- The commands. -/
inductive Instr where
  /-- WAVE_BOUNDARY (R13): The timebase tick index passes from 624 to 0, ending one wave and starting the per-wave work. -/
  | waveBoundary (w : WaveIn)
  /-- TIDE_BOUNDARY (R315): The wave boundary at which the wave index wraps from 399 to 0, running the boundary work of Table 10.1. -/
  | tideBoundary (w : WaveIn)
  /-- REFCLK_STOP (R16): REFCLK stops, so the timebase stops and no wave boundary, fence or slot occurs. -/
  | refclkStop
  /-- SLOT_RUN (R25): A slot starts on its engine when the previous slot of that engine ends. -/
  | slotRun (n : Nat) (work : SlotWork)
  /-- FABRIC_REQUEST (R17): A requester issues a tagged fabric transaction, which is checked against the address map and the region descriptors. -/
  | fabricRequest (q : FabReq)
  /-- STALLED_REQUEST_ISSUE (R19): A withheld request is acknowledged and issued once one of the requester's outstanding transactions completes. -/
  | stalledRequestIssue (req : Fin 32)
  /-- FABRIC_RESPONSE (R20): A fabric transaction completes, and its tagged response returns to the requester. -/
  | fabricResponse (tag : BitVec 8) (ecc : Ecc)
  /-- DMA_START (R30): A task starts a DMA channel on a chain of descriptors. -/
  | dmaStart (c : Fin 64) (desc : BitVec 32) (part : Fin 64)
  /-- DMA_BEAT (R31): A DMA channel moves one beat of at most 64 bytes, whole or not at all. -/
  | dmaBeat (c : Fin 64) (ecc : BeatEcc)
  /-- DMA_RESTART (R33): A faulted or paused descriptor restarts with RESTART = 1 and moves the remaining bytes. -/
  | dmaRestart (c : Fin 64) (part : Fin 64)
  /-- STAT_CLEAR (R47): TIDE.STAT_CLEAR = 1 clears PEAK and STALL_COUNT at the next tide boundary. -/
  | statClear
  /-- RESET_RELEASE (R58): The logic die leaves reset and runs the start-up steps of Table 2.4 through step 6. -/
  | resetRelease (q : StartIn)
  /-- RESET_N_ASSERT (R335): RESET_N is asserted, the logic die resets and the cut island cuts every SOUT channel. -/
  | resetNAssert
  /-- EBB_DURING_START (R51): EBB_N asserted before RUN stops the start and holds the outputs. -/
  | ebbDuringStart
  /-- START_RESUME (R51): After EBB_N has been high for 10 ms, the start resumes from step 2. -/
  | startResume
  /-- KERNEL_FAULT (R52): The firmware kernel detects an unrecoverable error and resets the logic die with cause 0x05. -/
  | kernelFault (recOk : Bool) (frameOk : Bool)
  /-- DEV_RESTART (R83): DEV.RESTART = 0xA5 restarts the logic die at the commit boundary with cause 0x03. -/
  | devRestart
  /-- DEFAULTS_ACK (R60): DEV.DEFAULTS_ACK committed as 1 accepts the default settings and clears INHIBIT bit 1. -/
  | defaultsAck
  /-- ENTER_RUN (R82): The device enters RUN at a tide boundary, adopting the latched power-die state before it drives any output. -/
  | enterRun (q : WaveIn)
  /-- BEACON_RECEIVE (R65): A beacon arriving on a chain link sets the candidate upstream link and aligns the device's boundaries. -/
  | beaconReceive (link : Fin 8) (b : Beacon)
  /-- JOIN_RECEIVE (R66): A parent checks a JOIN against its declared children and answers ADMIT or REFUSE. -/
  | joinReceive (link : Fin 8) (j : Join)
  /-- ADMIT_RECEIVE (R66): ADMIT makes the link the child's upstream link. -/
  | admitReceive (link : Fin 8)
  /-- REFUSE_RECEIVE (R66): REFUSE marks the link REFUSED, and the device listens again with a zero budget. -/
  | refuseReceive (link : Fin 8)
  /-- ORPHAN_WAIT_EXPIRY (R69): ORPHAN_WAIT tides pass without an acceptable beacon, and the device becomes an orphan. -/
  | orphanWaitExpiry
  /-- UPSTREAM_LOST (R70): Three consecutive beacons missed upstream make the device switch link or become an orphan. -/
  | upstreamLost
  /-- COVE_FORMED (R77): JOIN_WAIT elapses, or the last declared child is admitted, and the cove is formed. -/
  | coveFormed
  /-- CHAIN_FORWARD (R75): A downward routed message is forwarded on the link its path names, or dropped with 0x0301. -/
  | chainForward (m : Routed)
  /-- CHAIN_REPLY (R75): A reply travels upward, its hop count falling at each device. -/
  | chainReply (msgId : Nat) (hops : Nat) (payload : List Byte)
  /-- PROXY_RECEIVE (R76): A PROXY message is re-sent by the addressed device as its own request. -/
  | proxyReceive (m : Routed) (inner : Routed)
  /-- CHAIN_LINK_UP (R425): A chain link comes up after 1,024 consecutive idle symbols without a code error. -/
  | chainLinkUp (link : Fin 8)
  /-- DELAY_REQ_RECEIVE (R430): The far end timestamps a DELAY_REQ and answers with DELAY_RESP. -/
  | delayReqReceive (link : Fin 8) (t2 : Nat) (t3 : Nat)
  /-- DELAY_RESP_RECEIVE (R430): DELAY_RESP updates the measured link delay, and a link over 2,500 ticks is held down. -/
  | delayRespReceive (link : Fin 8) (t1 : Nat) (t2 : Nat) (t3 : Nat) (t4 : Nat)
  /-- EVENT_FRAME_RECEIVE (R453): An EVENT frame from a member is relayed upward or delivered to a subscription. -/
  | eventFrameReceive (e : EventMsg)
  /-- SOLO_START_CLAIM (R81): With SOLO_START = 1, the home unit claims flood after 300 tides in JOIN without the lighthouse. -/
  | soloStartClaim
  /-- CURVE_RECEIVE (R104): A child's CURVE record is validated and kept for the next boundary. -/
  | curveReceive (link : Fin 8) (q : CurveRec)
  /-- GRANT_RECEIVE (R106): A GRANT record becomes GRANT_IN for the next boundary, and GRANT_AGE is cleared. -/
  | grantReceive (link : Fin 8) (g : GrantRec)
  /-- CHILD_LOST (R107): Three tides without a valid CURVE record declare a child lost with a reservation. -/
  | childLost (link : Fin 8)
  /-- CHILD_RESERVE_FALLBACK (R107): After HOLD_TIDES + 3 tides, a lost child's reservation falls to its fallback value. -/
  | childReserveFallback (link : Fin 8)
  /-- ORPHAN_HOLD_EXPIRY (R96): An orphan's hold expires, and MODE changes from 0x3 to 0x4. -/
  | orphanHoldExpiry
  /-- LIMIT_INPUT_ASSERT (R97): A limit input becomes asserted after 10 tides on its asserting side. -/
  | limitInputAssert (k : Fin 4)
  /-- LIMIT_INPUT_RELEASE (R97): A limit input is released after 10 tides on the other side. -/
  | limitInputRelease (k : Fin 4)
  /-- LIMIT_WRITE (R98): A write of IMPORT_LIMIT or EXPORT_LIMIT is checked against the other field's pending or present value. -/
  | limitWrite (e : Env) (exportSide : Bool) (kw : BitVec 32)
  /-- ZERO_WAIT_EXPIRY (R130): RAMP_DOWN exceeds ZERO_WAIT, and the move aborts with 0x0502. -/
  | zeroWaitExpiry (m : Fin 8)
  /-- OPEN_WAIT_EXPIRY (R130): OPEN exceeds OPEN_WAIT, and the contactor is marked welded. -/
  | openWaitExpiry (m : Fin 8)
  /-- WELD_CONFIRM_DONE (R130): The mirror has read open for WELD_CONFIRM waves, and WELD_CHECK ends. -/
  | weldConfirmDone (m : Fin 8)
  /-- MATCH_WAIT_EXPIRY (R130): MATCH exceeds MATCH_WAIT, and the move aborts with 0x0504. -/
  | matchWaitExpiry (m : Fin 8)
  /-- CLOSE_WAIT_EXPIRY (R130): CLOSE exceeds CLOSE_WAIT, and the contactor is marked faulty. -/
  | closeWaitExpiry (m : Fin 8)
  /-- RAMP_WAVES_ELAPSED (R130): RAMP_UP ends after RAMP_WAVES, and the move is DONE. -/
  | rampWavesElapsed (m : Fin 8)
  /-- SOUT_GROUP_CUT (R134): A SOUT group reads back cut, so its selects go off, its moves end and its cabinets are sent MODE off. -/
  | soutGroupCut (g : Fin 16)
  /-- CT_CLR (R132): CT_CLR clears a contactor's welded or faulty mark while its group is cut and its mirror reads open. -/
  | ctClr (k : Fin 256)
  /-- STATUS_FRAME_RECEIVE (R140): A cabinet status frame is validated and updates the cabinet's state. -/
  | statusFrameReceive (cab : Fin 64) (frame : List Byte)
  /-- CABINET_LOST (R141): STATUS_MISS waves without a valid status frame make a cabinet lost. -/
  | cabinetLost (cab : Fin 64)
  /-- LOST_SHARE_EXPIRY (R141): After the lost cabinet's possible drive time, I_cmd is divided without it. -/
  | lostShareExpiry (cab : Fin 64)
  /-- VEHICLE_LINK_UP (R417): A valid frame brings a vehicle link up, and with proximity connected a session enters SETUP. -/
  | vehicleLinkUp (n : Fin 32)
  /-- VEHICLE_LINK_DOWN (R417): LINK_HOLD tides without a frame take a vehicle link down. -/
  | vehicleLinkDown (n : Fin 32)
  /-- SDP_REQUEST (R145): An SDP request is answered with a TLS offer on SECC_PORT. -/
  | sdpRequest (n : Fin 32)
  /-- TLS_CLIENT_HELLO (R146): A ClientHello starts a full TLS 1.3 handshake with the SECC certificate. -/
  | tlsClientHello (n : Fin 32) (h : ClientHello)
  /-- SUPPORTED_APP_PROTOCOL_REQ (R145): SupportedAppProtocolReq is answered with the ISO 15118-20 DC namespace. -/
  | supportedAppProtocolReq (n : Fin 32) (q : V2g) (dc : Bool)
  /-- SESSION_SETUP_REQ (R153): SessionSetupReq moves the session to AUTH, or to CLOSED when no mode is offered. -/
  | sessionSetupReq (n : Fin 32) (q : V2g)
  /-- AUTHORIZATION_SETUP_REQ (R148): AuthorizationSetupReq is answered with the identification modes that AUTH_MODE offers. -/
  | authorizationSetupReq (n : Fin 32) (q : V2g)
  /-- AUTHORIZATION_REQ (R150): AuthorizationReq is decided by PnC, a held grant or free vend. -/
  | authorizationReq (n : Fin 32) (q : V2g) (a : AuthReq)
  /-- AUTH_GRANT (R150): AUTH_GRANT = 0x1 is held as a host grant for a session in AUTH. -/
  | authGrant (n : Fin 32)
  /-- AUTH_DENY (R150): AUTH_GRANT = 0x2 ends a session in AUTH with 0x0701. -/
  | authDeny (n : Fin 32)
  /-- AUTH_WAIT_EXPIRY (R153): AUTH_WAIT elapses in AUTH, and the session closes. -/
  | authWaitExpiry (n : Fin 32)
  /-- SERVICE_DISCOVERY_REQ (R145): ServiceDiscoveryReq is answered with DC and, where reachable, DC_BPT. -/
  | serviceDiscoveryReq (n : Fin 32) (q : V2g)
  /-- SERVICE_SELECTION_REQ (R145): ServiceSelectionReq selects the energy transfer service. -/
  | serviceSelectionReq (n : Fin 32) (q : V2g) (service : Nat) (mode : Nat)
  /-- CHARGE_PARAMETER_DISCOVERY_REQ (R145): DC_ChargeParameterDiscoveryReq exchanges the MCS charging parameters. -/
  | chargeParameterDiscoveryReq (n : Fin 32) (q : V2g) (p : EvParams)
  /-- SCHEDULE_EXCHANGE_REQ (R153): ScheduleExchangeReq is answered, LOCK_LS is driven on and the session enters LOCK. -/
  | scheduleExchangeReq (n : Fin 32) (q : V2g)
  /-- LOCK_CONFIRMED (R153): LOCK_SIN reads locked for 4 tides, a record is opened, a path is requested and CABLE_CHECK begins. -/
  | lockConfirmed (n : Fin 32)
  /-- LOCK_WAIT_EXPIRY (R153): LOCK_WAIT elapses in LOCK, and the session closes with 0x0706. -/
  | lockWaitExpiry (n : Fin 32)
  /-- CABLE_CHECK_REQ (R155): DC_CableCheckReq is answered Ongoing until the insulation check passes. -/
  | cableCheckReq (n : Fin 32) (q : V2g)
  /-- CABLE_CHECK_PASS (R155): 200 tides of passing insulation readings pass the cable check. -/
  | cableCheckPass (n : Fin 32)
  /-- CABLE_WAIT_EXPIRY (R153): CABLE_WAIT elapses in CABLE_CHECK, and the session stops with 0x070A or 0x0708. -/
  | cableWaitExpiry (n : Fin 32)
  /-- PRECHARGE_REQ (R156): DC_PreChargeReq starts or continues precharge toward EVTargetVoltage. -/
  | prechargeReq (n : Fin 32) (q : V2g) (targetV : Nat)
  /-- PRECHARGE_MATCH (R156): The voltage has stayed within PRECHARGE_V for 4 waves, and the match holds. -/
  | prechargeMatch (n : Fin 32)
  /-- PRECHARGE_WAIT_EXPIRY (R153): PRECHARGE_WAIT elapses, and the session stops with 0x0709. -/
  | prechargeWaitExpiry (n : Fin 32)
  /-- POWER_DELIVERY_REQ (R153): PowerDeliveryReq Start, Standby or Stop moves the session between PRECHARGE, TRANSFER, PAUSE and STOPPING. -/
  | powerDeliveryReq (n : Fin 32) (q : V2g) (k : Progress)
  /-- CHARGE_LOOP_REQ (R164): DC_ChargeLoopReq is answered with the present values and limits. -/
  | chargeLoopReq (n : Fin 32) (q : V2g) (p : EvParams)
  /-- PATH_HOLD_EXPIRY (R157): PATH_HOLD elapses in PAUSE, and the path is released. -/
  | pathHoldExpiry (n : Fin 32)
  /-- PAUSE_MAX_EXPIRY (R153): PAUSE_MAX elapses, and the session stops with 0x070C. -/
  | pauseMaxExpiry (n : Fin 32)
  /-- SESSION_STOP_REQ (R158): SessionStopReq Terminate or Pause ends or suspends the V2G session. -/
  | sessionStopReq (n : Fin 32) (q : V2g) (k : StopKind)
  /-- WELDING_DETECTION_REQ (R158): DC_WeldingDetectionReq is answered with the measured voltage. -/
  | weldingDetectionReq (n : Fin 32) (q : V2g)
  /-- STOPPING_ZERO (R153): With I_CMD = 0 and the current at or below ZERO_I for 4 waves, the path is released and WELD_CHECK begins. -/
  | stoppingZero (n : Fin 32)
  /-- UNLOCK_VOLTAGE_SAFE (R153): The connector voltage stays below 60 V for 10 tides, the lock is released and the session closes. -/
  | unlockVoltageSafe (n : Fin 32)
  /-- SESSION_RECORD_SIGNED (R165): The signed session record is written to the legal store. -/
  | sessionRecordSigned
  /-- UNLOCK_HELD (R170): A voltage of 60 V or more for over 100 tides in UNLOCK or FAULTED raises 0x0710. -/
  | unlockHeld (n : Fin 32)
  /-- V2G_SEQUENCE_TIMEOUT (R147): No request arrives within 6,000 tides, and the TCP connection closes with 0x0705. -/
  | v2gSequenceTimeout (n : Fin 32)
  /-- VEHICLE_TCP_CLOSE (R159): TCP or TLS closes on a vehicle link, which is a stop cause of rank 3 unless the session is paused. -/
  | vehicleTcpClose (n : Fin 32)
  /-- PROX_DISCONNECT (R157): PROX_SIN reads disconnected for 4 tides in a paused session, which stops it with 0x0704. -/
  | proxDisconnect (n : Fin 32)
  /-- HOST_STOP (R159): SESS.STOP = 1 applied stops the session as a host stop. -/
  | hostStop (n : Fin 32)
  /-- REC_ACK (R168): SESS[32].REC_ACK acknowledges stored records and frees their slots. -/
  | recAck (e : Env) (value : Nat)
  /-- RECORD_READ (R448): RECORD_READ returns a session record or its OCMF text. -/
  | recordRead (e : Env) (no : Nat) (ocmf : Bool)
  /-- LOOP_HOLD_TRIP (R182): MEAS_HOLD invalid evaluations trip the instance to SAFE_OUT. -/
  | loopHoldTrip (n : Fin 128)
  /-- SUPERVISION_TRIP (R185): The combined supervision condition becomes true, and the instance is counted and may trip. -/
  | supervisionTrip (n : Fin 128)
  /-- LOOP_MODE_WRITE (R181): A write of LOOP.MODE moves the instance between off, auto and manual. -/
  | loopModeWrite (n : Fin 128)
  /-- INJECTION_START (R186): INJ_CTRL = 0x1 starts an injection at the boundary. -/
  | injectionStart (n : Fin 128)
  /-- INJECTION_STOP (R188): INJ_CTRL = 0x2 stops an injection. -/
  | injectionStop (n : Fin 128)
  /-- INJECTION_DONE (R188): The injection ends when k reaches INJ_LEN. -/
  | injectionDone (n : Fin 128)
  /-- CAPTURE_ARM (R190): CAP_CTRL = 0x1 arms a capture and takes a bank. -/
  | captureArm (n : Fin 128)
  /-- CAPTURE_RELEASE (R190): CAP_CTRL = 0x2 releases the capture bank. -/
  | captureRelease (n : Fin 128)
  /-- CAPTURE_FULL (R190): The capture holds CAP_LEN samples and is full. -/
  | captureFull (n : Fin 128)
  /-- BRIDGE_LINK_LOSS (R203): Two waves without a valid command turn every bridge's gates off. -/
  | bridgeLinkLoss
  /-- PWM_PERIOD (R204): A bridge PWM period starts, and its duties are recomputed. -/
  | pwmPeriod (x : Fin 6) (q : PwmIn)
  /-- BOOTSTRAP_PRECHARGE_END (R209): The bootstrap precharge ends, and switching starts or fault 0x05 is taken. -/
  | bootstrapPrechargeEnd (x : Fin 6) (vbs : List Nat)
  /-- REFRESH_INSERTION (R210): A refresh pulse is inserted every REFRESH_T on a phase held high with low VBS. -/
  | refreshInsertion (x : Fin 6) (p : Fin 3) (us : Nat)
  /-- PROTECTION_FAULT (R212): A bridge or load-switch fault turns the output off and starts a retry or locks. -/
  | protectionFault (p : ProtSample)
  /-- THERMAL_CONDITION (R212): A thermal condition turns the output off and enters THERMAL_HOLD. -/
  | thermalCondition (p : ProtSample)
  /-- THERMAL_LATCH_CLEAR (R212): The thermal latch clears, and the output restarts or resumes its retry. -/
  | thermalLatchClear (p : ProtSample)
  /-- CROSS_CONDUCTION (R212): Cross-conduction turns every gate off and latches XC_LATCH. -/
  | crossConduction (x : Fin 6) (q : GdSample)
  /-- RETRY_TIMER_EXPIRY (R212): The retry timer expires, TRIES increments and the output restarts. -/
  | retryTimerExpiry (o : OutSel) (ms : Nat)
  /-- TRY_RESET_EXPIRY (R212): 10 s in Active without a fault reset TRIES to 0. -/
  | tryResetExpiry (o : OutSel) (ms : Nat)
  /-- GD_CLR (R212): GD CLR = 1 clears LOCKED or XC_LATCH when its condition is met. -/
  | gdClr (x : Fin 6)
  /-- LS_CLR (R212): LS CLR = 1 clears LOCKED when no fault condition is present. -/
  | lsClr (c : Fin 32)
  /-- LS_SUPPLY_LOW (R215): A channel supply below 7.0 V turns the channel off without a fault. -/
  | lsSupplyLow (c : Fin 32) (v : Nat)
  /-- LS_SUPPLY_RECOVER (R215): The supply above 7.5 V for 1 ms lets the channel resume its latched command. -/
  | lsSupplyRecover (c : Fin 32) (v : Nat) (held : Nat)
  /-- OPEN_LOAD_DETECT (R216): Current below OL_THRESH for OL_FILT of on-time sets OPEN_LOAD. -/
  | openLoadDetect (c : Fin 32) (n : Nat) (onFor : Nat)
  /-- POWER_DIE_RESET (R217): Loss of both VLS supplies resets the power die, and every channel starts off. -/
  | powerDieReset
  /-- LS_OUTPUT_WRITE (R218): A write of OUT_REQ or DUTY commands a host channel, or is refused by FUNCTION. -/
  | lsOutputWrite (e : Env) (c : Fin 32) (duty : Bool) (value : BitVec 14)
  /-- MOD_INPUT_FAULT (R228): Four consecutive clipped samples put a modulator input in fault. -/
  | modInputFault (m : Fin 152)
  /-- MOD_INPUT_RECOVER (R228): 400 unclipped samples take the input out of fault. -/
  | modInputRecover (m : Fin 152)
  /-- SPLICE_SET (R236): 100 qualifying tides over SPLICE_TOL set SPLICE. -/
  | spliceSet (n : Fin 32)
  /-- SPLICE_CLEAR (R236): 100 qualifying tides within SPLICE_TOL clear SPLICE. -/
  | spliceClear (n : Fin 32)
  /-- LINE_CYCLE_END (R240): An AC line cycle closes, and its active, reactive and apparent energies are registered. -/
  | lineCycleEnd (p : Fin 8)
  /-- NEUTRAL_SET (R244): 50 cycles with I_MISMATCH over NEUTRAL_TOL set NEUTRAL. -/
  | neutralSet (p : Fin 8)
  /-- NEUTRAL_CLEAR (R244): 50 cycles within NEUTRAL_TOL clear NEUTRAL. -/
  | neutralClear (p : Fin 8)
  /-- PULSE_START (R255): A pulse output drives high for an owed pulse once its low time has passed. -/
  | pulseStart (j : Fin 16)
  /-- PULSE_END (R255): The pulse width elapses, and the output drives low. -/
  | pulseEnd (j : Fin 16)
  /-- MRAM_WRITE_COMPLETE (R328): An MRAM record write completes, and the next waiting write is chosen by precedence. -/
  | mramWriteComplete (ok : Bool)
  /-- EBB_WARNING (R261): EBB_N or the VIO33 monitor latches the ebb warning, which stops checkpoints and starts ebb record 1. -/
  | ebbWarning (source : BitVec 2)
  /-- EBB_SNAPSHOT (R261): Every 40 waves of the warning, a further ebb snapshot is taken. -/
  | ebbSnapshot
  /-- EBB_RELEASE (R261): EBB_N high for 400 waves ends the ebb sequence. -/
  | ebbRelease
  /-- METER_RECEIVE (R256): A child's METER record updates the cove sums. -/
  | meterReceive (link : Fin 8) (q : MeterRec)
  /-- TIME_SET (R271): SET_GO = 1 applies the command time at the next boundary. -/
  | timeSet (e : Env) (set : Nat)
  /-- BILLING_STEPS (R318): Boundary steps 4–8 close and open the due intervals and periods, once the previous boundary's steps are complete. -/
  | billingSteps (upTo : Fin 5) (marked : Bool)
  /-- TAMPER_INPUT_ACTIVE (R295): A TAMP input becomes active after 2 samples, and its class responds. -/
  | tamperInputActive (c : Fin 8) (level : Bool) (ms : Nat)
  /-- SEAL_CLR (R297): SEAL_CLR = 1 clears a class seal at the next boundary. -/
  | sealClr (c : Fin 16)
  /-- KEYPAD_KEY (R301): A KEY frame from a keypad adds a digit, clears the entry or submits a token. -/
  | keypadKey (n : Fin 32) (seq : BitVec 16) (key : Fin 12)
  /-- KEYPAD_ENTRY_TIMEOUT (R301): A pause longer than ENTRY_TIMEOUT clears the keypad entry. -/
  | keypadEntryTimeout (n : Fin 32)
  /-- KEYPAD_UNLOCK (R302): LOCK_TIDES elapse, and the keypad is unlocked. -/
  | keypadUnlock (n : Fin 32)
  /-- LINK_FRAME_RECEIVE (R335): The cut island receives a power-die link frame and acts on its cut commands. -/
  | linkFrameReceive (spacingOk : Bool)
  /-- LINK_FRAME_LOSS (R335): Four waves without link frames make the cut island cut every channel with cause 0x12. -/
  | linkFrameLoss
  /-- SOUT_READBACK_FAULT (R338): A readback inconsistent with the command for 2 waves raises OUT_FAULT or OUT_STUCK. -/
  | soutReadbackFault (c : Fin 16)
  /-- DARK_TEST (R338): Every OUT_TEST tides, each enabled channel's switches are tested off in turn. -/
  | darkTest (failed : BitVec 16)
  /-- SIN_FILTER_CHANGE (R339): SIN_FILT equal samples change an input's filtered state. -/
  | sinFilterChange (n : Fin 32)
  /-- DUAL_DISCREPANCY (R341): The two channels of a dual input differ for longer than FN_DISC. -/
  | dualDiscrepancy (f : Fin 64)
  /-- SF3_FILTER_EXPIRY (R342): An AUX reading beyond FN_THRESH for FN_FILT tides trips SF3. -/
  | sf3FilterExpiry (f : Fin 64)
  /-- SAFETY_PDU_RECEIVE (R349): A safety PDU copy is checked, and matching copies deliver DATA. -/
  | safetyPduReceive (k : Fin 32) (groupB : Bool) (pdu : List Byte)
  /-- SAFE_DATA_WATCHDOG (R350): CN_AGE reaches CN_WDOG, and cause 0x06 latches. -/
  | safeDataWatchdog (k : Fin 32)
  /-- SAFE_ACK_RELEASE (R353): A valid release of SAFE_ACK clears the latched causes whose conditions are gone. -/
  | safeAckRelease
  /-- ACK_HELD_TOO_LONG (R353): SAFE_ACK held over 300 tides sets ACK_STATE 0x2. -/
  | ackHeldTooLong
  /-- SAFE_CONFIRM (R355): Committing SAFE.CONFIRM equal to CHECK_VALUE commissions the safety parameters. -/
  | safeConfirm
  /-- HEALTH_RECEIVE (R366): The lighthouse records a unit's HEALTH record. -/
  | healthReceive (link : Fin 8) (h : HealthRec)
  /-- LIGHTHOUSE_DECISION (R366): Three missed flood tides make the lighthouse grant the passing ebb unit. -/
  | lighthouseDecision
  /-- LIGHT_RECEIVE (R368): A LIGHT record is received, possibly granting flood or naming the partner. -/
  | lightReceive (link : Fin 8) (l : LightRec)
  /-- LIGHTHOUSE_LOST (R367): A unit misses LIGHT records for 3 tides. -/
  | lighthouseLost
  /-- FLOOD_YIELD (R368): The flood unit deasserts FLOOD_OUT, sends a yield notice and enters ROLE 0x4. -/
  | floodYield
  /-- YIELD_NOTICE_RECEIVE (R369): A yield notice on the pair link lets the ebb unit claim at the next boundary. -/
  | yieldNoticeReceive (link : Fin 8) (cause : Nat)
  /-- FLOOD_CLAIM (R369): An ebb unit claims flood at wave 0 and drives the mirrored state. -/
  | floodClaim
  /-- FLOOD_IN_CHANGE (R362): FLOOD_IN changes, holding or releasing the paired channels and resolving a tie. -/
  | floodInChange (level : Bool)
  /-- YIELD_MAX_EXPIRY (R368): FLOOD_IN is not asserted within YIELD_MAX, and the unit reclaims. -/
  | yieldMaxExpiry
  /-- MIRROR_RECEIVE (R371): The ebb unit adopts the mirrored state. -/
  | mirrorReceive (link : Fin 8) (m : Mirror)
  /-- RESUME_WAIT_EXPIRY (R373): A session paused by a switch-over is not resumed within RESUME_WAIT. -/
  | resumeWaitExpiry (n : Fin 32)
  /-- HANDOVER (R375): PAIR.HANDOVER = 0xA5 yields the flood role at the commit boundary. -/
  | handover
  /-- TAKEBACK (R376): The home unit takes flood back when its take-back conditions hold. -/
  | takeback
  /-- KEY_GENERATE (R383): GENERATE creates a key from the random source in an empty general slot. -/
  | keyGenerate (e : Env) (a : KeyAttrs)
  /-- KEY_LOAD (R384): LOAD unwraps an imported key, or a public key, into a slot. -/
  | keyLoad (e : Env) (a : KeyAttrs) (anchor : Bool) (pub : List Byte) (w : KeyWrap)
  /-- KEY_DERIVE (R385): DERIVE creates a child key by SP 800-108 from a derive-only parent. -/
  | keyDerive (e : Env) (parent : Nat) (label : List Byte) (ctx : List Byte) (a : KeyAttrs)
  /-- KEY_INVALIDATE (R383): KEY.INVALIDATE makes a key and its descendants invalid at the next boundary. -/
  | keyInvalidate (e : Env) (slot : Nat)
  /-- KEY_EXPORT_PUBLIC (R383): EXPORT_PUBLIC returns the public key of a slot. -/
  | keyExportPublic (e : Env) (slot : Nat)
  /-- HANDOVER_WRAP (R393): HANDOVER_WRAP wraps every SURVIVE key for the target measurement into a blob. -/
  | handoverWrap (e : Env) (target : Nat)
  /-- DENY_LOAD (R383): DENY_LOAD replaces the deny list as a whole at the next boundary. -/
  | denyLoad (e : Env) (digests : List Nat)
  /-- CRYPTO_OPERATION_COMPLETE (R381): A vault operation completes and delivers its result. -/
  | cryptoOperationComplete
  /-- ATTEST (R396): ATTEST returns the attestation message with its MAC under slot 4. -/
  | attest (e : Env) (challenge : List Byte)
  /-- OTP_PROGRAM (R400): OTP_PROGRAM starts programming the lowest unspent generation of a block. -/
  | otpProgram (e : Env) (block : Nat) (payload : List Byte) (w : KeyWrap)
  /-- OTP_PROGRAM_DONE (R400): OTP programming ends with a read-back that passes or fails. -/
  | otpProgramDone (readOk : Bool)
  /-- OTP_RETIRE (R401): A commit of OTP.RETIRE blows the named retire fuses. -/
  | otpRetire
  /-- LIFECYCLE_TRANSITION (R403): A commit of LC_TARGET moves the life-cycle state and restarts the logic die. -/
  | lifecycleTransition (serial : BitVec 128)
  /-- LEDGE_SUPPLY_LOSS (R489): VLEDGE falls below its range, and the share, the RTC and the held tamper counts are lost. -/
  | ledgeSupplyLoss
  /-- TSN_FRAME_RECEIVE (R408): A TSN frame is received, learned and forwarded within its VLAN. -/
  | tsnFrameReceive (p : Fin 17) (tick : Fin 625) (f : TsnFrame)
  /-- TSN_FRAME_TRANSMIT (R411): A queued frame starts only when it ends before its gate closes. -/
  | tsnFrameTransmit (p : Fin 16) (tick : Fin 625)
  /-- GATE_CONTROL_ENTRY (R410): A gate control list entry's duration elapses, and the next gate mask applies. -/
  | gateControlEntry (p : Fin 16)
  /-- FDB_AGE_OUT (R408): A learned forwarding entry ages out after AGE_TIME. -/
  | fdbAgeOut (vid : Nat) (mac : BitVec 48)
  /-- TSN_LINK_CHANGE (R407): A TSN port link goes up or down. -/
  | tsnLinkChange (p : Fin 16) (up : Bool)
  /-- AS_SYNC_RECEIVE (R413): An 802.1AS message is received and bridged or used for site time. -/
  | asSyncReceive (p : Fin 16) (m : SyncMsg)
  /-- AS_MESSAGE_TIMER (R413): The Sync or Pdelay interval elapses, and an 802.1AS message is sent. -/
  | asMessageTimer (p : Fin 16) (sync : Bool)
  /-- ICMP_ECHO (R415): An ICMP echo to the host endpoint is answered. -/
  | icmpEcho (v6 : Bool)
  /-- T1S_FRAME_RECEIVE (R416): A 10BASE-T1S frame is received, and frames from undeclared nodes are discarded. -/
  | t1sFrameReceive (p : Fin 48) (f : T1sFrame)
  /-- PLCA_BEACON (R416): The PLCA coordinator sends a beacon at the start of each cycle. -/
  | plcaBeacon (p : Fin 48)
  /-- T1S_NODE_LOST (R417): NODE_MISS tides without a frame mark a peripheral node lost. -/
  | t1sNodeLost (p : Fin 48) (j : Fin 8)
  /-- CAN_FRAME_RECEIVE (R420): A received CAN frame is written to the receive ring. -/
  | canFrameReceive (c : Fin 8) (f : CanFrame)
  /-- CAN_TRANSMIT (R422): A mailbox frame is sent in identifier priority. -/
  | canTransmit (c : Fin 8) (queued : List CanBox) (acked : Bool) (tec : Nat)
  /-- CAN_TX_TIMEOUT (R422): A frame not sent within TX_TIMEOUT is aborted. -/
  | canTxTimeout (c : Fin 8)
  /-- CAN_ACK_ERROR (R424): LONE_LIMIT consecutive acknowledge errors put the controller in the lone state. -/
  | canAckError (c : Fin 8)
  /-- CAN_LONE_PROBE (R424): Every LONE_PROBE tides the lone controller sends its highest-priority frame once. -/
  | canLoneProbe (c : Fin 8) (acked : Bool) (tec : Nat)
  /-- CAN_BUSOFF_RECOVERY (R424): After bus-off and 128 × 11 recessive bits, the controller restarts if BUSOFF_AUTO is set. -/
  | canBusoffRecovery (c : Fin 8)
  /-- BUSOFF_RESTART (R424): BUSOFF_RESTART = 1 restarts a controller after bus-off. -/
  | busoffRestart (c : Fin 8)
  /-- RATE_DETECT_DWELL (R423): DETECT_DWELL tides pass, and rate detection moves to the next candidate. -/
  | rateDetectDwell (c : Fin 8)
  /-- SENT_FRAME_RECEIVE (R432): A SENT frame is checked and scaled into the channel values. -/
  | sentFrameReceive (n : Fin 16) (f : SentFrame)
  /-- SENT_TIMEOUT (R432): TIMEOUT ms without a valid frame make the channel values invalid. -/
  | sentTimeout (n : Fin 16)
  /-- COMMAND_REQUEST_RECEIVE (R447): A command request arriving over TLS or the chain enters the queue of 64. -/
  | commandRequestReceive (e : Env) (op : Nat)
  /-- READ (R448): READ returns up to 256 words as one snapshot. -/
  | read (e : Env) (addr : Nat) (words : Nat)
  /-- WRITE (R449): WRITE queues RI field values for APPLY_TIDE and clears WC bits at once. -/
  | write (e : Env) (entries : List WEntry)
  /-- REGISTER_WRITE (R12): A write or stage of a field with no behaviour of its own is accepted or refused by its access code and range. -/
  | registerWrite (e : Env) (txn : Option Nat) (w : WEntry)
  /-- BEGIN (R450): BEGIN opens a device or cove transaction. -/
  | beginTxn (e : Env) (cove : Bool)
  /-- STAGE (R450): STAGE adds RT field values to the open transaction. -/
  | stage (e : Env) (txn : Nat) (entries : List SEntry)
  /-- COMMIT (R451): COMMIT validates the staged set and makes it pending for a boundary. -/
  | commit (e : Env) (txn : Nat)
  /-- ROLLBACK (R450): ROLLBACK discards the open transaction. -/
  | rollback (e : Option Env) (txn : Nat)
  /-- BUFFER_READ (R448): BUFFER_READ returns bytes from a buffer resource. -/
  | bufferRead (e : Env) (rid : Nat) (ofs : Nat) (len : Nat)
  /-- SUBSCRIBE (R453): SUBSCRIBE binds periodic telemetry and event watching to the connection. -/
  | subscribe (e : Env) (period : Nat) (ranges : Ranges) (blocks : BitVec 32)
  /-- ISSUER_PURGE (R442): ISSUER_PURGE frees an issuer entry whose certificate has expired. -/
  | issuerPurge (e : Env) (entry : Nat)
  /-- ISSUER_REVOKE (R442): Staging ISS_STATE = 0x2 revokes an issuer. -/
  | issuerRevoke (e : Env) (txn : Nat) (entry : Fin 32)
  /-- TRANSACTION_TIMEOUT (R450): An open transaction reaching 6,000 tides is rolled back. -/
  | transactionTimeout
  /-- PREPARE_RECEIVE (R452): A target stages and validates a cove-wide PREPARE and answers READY or an error. -/
  | prepareReceive (fields : List FieldInit)
  /-- READY_RECEIVE (R452): The head collects READY answers and sends COMMIT_AT or rolls back. -/
  | readyReceive (target : ChainAddr) (serial : BitVec 128) (error : Nat)
  /-- COMMIT_AT_RECEIVE (R452): A target holds COMMIT_AT for application at boundary N and acknowledges. -/
  | commitAtReceive (n : Nat)
  /-- COMMIT_AT_ACK_RECEIVE (R452): The head collects acknowledgements and replies once all have arrived. -/
  | commitAtAckReceive (target : ChainAddr)
  /-- COVE_COMMIT_DEADLINE (R452): Tide N arrives with targets unacknowledged, and the head replies 0x190D. -/
  | coveCommitDeadline
  /-- COMMAND_CONNECTION_CLOSE (R453): A closed command connection ends its subscriptions. -/
  | commandConnectionClose (conn : Nat)
  /-- UPDATE_OPEN (R458): OPEN writes the target descriptor and starts erasing the target bank. -/
  | updateOpen (e : Env) (a : OpenArgs)
  /-- BANK_ERASE_DONE (R458): Erasure and any copy complete, and UPD.STATE reads 0x2. -/
  | bankEraseDone
  /-- UPDATE_CHUNK (R459): CHUNK writes the next in-order part of an image. -/
  | updateChunk (e : Env) (tt : Bool) (ofs : Nat) (data : List Byte) (f : Option FwImage) (t : Option TtImage)
  /-- UPDATE_VERIFY (R460): VERIFY starts the start-up checks on the target bank. -/
  | updateVerify (e : Env)
  /-- VERIFY_COMPLETE (R460): Verification ends, setting the target verified and wrapping keys, or failed. -/
  | verifyComplete
  /-- UPDATE_ACTIVATE (R461): ACTIVATE is checked and made pending. -/
  | updateActivate (e : Env)
  /-- UPDATE_ABORT (R457): ABORT ends the update in progress. -/
  | updateAbort (e : Env)
  /-- ACTIVATION_BEGIN (R463): At the first idle boundary, activation writes the header and resets into the new bank. -/
  | activationBegin (readOk : Bool)
  /-- ACT_WAIT_EXPIRY (R462): ACT_WAIT tides pass without a start, and the pending activation is abandoned. -/
  | actWaitExpiry
  /-- TRIAL_CONFIRM (R466): After CONFIRM_AFTER tides in RUN, the trial bank confirms itself. -/
  | trialConfirm
  /-- TRIAL_DEADLINE (R466): 60,000 tides without confirmation reset the device with cause 0x04. -/
  | trialDeadline
  /-- IMAGE_FRAME_RECEIVE (R473): An IMAGE frame on CH_0 carries strand-mode request bytes. -/
  | imageFrameReceive (e : Env) (op : Nat) (whole : Bool)
  /-- MRAM_PARAM_SWITCH (R482): Four waves after a rising code change, the MRAM write parameters switch to the new band. -/
  | mramParamSwitch
  /-- WARNING_EXIT (R485): TJ_MAX below 135 °C for 100 tides returns the state to NORMAL. -/
  | warningExit
  /-- LOW_WATER_BEGIN (R486): At boundary L low water stops every energised session and begins opening the matrix. -/
  | lowWaterBegin
  /-- LOW_WATER_SAVE (R486): Once the matrix is open, the low-water save record, settings and cable states are written. -/
  | lowWaterSave
  /-- LOW_WATER_EXIT (R485): TJ_MAX below LW_EXIT for 100 tides ends low water. -/
  | lowWaterExit
  /-- HARD_SHUTDOWN (R487): A logic-die sensor at 160 °C resets the logic die with cause 0x06. -/
  | hardShutdown
  /-- HARD_SHUTDOWN_RELEASE (R487): All logic-die sensors below 130 °C release the logic die to start. -/
  | hardShutdownRelease
  /-- SUPPLY_OUT_OF_RANGE (R488): A monitored supply leaves its range and holds the logic die in reset with cause 0x01. -/
  | supplyOutOfRange
  /-- HOLDUP_STORE_TEST (R490): Every 6,000 tides the hold-up store is read against HOLD_MIN. -/
  | holdupStoreTest
  /-- BIST_REQUEST (R492): BIST.REQ runs the requested self-tests through a restart. -/
  | bistRequest
  /-- POWER_DIE_START (R49): VLS_A or VLS_B comes up, and the power die starts: channels start off with TRIES 0, the cut island seeds its challenge sequence and tests both switches of every SOUT channel. -/
  | powerDieStart (vls : BitVec 2) (switchesOk : Bool)
  /-- REFCLK_RETURN (R16): REFCLK runs again after a stop, and the timebase resumes counting ticks. -/
  | refclkReturn
  /-- TAMPER_INPUT_INACTIVE (R295): A TAMP input becomes inactive after 2 samples at the other level, clearing the class condition that SEAL_CLR waits on. -/
  | tamperInputInactive (c : Fin 8) (level : Bool)
  /-- CHAIN_LINK_DOWN (R425): A chain link loses symbol lock or its far end, and LINK_STATE falls to down. -/
  | chainLinkDown (link : Fin 8)
  /-- OPEN_LOAD_CLEAR (R216): The channel current reaches OL_THRESH, and OPEN_LOAD clears. -/
  | openLoadClear (c : Fin 32) (n : Nat)
  /-- DRIVE_SUPPLY_RECOVER (R211): VDRV rises above 9.0 V, and bridge condition 0x04 ends. -/
  | driveSupplyRecover (v : Nat)
  /-- LIFECYCLE_CHANGE_DONE (R403): The IDENT programming, or the store erase and fuse blow of retirement, completes within its bound, and the logic die restarts with cause 0x03. -/
  | lifecycleChangeDone
  /-- VLEDGE_LOW (R495): VLEDGE falls below 2.6 V, and LEDGE EVENT bit 3 is set, which ACTIVATE then refuses under R461. -/
  | vledgeLow (mv : Fin 4096)
  deriving DecidableEq, Repr

end Sys2Proof
end

