-- ==== Sys2Proof/Decode.lean ====
section
/-! DEFINITION. Table words: no row of spec/opcode_table.json gives its command any bits, so no word spells a command. -/
namespace Sys2Proof

/-- The command a table word spells: none, since the table gives no row bits. -/
def decodeTableWord (_nbits _w : Nat) : Option Instr := none

end Sys2Proof
end

