-- ==== Sys2Proof/Machine/Float.lean ====
section
/-! DEFINITION. IEEE 754 binary32 arithmetic with round-to-nearest-even (R175), over exact dyadic integers.
A not-a-number result is the quiet NaN 0x7FC0_0000 of R174. -/
namespace Sys2Proof.Machine

/-- A binary32 value as its bits. -/
abbrev F32 := BitVec 32

/-- What the bits of a binary32 value stand for. -/
inductive FVal where
  | nan
  | inf (neg : Bool)
  /-- The value (−1)^neg × m × 2^e. -/
  | fin (neg : Bool) (m : Nat) (e : Int)
  deriving DecidableEq, Repr

/-- The quiet NaN that R174 names. -/
def fNaN : F32 := 0x7FC00000#32

/-- Decode the bits. -/
def fVal (x : F32) : FVal :=
  let b := x.toNat
  let neg := decide (2147483648 ≤ b)
  let e := b / 8388608 % 256
  let m := b % 8388608
  if e = 255 then (if m = 0 then .inf neg else .nan)
  else if e = 0 then .fin neg m (-149)
  else .fin neg (m + 8388608) ((e : Int) - 150)

/-- Attach the sign bit. -/
def fSign (neg : Bool) (b : Nat) : F32 := BitVec.ofNat 32 (b + if neg then 2147483648 else 0)

/-- Round (−1)^neg × (m + sticky) × 2^e to binary32, ties to even; `sticky` says that a positive amount below
one unit of `m` was dropped. -/
def fRound (neg : Bool) (m : Nat) (e : Int) (sticky : Bool) : F32 :=
  if m = 0 then fSign neg 0
  else
    let bl : Int := (Nat.log2 m + 1 : Nat)
    let s : Int := max (bl - 24) (-149 - e)
    let q : Nat :=
      if s ≤ 0 then m * 2 ^ (-s).toNat
      else
        let d := 2 ^ s.toNat
        let q0 := m / d
        let r := m % d
        let up := decide (d < 2 * r) || (decide (d = 2 * r) && (sticky || decide (q0 % 2 = 1)))
        if up then q0 + 1 else q0
    let bits : Nat := (e + s + 149).toNat * 8388608 + q
    if 0x7F800000 ≤ bits then fSign neg 0x7F800000 else fSign neg bits

/-- Round an exact dyadic integer to binary32; `neg0` gives the sign of a zero. -/
def fOfDyadic (n : Int) (e : Int) (neg0 : Bool) : F32 :=
  if n = 0 then fSign neg0 0 else fRound (decide (n < 0)) n.natAbs e false

/-- Convert an integer to binary32 (R175). -/
def fOfInt (n : Int) : F32 := fOfDyadic n 0 false

/-- The signed mantissa of a finite value. -/
def fMant (neg : Bool) (m : Nat) : Int := if neg then -(m : Int) else (m : Int)

/-- Sum. -/
def fAdd (x y : F32) : F32 :=
  match fVal x, fVal y with
  | .nan, _ | _, .nan => fNaN
  | .inf a, .inf b => if a = b then x else fNaN
  | .inf _, _ => x
  | _, .inf _ => y
  | .fin a m e, .fin b n f =>
    let g := min e f
    fOfDyadic (fMant a m * 2 ^ (e - g).toNat + fMant b n * 2 ^ (f - g).toNat) g (a && b)

/-- Negation. -/
def fNeg (x : F32) : F32 := x ^^^ 0x80000000#32

/-- Difference. -/
def fSub (x y : F32) : F32 := fAdd x (fNeg y)

/-- Product. -/
def fMul (x y : F32) : F32 :=
  match fVal x, fVal y with
  | .nan, _ | _, .nan => fNaN
  | .inf a, .inf b => fSign (a != b) 0x7F800000
  | .inf a, .fin b n _ => if n = 0 then fNaN else fSign (a != b) 0x7F800000
  | .fin a m _, .inf b => if m = 0 then fNaN else fSign (a != b) 0x7F800000
  | .fin a m e, .fin b n f => fRound (a != b) (m * n) (e + f) false

/-- Quotient. -/
def fDiv (x y : F32) : F32 :=
  match fVal x, fVal y with
  | .nan, _ | _, .nan => fNaN
  | .inf _, .inf _ => fNaN
  | .inf a, .fin b _ _ => fSign (a != b) 0x7F800000
  | .fin a _ _, .inf b => fSign (a != b) 0
  | .fin a m e, .fin b n f =>
    if n = 0 then (if m = 0 then fNaN else fSign (a != b) 0x7F800000)
    else fRound (a != b) (m * 2 ^ 64 / n) (e - f - 64) (decide (m * 2 ^ 64 % n ≠ 0))

/-- The value is finite. -/
def fFinite (x : F32) : Bool := decide (x.toNat / 8388608 % 256 ≠ 255)

/-- Strict order of finite values (false where either is not a number). -/
def fLt (x y : F32) : Bool :=
  match fVal x, fVal y with
  | .nan, _ | _, .nan => false
  | .inf a, .inf b => a && !b
  | .inf a, _ => a
  | _, .inf b => !b
  | .fin a m e, .fin b n f =>
    let g := min e f
    decide (fMant a m * 2 ^ (e - g).toNat < fMant b n * 2 ^ (f - g).toNat)

/-- Order (false where either is not a number). -/
def fLe (x y : F32) : Bool :=
  match fVal x, fVal y with
  | .nan, _ | _, .nan => false
  | _, _ => !fLt y x

/-- Magnitude. -/
def fAbs (x : F32) : F32 := x &&& 0x7FFFFFFF#32

/-- The lesser of two values. -/
def fMin (x y : F32) : F32 := if fLt y x then y else x

/-- The greater of two values. -/
def fMax (x y : F32) : F32 := if fLt x y then y else x

/-- Limit to a range. -/
def fClamp (lo hi x : F32) : F32 := fMin hi (fMax lo x)

/-- Round the exact quotient of two integers half to even (round_half_even of the spec's computing rules). -/
def roundHalfEven (n d : Int) : Int :=
  if d = 0 then 0
  else
    let n' := if d < 0 then -n else n
    let d' := if d < 0 then -d else d
    let q := n' / d'
    let r := n' % d'
    if d' < 2 * r then q + 1 else if 2 * r = d' ∧ q % 2 = 1 then q + 1 else q

/-- Round a finite value to the nearest integer, ties to even; the default where it is not finite. -/
def fToInt (x : F32) (d : Int) : Int :=
  match fVal x with
  | .fin a m e =>
    if 0 ≤ e then fMant a m * 2 ^ e.toNat else roundHalfEven (fMant a m) (2 ^ (-e).toNat)
  | _ => d

end Sys2Proof.Machine
end

