-- ==== Sys2Proof/Config.lean ====
section
/-! DEFINITION. Free values: what the spec leaves to an implementation or to an external standard. Each is an opaque
constant; a statement that holds, holds whatever they are. -/
namespace Sys2Proof.Config

/-- The device's own MAC address, which the spec does not give. -/
opaque ownMac : BitVec 48

/-- TEXT of a keypad's DISPLAY frame by its result: 20 bytes, which the spec does not word (Table 14.3). -/
opaque displayText : Nat → BitVec 160

/-- A fresh 32-bit value the spec does not fix: challenge sequence, random source, unstated results. The argument is
the state's counter of free values. -/
opaque freeWord : Nat → BitVec 32

/-- A fresh 48-byte value (random source, signatures, wrapped blobs). -/
opaque freeBlock : Nat → BitVec 384

/-- SHA-384 (an external standard), over bytes. -/
opaque sha384 : List Byte → BitVec 384

/-- HMAC-SHA-384 (an external standard): key handle and message. -/
opaque hmac384 : Nat → List Byte → BitVec 384

/-- SHA-256 (an external standard), over bytes. -/
opaque sha256 : List Byte → BitVec 256

/-- An ECDSA P-384 signature (r ‖ s, 96 bytes as a number) under a private scalar over a digest (an external standard); the
last argument stands for the random source. -/
opaque p384Sign : Nat → Nat → Nat → BitVec 768

/-- The x-coordinate of a scalar times a public point, its first byte lowest (ECDH on P-384, an external standard). -/
opaque p384Dh : Nat → List Byte → BitVec 384

/-- KWP unwrapping of NIST SP 800-38F under a key: the bytes wrapped, or none where the integrity check fails (an external
standard). -/
opaque kwpUnwrap : Nat → List Byte → Option (List Byte)

/-- The public key (x ‖ y, 96 bytes as a number) of a P-384 private scalar (an external standard). -/
opaque p384Public : Nat → BitVec 768
/-- The share of R139 where every weight or rating of the sharing cabinets is 0 and its divisor with them: current command and
cabinet. -/
opaque zeroShare : Int → Nat → Int

/-- exp, sin and the power function in binary32, whose rounding the spec does not state (R183, R186, R192). -/
opaque fexp : BitVec 32 → BitVec 32

/-- Sine of an angle in radians. -/
opaque fsin : BitVec 32 → BitVec 32

/-- Power. -/
opaque fpow : BitVec 32 → BitVec 32 → BitVec 32

/-- SIG_EXP, the exclusive-or of the fixed check words of R336, whose constants the spec does not give. -/
opaque sigExp : BitVec 32

/-- SHA-384 of the manufacturing key held in ROM, which the spec does not print (R399, R440). -/
opaque mfgRoot : BitVec 384

/-- The error code, less one, of a RECORD_READ of a record the store does not hold or that is still open, which the spec
does not state (R448). -/
opaque noRecord : BitVec 15

/-- The error code, less one, of a BUFFER_READ of a buffer the image does not declare, or beyond its end, which the spec does
not state (R448). -/
opaque noBuffer : BitVec 15

/-- The error code, less one, of a write to a resource without an owner, which R44 refuses without naming it. -/
opaque noOwner : BitVec 15

end Sys2Proof.Config
end

