-- ==== Sys2Proof/Machine/Field.lean ====
section
/-! DEFINITION. Fields of the object maps (R8 to R12, R514, R515): where a field lies, its width, its access
code, its default and the values a write may give it. -/
namespace Sys2Proof.Machine

/-- The access codes of Table 0.4. -/
inductive Acc where
  /-- Read only: every write is refused. -/
  | ro
  /-- Transactional: written only by STAGE, takes effect when the commit is applied. -/
  | rt
  /-- Immediate at boundary: written by WRITE, takes effect at the next tide boundary. -/
  | ri
  /-- Write 1 to clear: a WRITE entry's value is a mask that clears bits at once. -/
  | wc
  /-- One-time programmable: every write is refused. -/
  | ot
  deriving DecidableEq, Repr

/-- The ranges of binary32 fields (R175: finite values). -/
inductive FloatRange where
  | any | nonneg | pos | unit
  deriving DecidableEq, Repr

/-- The values a field's description defines (R514, R515). -/
inductive Legal where
  /-- Every value of the field's width. -/
  | any
  /-- An unsigned range, both ends included. -/
  | upTo (lo hi : Nat)
  /-- An unsigned range, or one further named value. -/
  | upToOr (lo hi v : Nat)
  /-- An enumeration. -/
  | oneOf (vs : List Nat)
  /-- A two's-complement range. -/
  | signed (lo hi : Int)
  /-- A two's-complement range of multiples. -/
  | signedStep (lo hi : Int) (m : Nat)
  /-- An unsigned range of multiples. -/
  | step (lo hi m : Nat)
  /-- A binary32 value of the range. -/
  | f32 (r : FloatRange)
  /-- A daylight-saving instant (R275). -/
  | dstInstant
  /-- OC_TRIP of Table 7.3, by the size of the channel. -/
  | lsOcTrip
  /-- OL_THRESH of Table 7.3, by the size of the channel. -/
  | lsOlThresh
  /-- Codes of four bits each, none above the bound. -/
  | nibbles (hi : Nat)
  deriving DecidableEq, Repr

/-- Defaults that the map gives per instance. -/
inductive DefaultRule where
  /-- One default for every instance. -/
  | const
  /-- LS.SIZE: 0 for channels 0 to 23, 1 for channels 24 to 31. -/
  | lsSize
  /-- LS.SUPPLY: 0 (VLS_A) for channels 0 to 15, 1 (VLS_B) for channels 16 to 31. -/
  | lsSupply
  /-- LS.OC_TRIP: the rated current of the channel. -/
  | lsOcTrip
  /-- TAMP.RESPONSE: Table 9.5. -/
  | tampResponse
  /-- T1S.ROLE: vehicle ports and peripheral ports. -/
  | t1sRole
  /-- T1S.PLCA_EN: by role. -/
  | t1sPlca
  deriving DecidableEq, Repr

/-- One field of an object map, for every instance and repetition that carries it. -/
structure Fld where
  /-- Object address of the word at its first instance and first repetition. -/
  base : Nat
  /-- Lowest bit. -/
  lo : Nat
  /-- Width in bits. -/
  w : Nat
  acc : Acc
  /-- The value the field holds when neither the image nor a stored setting sets it (R10). -/
  dflt : Nat
  dr : DefaultRule := .const
  /-- Number of instances. -/
  insts : Nat := 1
  /-- Outer repetition: stride in bytes and count. -/
  s1 : Nat := 0
  n1 : Nat := 1
  /-- Inner repetition: stride in bytes and count. -/
  s2 : Nat := 0
  n2 : Nat := 1
  legal : Legal := .any
  deriving DecidableEq, Repr

/-- The block identifier of the field (R8). -/
def Fld.block (f : Fld) : Nat := f.base / 0x1000000

/-- The object address of the field's word at instance `n` (counted from the first that carries it) and
repetition `i`, `j`. -/
def Fld.addr (f : Fld) (n i j : Nat) : Nat := f.base + n * 0x10000 + i * f.s1 + j * f.s2

/-- The register file's key of the field: word address and lowest bit. -/
def Fld.key (f : Fld) (n i j : Nat) : Nat := f.addr n i j * 32 + f.lo

/-- The default value at an instance (R10). -/
def Fld.default (f : Fld) (n : Nat) : Nat :=
  match f.dr with
  | .const => f.dflt
  | .lsSize => if n < 24 then 0 else 1
  | .lsSupply => if n < 16 then 0 else 1
  | .lsOcTrip => if n < 24 then 1500 else 6000
  | .tampResponse => if n = 12 ∨ n = 14 ∨ n = 15 then 1 else 0
  | .t1sRole => if n < 32 then 1 else 2
  | .t1sPlca => if n < 32 then 0 else 1

/-- The instance and repetition at which the field lies in the word at `addr`, if it does. -/
def Fld.locate (f : Fld) (addr : Nat) : Option (Nat × Nat × Nat) :=
  let inst0 := f.base / 0x10000
  let inst := addr / 0x10000
  let off0 := f.base % 0x10000
  let off := addr % 0x10000
  if inst < inst0 ∨ inst0 + f.insts ≤ inst ∨ off < off0 then none
  else
    let d := off - off0
    let i := if f.s1 = 0 then 0 else min (d / f.s1) (f.n1 - 1)
    let d2 := d - i * f.s1
    let j := if f.s2 = 0 then 0 else min (d2 / f.s2) (f.n2 - 1)
    if d2 = j * f.s2 then some (inst - inst0, i, j) else none

/-- Two's-complement reading of a value of the given width. -/
def signedOf (w v : Nat) : Int := if v % 2 ^ w < 2 ^ (w - 1) then (v % 2 ^ w : Nat) else (v % 2 ^ w : Nat) - (2 ^ w : Nat)

/-- Two's-complement coding of an integer in the given width. -/
def unsignedOf (w : Nat) (v : Int) : Nat := (v % (2 ^ w : Nat)).toNat

end Sys2Proof.Machine
end

