-- ==== Sys2Proof/Machine/MapCore.lean ====
section
/-! DEFINITION. Object maps of the blocks DEV, TIDE, CHAIN, ALLOC: every field with its place, width,
access code, default and legal values, in the order of the spec's tables. -/
namespace Sys2Proof.Machine

/-- DEV.SERIAL, Table 2.9. -/
def Reg.DEV_SERIAL : Fld where base := 0x01000000; lo := 0; w := 32; acc := .ro; dflt := 0; s1 := 0x4; n1 := 4
/-- DEV.SILICON_REV, Table 2.9. -/
def Reg.DEV_SILICON_REV : Fld where base := 0x01000010; lo := 0; w := 8; acc := .ro; dflt := 2
/-- DEV.LIFECYCLE, Table 2.9. -/
def Reg.DEV_LIFECYCLE : Fld where base := 0x01000014; lo := 0; w := 3; acc := .ro; dflt := 0
/-- DEV.START_MODE, Table 2.9. -/
def Reg.DEV_START_MODE : Fld where base := 0x01000018; lo := 0; w := 2; acc := .ro; dflt := 0
/-- DEV.STRAPS, Table 2.9. -/
def Reg.DEV_STRAPS : Fld where base := 0x0100001C; lo := 0; w := 3; acc := .ro; dflt := 0
/-- DEV.RESET_CAUSE, Table 2.9. -/
def Reg.DEV_RESET_CAUSE : Fld where base := 0x01000020; lo := 0; w := 8; acc := .ro; dflt := 1
/-- DEV.START_EXIT, Table 2.9. -/
def Reg.DEV_START_EXIT : Fld where base := 0x01000024; lo := 0; w := 16; acc := .ro; dflt := 0
/-- DEV.START_DETAIL, Table 2.9. -/
def Reg.DEV_START_DETAIL : Fld where base := 0x01000028; lo := 0; w := 16; acc := .ro; dflt := 0
/-- DEV.FAILED_STARTS, Table 2.9. -/
def Reg.DEV_FAILED_STARTS : Fld where base := 0x0100002C; lo := 0; w := 4; acc := .ro; dflt := 0
/-- DEV.BOOT_BANK, Table 2.9. -/
def Reg.DEV_BOOT_BANK : Fld where base := 0x01000030; lo := 0; w := 1; acc := .ro; dflt := 0
/-- DEV.FW_SVN, Table 2.9. -/
def Reg.DEV_FW_SVN : Fld where base := 0x01000034; lo := 0; w := 32; acc := .ro; dflt := 0
/-- DEV.TT_SVN, Table 2.9. -/
def Reg.DEV_TT_SVN : Fld where base := 0x01000038; lo := 0; w := 32; acc := .ro; dflt := 0
/-- DEV.START_TIME, Table 2.9. -/
def Reg.DEV_START_TIME : Fld where base := 0x0100003C; lo := 0; w := 16; acc := .ro; dflt := 0
/-- DEV.MEASURE, Table 2.9. -/
def Reg.DEV_MEASURE : Fld where base := 0x01000040; lo := 0; w := 32; acc := .ro; dflt := 0; s1 := 0x4; n1 := 12
/-- DEV.SETTINGS_GEN, Table 2.9. -/
def Reg.DEV_SETTINGS_GEN : Fld where base := 0x01000070; lo := 0; w := 32; acc := .ro; dflt := 0
/-- DEV.INHIBIT, Table 2.9. -/
def Reg.DEV_INHIBIT : Fld where base := 0x01000074; lo := 0; w := 4; acc := .ro; dflt := 0
/-- DEV.DEFAULTS_ACK, Table 2.9. -/
def Reg.DEV_DEFAULTS_ACK : Fld where base := 0x01000078; lo := 0; w := 1; acc := .rt; dflt := 0
/-- DEV.RESTART, Table 2.9. -/
def Reg.DEV_RESTART : Fld where base := 0x0100007C; lo := 0; w := 8; acc := .rt; dflt := 0; legal := .oneOf [0, 0xA5]
/-- DEV.START_EXIT2, Table 2.9. -/
def Reg.DEV_START_EXIT2 : Fld where base := 0x01000080; lo := 0; w := 16; acc := .ro; dflt := 0
/-- DEV.START_DETAIL2, Table 2.9. -/
def Reg.DEV_START_DETAIL2 : Fld where base := 0x01000080; lo := 16; w := 16; acc := .ro; dflt := 0

/-- Fields of DEV, part 1. -/
def fieldListDEV1 : List Fld :=
  [Reg.DEV_SERIAL, Reg.DEV_SILICON_REV, Reg.DEV_LIFECYCLE, Reg.DEV_START_MODE,
   Reg.DEV_STRAPS, Reg.DEV_RESET_CAUSE, Reg.DEV_START_EXIT, Reg.DEV_START_DETAIL,
   Reg.DEV_FAILED_STARTS, Reg.DEV_BOOT_BANK, Reg.DEV_FW_SVN, Reg.DEV_TT_SVN,
   Reg.DEV_START_TIME, Reg.DEV_MEASURE, Reg.DEV_SETTINGS_GEN, Reg.DEV_INHIBIT,
   Reg.DEV_DEFAULTS_ACK, Reg.DEV_RESTART, Reg.DEV_START_EXIT2, Reg.DEV_START_DETAIL2]
/-- The fields of DEV in the order of its object map. -/
def fieldsDEV : List Fld := fieldListDEV1

/-- TIDE.NUMBER_LO, Table 1.9. -/
def Reg.TIDE_NUMBER_LO : Fld where base := 0x02000000; lo := 0; w := 32; acc := .ro; dflt := 0
/-- TIDE.NUMBER_HI, Table 1.9. -/
def Reg.TIDE_NUMBER_HI : Fld where base := 0x02000004; lo := 0; w := 32; acc := .ro; dflt := 0
/-- TIDE.WAVE, Table 1.9. -/
def Reg.TIDE_WAVE : Fld where base := 0x02000008; lo := 0; w := 9; acc := .ro; dflt := 0
/-- TIDE.TICK, Table 1.9. -/
def Reg.TIDE_TICK : Fld where base := 0x02000008; lo := 16; w := 10; acc := .ro; dflt := 0
/-- TIDE.IMAGE_TAG, Table 1.9. -/
def Reg.TIDE_IMAGE_TAG : Fld where base := 0x0200000C; lo := 0; w := 32; acc := .ro; dflt := 0
/-- TIDE.RESERVE_TICKS, Table 1.9. -/
def Reg.TIDE_RESERVE_TICKS : Fld where base := 0x02000010; lo := 0; w := 10; acc := .ro; dflt := 125
/-- TIDE.FENCE_TICKS, Table 1.9. -/
def Reg.TIDE_FENCE_TICKS : Fld where base := 0x02000010; lo := 16; w := 10; acc := .ro; dflt := 8
/-- TIDE.PAUSE, Table 1.9. -/
def Reg.TIDE_PAUSE : Fld where base := 0x02000014; lo := 0; w := 10; acc := .ro; dflt := 0
/-- TIDE.DEMAND, Table 1.9. -/
def Reg.TIDE_DEMAND : Fld where base := 0x02000014; lo := 16; w := 10; acc := .ro; dflt := 0
/-- TIDE.SHED, Table 1.9. -/
def Reg.TIDE_SHED : Fld where base := 0x02000018; lo := 0; w := 3; acc := .ro; dflt := 0
/-- TIDE.SHED_COUNT, Table 1.9. -/
def Reg.TIDE_SHED_COUNT : Fld where base := 0x0200001C; lo := 0; w := 32; acc := .ro; dflt := 0
/-- TIDE.BREACH_FLAGS, Table 1.9. -/
def Reg.TIDE_BREACH_FLAGS : Fld where base := 0x02000020; lo := 0; w := 5; acc := .wc; dflt := 0
/-- TIDE.BREACH_COUNT, Table 1.9. -/
def Reg.TIDE_BREACH_COUNT : Fld where base := 0x02000024; lo := 0; w := 32; acc := .ro; dflt := 0
/-- TIDE.FAULT_COUNT, Table 1.9. -/
def Reg.TIDE_FAULT_COUNT : Fld where base := 0x02000028; lo := 0; w := 32; acc := .ro; dflt := 0
/-- TIDE.INFLIGHT, Table 1.9. -/
def Reg.TIDE_INFLIGHT : Fld where base := 0x0200002C; lo := 0; w := 9; acc := .ro; dflt := 0
/-- TIDE.PEAK, Table 1.9. -/
def Reg.TIDE_PEAK : Fld where base := 0x0200002C; lo := 16; w := 9; acc := .ro; dflt := 0
/-- TIDE.STALL_COUNT, Table 1.9. -/
def Reg.TIDE_STALL_COUNT : Fld where base := 0x02000030; lo := 0; w := 32; acc := .ro; dflt := 0
/-- TIDE.CREDIT_SUM, Table 1.9. -/
def Reg.TIDE_CREDIT_SUM : Fld where base := 0x02000034; lo := 0; w := 9; acc := .ro; dflt := 0
/-- TIDE.OWN_REFUSED, Table 1.9. -/
def Reg.TIDE_OWN_REFUSED : Fld where base := 0x02000038; lo := 0; w := 32; acc := .ro; dflt := 0
/-- TIDE.STAT_CLEAR, Table 1.9. -/
def Reg.TIDE_STAT_CLEAR : Fld where base := 0x0200003C; lo := 0; w := 1; acc := .ri; dflt := 0
/-- TIDE.CREDIT, Table 1.9. -/
def Reg.TIDE_CREDIT : Fld where base := 0x02000040; lo := 0; w := 9; acc := .ro; dflt := 0; s1 := 0x4; n1 := 32
/-- TIDE.SCRUB_PASS, Table 1.9. -/
def Reg.TIDE_SCRUB_PASS : Fld where base := 0x020000C0; lo := 0; w := 32; acc := .ro; dflt := 0
/-- TIDE.SCRUB_CORR, Table 1.9. -/
def Reg.TIDE_SCRUB_CORR : Fld where base := 0x020000C4; lo := 0; w := 32; acc := .ro; dflt := 0
/-- TIDE.SCRUB_UNCORR, Table 1.9. -/
def Reg.TIDE_SCRUB_UNCORR : Fld where base := 0x020000C8; lo := 0; w := 32; acc := .ro; dflt := 0
/-- TIDE.SCRUB_LATE, Table 1.9. -/
def Reg.TIDE_SCRUB_LATE : Fld where base := 0x020000CC; lo := 0; w := 1; acc := .ro; dflt := 0
/-- TIDE.PART_CLASS, Table 1.9. -/
def Reg.TIDE_PART_CLASS : Fld where base := 0x02000100; lo := 0; w := 3; acc := .ro; dflt := 0; s1 := 0x10; n1 := 64
/-- TIDE.PART_VALID, Table 1.9. -/
def Reg.TIDE_PART_VALID : Fld where base := 0x02000100; lo := 31; w := 1; acc := .ro; dflt := 0; s1 := 0x10; n1 := 64
/-- TIDE.PART_BREACH, Table 1.9. -/
def Reg.TIDE_PART_BREACH : Fld where base := 0x02000104; lo := 0; w := 32; acc := .ro; dflt := 0; s1 := 0x10; n1 := 64
/-- TIDE.PART_FAULT, Table 1.9. -/
def Reg.TIDE_PART_FAULT : Fld where base := 0x02000108; lo := 0; w := 32; acc := .ro; dflt := 0; s1 := 0x10; n1 := 64
/-- TIDE.PART_EVENT, Table 1.9. -/
def Reg.TIDE_PART_EVENT : Fld where base := 0x0200010C; lo := 0; w := 3; acc := .wc; dflt := 0; s1 := 0x10; n1 := 64
/-- TIDE.DMA_OWNER, Table 1.9. -/
def Reg.TIDE_DMA_OWNER : Fld where base := 0x02000500; lo := 0; w := 6; acc := .ro; dflt := 0; s1 := 0x10; n1 := 64
/-- TIDE.DMA_OWNED, Table 1.9. -/
def Reg.TIDE_DMA_OWNED : Fld where base := 0x02000500; lo := 31; w := 1; acc := .ro; dflt := 0; s1 := 0x10; n1 := 64
/-- TIDE.DMA_DESC, Table 1.9. -/
def Reg.TIDE_DMA_DESC : Fld where base := 0x02000504; lo := 0; w := 32; acc := .ro; dflt := 0; s1 := 0x10; n1 := 64
/-- TIDE.DMA_STATE, Table 1.9. -/
def Reg.TIDE_DMA_STATE : Fld where base := 0x02000508; lo := 0; w := 4; acc := .ro; dflt := 0; s1 := 0x10; n1 := 64
/-- TIDE.DMA_FAULT, Table 1.9. -/
def Reg.TIDE_DMA_FAULT : Fld where base := 0x02000508; lo := 8; w := 8; acc := .ro; dflt := 0; s1 := 0x10; n1 := 64
/-- TIDE.DMA_DONE, Table 1.9. -/
def Reg.TIDE_DMA_DONE : Fld where base := 0x0200050C; lo := 0; w := 32; acc := .ro; dflt := 0; s1 := 0x10; n1 := 64
/-- TIDE.REG_BASE, Table 1.9. -/
def Reg.TIDE_REG_BASE : Fld where base := 0x02001000; lo := 6; w := 26; acc := .ro; dflt := 0; s1 := 0x100; n1 := 64; s2 := 0x8; n2 := 32
/-- TIDE.REG_LIMIT, Table 1.9. -/
def Reg.TIDE_REG_LIMIT : Fld where base := 0x02001004; lo := 6; w := 26; acc := .ro; dflt := 0; s1 := 0x100; n1 := 64; s2 := 0x8; n2 := 32
/-- TIDE.REG_RIGHTS, Table 1.9. -/
def Reg.TIDE_REG_RIGHTS : Fld where base := 0x02001004; lo := 0; w := 4; acc := .ro; dflt := 0; s1 := 0x100; n1 := 64; s2 := 0x8; n2 := 32
/-- TIDE.REG_VALID, Table 1.9. -/
def Reg.TIDE_REG_VALID : Fld where base := 0x02001004; lo := 4; w := 1; acc := .ro; dflt := 0; s1 := 0x100; n1 := 64; s2 := 0x8; n2 := 32
/-- TIDE.OWN_ID, Table 1.9. -/
def Reg.TIDE_OWN_ID : Fld where base := 0x02008000; lo := 0; w := 32; acc := .ro; dflt := 4294967295; s1 := 0x8; n1 := 4096
/-- TIDE.OWN_PART, Table 1.9. -/
def Reg.TIDE_OWN_PART : Fld where base := 0x02008004; lo := 0; w := 6; acc := .rt; dflt := 0; s1 := 0x8; n1 := 4096
/-- TIDE.OWN_OWNED, Table 1.9. -/
def Reg.TIDE_OWN_OWNED : Fld where base := 0x02008004; lo := 31; w := 1; acc := .rt; dflt := 0; s1 := 0x8; n1 := 4096

/-- Fields of TIDE, part 1. -/
def fieldListTIDE1 : List Fld :=
  [Reg.TIDE_NUMBER_LO, Reg.TIDE_NUMBER_HI, Reg.TIDE_WAVE, Reg.TIDE_TICK,
   Reg.TIDE_IMAGE_TAG, Reg.TIDE_RESERVE_TICKS, Reg.TIDE_FENCE_TICKS, Reg.TIDE_PAUSE,
   Reg.TIDE_DEMAND, Reg.TIDE_SHED, Reg.TIDE_SHED_COUNT, Reg.TIDE_BREACH_FLAGS,
   Reg.TIDE_BREACH_COUNT, Reg.TIDE_FAULT_COUNT, Reg.TIDE_INFLIGHT, Reg.TIDE_PEAK,
   Reg.TIDE_STALL_COUNT, Reg.TIDE_CREDIT_SUM, Reg.TIDE_OWN_REFUSED, Reg.TIDE_STAT_CLEAR,
   Reg.TIDE_CREDIT, Reg.TIDE_SCRUB_PASS, Reg.TIDE_SCRUB_CORR, Reg.TIDE_SCRUB_UNCORR]
/-- Fields of TIDE, part 2. -/
def fieldListTIDE2 : List Fld :=
  [Reg.TIDE_SCRUB_LATE, Reg.TIDE_PART_CLASS, Reg.TIDE_PART_VALID, Reg.TIDE_PART_BREACH,
   Reg.TIDE_PART_FAULT, Reg.TIDE_PART_EVENT, Reg.TIDE_DMA_OWNER, Reg.TIDE_DMA_OWNED,
   Reg.TIDE_DMA_DESC, Reg.TIDE_DMA_STATE, Reg.TIDE_DMA_FAULT, Reg.TIDE_DMA_DONE,
   Reg.TIDE_REG_BASE, Reg.TIDE_REG_LIMIT, Reg.TIDE_REG_RIGHTS, Reg.TIDE_REG_VALID,
   Reg.TIDE_OWN_ID, Reg.TIDE_OWN_PART, Reg.TIDE_OWN_OWNED]
/-- The fields of TIDE in the order of its object map. -/
def fieldsTIDE : List Fld := fieldListTIDE1 ++ fieldListTIDE2

/-- CHAIN.STATE, Table 2.10. -/
def Reg.CHAIN_STATE : Fld where base := 0x03000000; lo := 0; w := 3; acc := .ro; dflt := 0
/-- CHAIN.UPSTREAM, Table 2.10. -/
def Reg.CHAIN_UPSTREAM : Fld where base := 0x03000004; lo := 0; w := 4; acc := .ro; dflt := 15
/-- CHAIN.CHILD_MASK, Table 2.10. -/
def Reg.CHAIN_CHILD_MASK : Fld where base := 0x03000008; lo := 0; w := 8; acc := .ro; dflt := 0
/-- CHAIN.STANDBY_MASK, Table 2.10. -/
def Reg.CHAIN_STANDBY_MASK : Fld where base := 0x03000008; lo := 8; w := 8; acc := .ro; dflt := 0
/-- CHAIN.REFUSED_MASK, Table 2.10. -/
def Reg.CHAIN_REFUSED_MASK : Fld where base := 0x03000008; lo := 16; w := 8; acc := .ro; dflt := 0
/-- CHAIN.DEPTH, Table 2.10. -/
def Reg.CHAIN_DEPTH : Fld where base := 0x0300000C; lo := 0; w := 16; acc := .ro; dflt := 0
/-- CHAIN.ROOT_ID, Table 2.10. -/
def Reg.CHAIN_ROOT_ID : Fld where base := 0x03000010; lo := 0; w := 32; acc := .ro; dflt := 0; s1 := 0x4; n1 := 4
/-- CHAIN.POSITION_ID, Table 2.10. -/
def Reg.CHAIN_POSITION_ID : Fld where base := 0x03000020; lo := 0; w := 32; acc := .ro; dflt := 0; s1 := 0x4; n1 := 4
/-- CHAIN.ORPHAN_WAIT, Table 2.10. -/
def Reg.CHAIN_ORPHAN_WAIT : Fld where base := 0x03000030; lo := 0; w := 16; acc := .ri; dflt := 300; legal := .upTo 10 65535
/-- CHAIN.JOIN_WAIT, Table 2.10. -/
def Reg.CHAIN_JOIN_WAIT : Fld where base := 0x03000034; lo := 0; w := 16; acc := .ri; dflt := 500; legal := .upTo 10 65535
/-- CHAIN.DECLARED, Table 2.10. -/
def Reg.CHAIN_DECLARED : Fld where base := 0x03000038; lo := 0; w := 16; acc := .ro; dflt := 0
/-- CHAIN.MISSING, Table 2.10. -/
def Reg.CHAIN_MISSING : Fld where base := 0x03000038; lo := 16; w := 16; acc := .ro; dflt := 0
/-- CHAIN.RENUMBER, Table 2.10. -/
def Reg.CHAIN_RENUMBER : Fld where base := 0x0300003C; lo := 0; w := 32; acc := .ro; dflt := 0
/-- CHAIN.EVENT, Table 2.10. -/
def Reg.CHAIN_EVENT : Fld where base := 0x03000040; lo := 0; w := 4; acc := .wc; dflt := 0
/-- CHAIN.LINK_STATE, Table 2.10. -/
def Reg.CHAIN_LINK_STATE : Fld where base := 0x03000100; lo := 0; w := 3; acc := .ro; dflt := 0; s1 := 0x20; n1 := 8
/-- CHAIN.BEACON_MISS, Table 2.10. -/
def Reg.CHAIN_BEACON_MISS : Fld where base := 0x03000104; lo := 0; w := 32; acc := .ro; dflt := 0; s1 := 0x20; n1 := 8
/-- CHAIN.DELAY, Table 2.10. -/
def Reg.CHAIN_DELAY : Fld where base := 0x03000108; lo := 0; w := 16; acc := .ro; dflt := 0; s1 := 0x20; n1 := 8
/-- CHAIN.PEER_ID, Table 2.10. -/
def Reg.CHAIN_PEER_ID : Fld where base := 0x03000110; lo := 0; w := 32; acc := .ro; dflt := 0; s1 := 0x20; n1 := 8; s2 := 0x4; n2 := 4

/-- Fields of CHAIN, part 1. -/
def fieldListCHAIN1 : List Fld :=
  [Reg.CHAIN_STATE, Reg.CHAIN_UPSTREAM, Reg.CHAIN_CHILD_MASK, Reg.CHAIN_STANDBY_MASK,
   Reg.CHAIN_REFUSED_MASK, Reg.CHAIN_DEPTH, Reg.CHAIN_ROOT_ID, Reg.CHAIN_POSITION_ID,
   Reg.CHAIN_ORPHAN_WAIT, Reg.CHAIN_JOIN_WAIT, Reg.CHAIN_DECLARED, Reg.CHAIN_MISSING,
   Reg.CHAIN_RENUMBER, Reg.CHAIN_EVENT, Reg.CHAIN_LINK_STATE, Reg.CHAIN_BEACON_MISS,
   Reg.CHAIN_DELAY, Reg.CHAIN_PEER_ID]
/-- The fields of CHAIN in the order of its object map. -/
def fieldsCHAIN : List Fld := fieldListCHAIN1

/-- ALLOC.MODE, Table 3.11. -/
def Reg.ALLOC_MODE : Fld where base := 0x04000000; lo := 0; w := 3; acc := .ro; dflt := 0
/-- ALLOC.TIDE_MARK, Table 3.11. -/
def Reg.ALLOC_TIDE_MARK : Fld where base := 0x04000004; lo := 0; w := 16; acc := .ro; dflt := 0
/-- ALLOC.BUDGET, Table 3.11. -/
def Reg.ALLOC_BUDGET : Fld where base := 0x04000008; lo := 0; w := 32; acc := .ro; dflt := 0
/-- ALLOC.ALLOC_SUM, Table 3.11. -/
def Reg.ALLOC_ALLOC_SUM : Fld where base := 0x0400000C; lo := 0; w := 32; acc := .ro; dflt := 0
/-- ALLOC.RESIDUAL, Table 3.11. -/
def Reg.ALLOC_RESIDUAL : Fld where base := 0x04000010; lo := 0; w := 32; acc := .ro; dflt := 0
/-- ALLOC.CONNECTED_SUM, Table 3.11. -/
def Reg.ALLOC_CONNECTED_SUM : Fld where base := 0x04000014; lo := 0; w := 32; acc := .ro; dflt := 0
/-- ALLOC.UNPLACED, Table 3.11. -/
def Reg.ALLOC_UNPLACED : Fld where base := 0x04000018; lo := 0; w := 32; acc := .ro; dflt := 0
/-- ALLOC.GRANT_IN, Table 3.11. -/
def Reg.ALLOC_GRANT_IN : Fld where base := 0x0400001C; lo := 0; w := 32; acc := .ro; dflt := 0
/-- ALLOC.GRANT_AGE, Table 3.11. -/
def Reg.ALLOC_GRANT_AGE : Fld where base := 0x04000020; lo := 0; w := 16; acc := .ro; dflt := 0
/-- ALLOC.IMPORT_LIMIT, Table 3.11. -/
def Reg.ALLOC_IMPORT_LIMIT : Fld where base := 0x04000024; lo := 0; w := 32; acc := .ri; dflt := 0
/-- ALLOC.EXPORT_LIMIT, Table 3.11. -/
def Reg.ALLOC_EXPORT_LIMIT : Fld where base := 0x04000028; lo := 0; w := 32; acc := .ri; dflt := 0; legal := .upTo 0 2147483647
/-- ALLOC.RAMP_UP, Table 3.11. -/
def Reg.ALLOC_RAMP_UP : Fld where base := 0x0400002C; lo := 0; w := 32; acc := .ri; dflt := 0
/-- ALLOC.IMPORT_EFF, Table 3.11. -/
def Reg.ALLOC_IMPORT_EFF : Fld where base := 0x04000030; lo := 0; w := 32; acc := .ro; dflt := 0
/-- ALLOC.EXPORT_EFF, Table 3.11. -/
def Reg.ALLOC_EXPORT_EFF : Fld where base := 0x04000034; lo := 0; w := 32; acc := .ro; dflt := 0
/-- ALLOC.LIMIT_SRC, Table 3.11. -/
def Reg.ALLOC_LIMIT_SRC : Fld where base := 0x04000038; lo := 0; w := 5; acc := .ro; dflt := 0
/-- ALLOC.GRID_LOOP, Table 3.11. -/
def Reg.ALLOC_GRID_LOOP : Fld where base := 0x0400003C; lo := 0; w := 8; acc := .rt; dflt := 255; legal := .upToOr 0 127 0xFF
/-- ALLOC.PCC_POINT, Table 3.11. -/
def Reg.ALLOC_PCC_POINT : Fld where base := 0x0400003C; lo := 8; w := 4; acc := .rt; dflt := 15; legal := .upToOr 0 7 0xF
/-- ALLOC.TRIM, Table 3.11. -/
def Reg.ALLOC_TRIM : Fld where base := 0x04000040; lo := 0; w := 32; acc := .ro; dflt := 0
/-- ALLOC.TRIM_MAX, Table 3.11. -/
def Reg.ALLOC_TRIM_MAX : Fld where base := 0x04000044; lo := 0; w := 32; acc := .rt; dflt := 0; legal := .upTo 0 2147483647
/-- ALLOC.HOLD_TIDES, Table 3.11. -/
def Reg.ALLOC_HOLD_TIDES : Fld where base := 0x04000048; lo := 0; w := 16; acc := .rt; dflt := 1000; legal := .upTo 10 65535
/-- ALLOC.ORPHAN_BUDGET, Table 3.11. -/
def Reg.ALLOC_ORPHAN_BUDGET : Fld where base := 0x0400004C; lo := 0; w := 32; acc := .ro; dflt := 0
/-- ALLOC.LOCAL_EN, Table 3.11. -/
def Reg.ALLOC_LOCAL_EN : Fld where base := 0x04000050; lo := 0; w := 1; acc := .rt; dflt := 0
/-- ALLOC.AGG_POINTS, Table 3.11. -/
def Reg.ALLOC_AGG_POINTS : Fld where base := 0x04000054; lo := 0; w := 5; acc := .ro; dflt := 0
/-- ALLOC.AGG_COMPRESSED, Table 3.11. -/
def Reg.ALLOC_AGG_COMPRESSED : Fld where base := 0x04000054; lo := 8; w := 1; acc := .ro; dflt := 0
/-- ALLOC.AGG_CEILING, Table 3.11. -/
def Reg.ALLOC_AGG_CEILING : Fld where base := 0x04000054; lo := 9; w := 1; acc := .ro; dflt := 0
/-- ALLOC.AGG_LOSS, Table 3.11. -/
def Reg.ALLOC_AGG_LOSS : Fld where base := 0x04000058; lo := 0; w := 32; acc := .ro; dflt := 0
/-- ALLOC.AGG_TOP, Table 3.11. -/
def Reg.ALLOC_AGG_TOP : Fld where base := 0x0400005C; lo := 0; w := 32; acc := .ro; dflt := 0
/-- ALLOC.LIN_CHAN, Table 3.11. -/
def Reg.ALLOC_LIN_CHAN : Fld where base := 0x04000060; lo := 0; w := 5; acc := .rt; dflt := 0; s1 := 0xC; n1 := 4
/-- ALLOC.LIN_POL, Table 3.11. -/
def Reg.ALLOC_LIN_POL : Fld where base := 0x04000060; lo := 6; w := 1; acc := .rt; dflt := 0; s1 := 0xC; n1 := 4
/-- ALLOC.LIN_EN, Table 3.11. -/
def Reg.ALLOC_LIN_EN : Fld where base := 0x04000060; lo := 7; w := 1; acc := .rt; dflt := 0; s1 := 0xC; n1 := 4
/-- ALLOC.LIN_THRESH, Table 3.11. -/
def Reg.ALLOC_LIN_THRESH : Fld where base := 0x04000060; lo := 16; w := 16; acc := .rt; dflt := 32768; s1 := 0xC; n1 := 4
/-- ALLOC.LIN_IMPORT, Table 3.11. -/
def Reg.ALLOC_LIN_IMPORT : Fld where base := 0x04000064; lo := 0; w := 32; acc := .rt; dflt := 0; s1 := 0xC; n1 := 4
/-- ALLOC.LIN_EXPORT, Table 3.11. -/
def Reg.ALLOC_LIN_EXPORT : Fld where base := 0x04000068; lo := 0; w := 32; acc := .rt; dflt := 0; s1 := 0xC; n1 := 4; legal := .upTo 0 2147483647
/-- ALLOC.LIN_STATE, Table 3.11. -/
def Reg.ALLOC_LIN_STATE : Fld where base := 0x04000090; lo := 0; w := 4; acc := .ro; dflt := 0
/-- ALLOC.EVENT, Table 3.11. -/
def Reg.ALLOC_EVENT : Fld where base := 0x04000094; lo := 0; w := 7; acc := .wc; dflt := 0
/-- ALLOC.ALLOC_PART, Table 3.11. -/
def Reg.ALLOC_ALLOC_PART : Fld where base := 0x04000098; lo := 0; w := 6; acc := .ro; dflt := 0
/-- ALLOC.AGG_LEVEL, Table 3.11. -/
def Reg.ALLOC_AGG_LEVEL : Fld where base := 0x04000100; lo := 0; w := 16; acc := .ro; dflt := 0; s1 := 0x8; n1 := 16
/-- ALLOC.AGG_POWER, Table 3.11. -/
def Reg.ALLOC_AGG_POWER : Fld where base := 0x04000104; lo := 0; w := 32; acc := .ro; dflt := 0; s1 := 0x8; n1 := 16
/-- ALLOC.DIRECTION, Table 3.11. -/
def Reg.ALLOC_DIRECTION : Fld where base := 0x04000200; lo := 0; w := 2; acc := .ro; dflt := 0; s1 := 0x40; n1 := 32
/-- ALLOC.CLASS, Table 3.11. -/
def Reg.ALLOC_CLASS : Fld where base := 0x04000204; lo := 0; w := 2; acc := .ri; dflt := 0; s1 := 0x40; n1 := 32
/-- ALLOC.WEIGHT, Table 3.11. -/
def Reg.ALLOC_WEIGHT : Fld where base := 0x04000204; lo := 8; w := 5; acc := .ri; dflt := 1; s1 := 0x40; n1 := 32; legal := .upTo 1 16
/-- ALLOC.P_MIN, Table 3.11. -/
def Reg.ALLOC_P_MIN : Fld where base := 0x04000208; lo := 0; w := 32; acc := .ri; dflt := 0; s1 := 0x40; n1 := 32; legal := .upTo 0 3750
/-- ALLOC.SHARE_CAP, Table 3.11. -/
def Reg.ALLOC_SHARE_CAP : Fld where base := 0x0400020C; lo := 0; w := 32; acc := .ri; dflt := 3750; s1 := 0x40; n1 := 32; legal := .upTo 0 3750
/-- ALLOC.RATING, Table 3.11. -/
def Reg.ALLOC_RATING : Fld where base := 0x04000210; lo := 0; w := 32; acc := .ro; dflt := 0; s1 := 0x40; n1 := 32
/-- ALLOC.CAP_REQ, Table 3.11. -/
def Reg.ALLOC_CAP_REQ : Fld where base := 0x04000214; lo := 0; w := 32; acc := .ro; dflt := 0; s1 := 0x40; n1 := 32
/-- ALLOC.CAP_THERM, Table 3.11. -/
def Reg.ALLOC_CAP_THERM : Fld where base := 0x04000218; lo := 0; w := 32; acc := .ro; dflt := 0; s1 := 0x40; n1 := 32
/-- ALLOC.CAP_REACH, Table 3.11. -/
def Reg.ALLOC_CAP_REACH : Fld where base := 0x0400021C; lo := 0; w := 32; acc := .ro; dflt := 0; s1 := 0x40; n1 := 32
/-- ALLOC.CAP, Table 3.11. -/
def Reg.ALLOC_CAP : Fld where base := 0x04000220; lo := 0; w := 32; acc := .ro; dflt := 0; s1 := 0x40; n1 := 32
/-- ALLOC.CAP_SRC, Table 3.11. -/
def Reg.ALLOC_CAP_SRC : Fld where base := 0x04000224; lo := 0; w := 5; acc := .ro; dflt := 0; s1 := 0x40; n1 := 32
/-- ALLOC.EXP_CAP, Table 3.11. -/
def Reg.ALLOC_EXP_CAP : Fld where base := 0x04000228; lo := 0; w := 32; acc := .ro; dflt := 0; s1 := 0x40; n1 := 32
/-- ALLOC.ALLOCATED, Table 3.11. -/
def Reg.ALLOC_ALLOCATED : Fld where base := 0x0400022C; lo := 0; w := 32; acc := .ro; dflt := 0; s1 := 0x40; n1 := 32
/-- ALLOC.CONNECTED, Table 3.11. -/
def Reg.ALLOC_CONNECTED : Fld where base := 0x04000230; lo := 0; w := 32; acc := .ro; dflt := 0; s1 := 0x40; n1 := 32
/-- ALLOC.PRIO_MET, Table 3.11. -/
def Reg.ALLOC_PRIO_MET : Fld where base := 0x04000234; lo := 0; w := 1; acc := .ro; dflt := 0; s1 := 0x40; n1 := 32
/-- ALLOC.CHILD_STATE, Table 3.11. -/
def Reg.ALLOC_CHILD_STATE : Fld where base := 0x04000A00; lo := 0; w := 3; acc := .ro; dflt := 0; s1 := 0x100; n1 := 8
/-- ALLOC.CHILD_GRANT, Table 3.11. -/
def Reg.ALLOC_CHILD_GRANT : Fld where base := 0x04000A04; lo := 0; w := 32; acc := .ro; dflt := 0; s1 := 0x100; n1 := 8
/-- ALLOC.CHILD_RESERVE, Table 3.11. -/
def Reg.ALLOC_CHILD_RESERVE : Fld where base := 0x04000A08; lo := 0; w := 32; acc := .ro; dflt := 0; s1 := 0x100; n1 := 8
/-- ALLOC.CHILD_TOP, Table 3.11. -/
def Reg.ALLOC_CHILD_TOP : Fld where base := 0x04000A0C; lo := 0; w := 32; acc := .ro; dflt := 0; s1 := 0x100; n1 := 8
/-- ALLOC.CHILD_ORPHAN, Table 3.11. -/
def Reg.ALLOC_CHILD_ORPHAN : Fld where base := 0x04000A10; lo := 0; w := 32; acc := .ro; dflt := 0; s1 := 0x100; n1 := 8
/-- ALLOC.CHILD_HOLD, Table 3.11. -/
def Reg.ALLOC_CHILD_HOLD : Fld where base := 0x04000A14; lo := 0; w := 16; acc := .ro; dflt := 0; s1 := 0x100; n1 := 8
/-- ALLOC.CHILD_MISS, Table 3.11. -/
def Reg.ALLOC_CHILD_MISS : Fld where base := 0x04000A18; lo := 0; w := 16; acc := .ro; dflt := 0; s1 := 0x100; n1 := 8
/-- ALLOC.CHILD_POINTS, Table 3.11. -/
def Reg.ALLOC_CHILD_POINTS : Fld where base := 0x04000A1C; lo := 0; w := 5; acc := .ro; dflt := 0; s1 := 0x100; n1 := 8
/-- ALLOC.CHILD_LEVEL, Table 3.11. -/
def Reg.ALLOC_CHILD_LEVEL : Fld where base := 0x04000A80; lo := 0; w := 16; acc := .ro; dflt := 0; s1 := 0x100; n1 := 8; s2 := 0x8; n2 := 16
/-- ALLOC.CHILD_POWER, Table 3.11. -/
def Reg.ALLOC_CHILD_POWER : Fld where base := 0x04000A84; lo := 0; w := 32; acc := .ro; dflt := 0; s1 := 0x100; n1 := 8; s2 := 0x8; n2 := 16

/-- Fields of ALLOC, part 1. -/
def fieldListALLOC1 : List Fld :=
  [Reg.ALLOC_MODE, Reg.ALLOC_TIDE_MARK, Reg.ALLOC_BUDGET, Reg.ALLOC_ALLOC_SUM,
   Reg.ALLOC_RESIDUAL, Reg.ALLOC_CONNECTED_SUM, Reg.ALLOC_UNPLACED, Reg.ALLOC_GRANT_IN,
   Reg.ALLOC_GRANT_AGE, Reg.ALLOC_IMPORT_LIMIT, Reg.ALLOC_EXPORT_LIMIT, Reg.ALLOC_RAMP_UP,
   Reg.ALLOC_IMPORT_EFF, Reg.ALLOC_EXPORT_EFF, Reg.ALLOC_LIMIT_SRC, Reg.ALLOC_GRID_LOOP,
   Reg.ALLOC_PCC_POINT, Reg.ALLOC_TRIM, Reg.ALLOC_TRIM_MAX, Reg.ALLOC_HOLD_TIDES,
   Reg.ALLOC_ORPHAN_BUDGET, Reg.ALLOC_LOCAL_EN, Reg.ALLOC_AGG_POINTS, Reg.ALLOC_AGG_COMPRESSED]
/-- Fields of ALLOC, part 2. -/
def fieldListALLOC2 : List Fld :=
  [Reg.ALLOC_AGG_CEILING, Reg.ALLOC_AGG_LOSS, Reg.ALLOC_AGG_TOP, Reg.ALLOC_LIN_CHAN,
   Reg.ALLOC_LIN_POL, Reg.ALLOC_LIN_EN, Reg.ALLOC_LIN_THRESH, Reg.ALLOC_LIN_IMPORT,
   Reg.ALLOC_LIN_EXPORT, Reg.ALLOC_LIN_STATE, Reg.ALLOC_EVENT, Reg.ALLOC_ALLOC_PART,
   Reg.ALLOC_AGG_LEVEL, Reg.ALLOC_AGG_POWER, Reg.ALLOC_DIRECTION, Reg.ALLOC_CLASS,
   Reg.ALLOC_WEIGHT, Reg.ALLOC_P_MIN, Reg.ALLOC_SHARE_CAP, Reg.ALLOC_RATING,
   Reg.ALLOC_CAP_REQ, Reg.ALLOC_CAP_THERM, Reg.ALLOC_CAP_REACH, Reg.ALLOC_CAP]
/-- Fields of ALLOC, part 3. -/
def fieldListALLOC3 : List Fld :=
  [Reg.ALLOC_CAP_SRC, Reg.ALLOC_EXP_CAP, Reg.ALLOC_ALLOCATED, Reg.ALLOC_CONNECTED,
   Reg.ALLOC_PRIO_MET, Reg.ALLOC_CHILD_STATE, Reg.ALLOC_CHILD_GRANT, Reg.ALLOC_CHILD_RESERVE,
   Reg.ALLOC_CHILD_TOP, Reg.ALLOC_CHILD_ORPHAN, Reg.ALLOC_CHILD_HOLD, Reg.ALLOC_CHILD_MISS,
   Reg.ALLOC_CHILD_POINTS, Reg.ALLOC_CHILD_LEVEL, Reg.ALLOC_CHILD_POWER]
/-- The fields of ALLOC in the order of its object map. -/
def fieldsALLOC : List Fld := fieldListALLOC1 ++ fieldListALLOC2 ++ fieldListALLOC3

end Sys2Proof.Machine
end

