-- ==== Sys2Proof/Machine/MapMeter.lean ====
section
/-! DEFINITION. Object maps of the blocks MET, MPT, BILL, BILLP, PROF, PREPAY, TAMP, TAMPX: every field with its place, width,
access code, default and legal values, in the order of the spec's tables. -/
namespace Sys2Proof.Machine

/-- MET.STATE, Table 8.11. -/
def Reg.MET_STATE : Fld where base := 0x0C000000; lo := 0; w := 2; acc := .ro; dflt := 0
/-- MET.CAL_GEN, Table 8.11. -/
def Reg.MET_CAL_GEN : Fld where base := 0x0C000004; lo := 0; w := 2; acc := .ro; dflt := 0
/-- MET.CAL_VALID, Table 8.11. -/
def Reg.MET_CAL_VALID : Fld where base := 0x0C000004; lo := 8; w := 1; acc := .ro; dflt := 0
/-- MET.CAL_CRC, Table 8.11. -/
def Reg.MET_CAL_CRC : Fld where base := 0x0C000008; lo := 0; w := 32; acc := .ro; dflt := 0
/-- MET.POOL, Table 8.11. -/
def Reg.MET_POOL : Fld where base := 0x0C00000C; lo := 0; w := 1; acc := .ro; dflt := 0
/-- MET.SEQUENCE, Table 8.11. -/
def Reg.MET_SEQUENCE : Fld where base := 0x0C000010; lo := 0; w := 32; acc := .ro; dflt := 0
/-- MET.RESTORE_KIND, Table 8.11. -/
def Reg.MET_RESTORE_KIND : Fld where base := 0x0C000014; lo := 0; w := 2; acc := .ro; dflt := 0
/-- MET.RESTORE_RECON, Table 8.11. -/
def Reg.MET_RESTORE_RECON : Fld where base := 0x0C000014; lo := 8; w := 1; acc := .ro; dflt := 0
/-- MET.RESTORE_TIDE, Table 8.11. -/
def Reg.MET_RESTORE_TIDE : Fld where base := 0x0C000018; lo := 0; w := 32; acc := .ro; dflt := 0
/-- MET.EBB_EVENTS, Table 8.11. -/
def Reg.MET_EBB_EVENTS : Fld where base := 0x0C00001C; lo := 0; w := 32; acc := .ro; dflt := 0
/-- MET.EBB_FIRST, Table 8.11. -/
def Reg.MET_EBB_FIRST : Fld where base := 0x0C000020; lo := 0; w := 8; acc := .ro; dflt := 0
/-- MET.RECORDS, Table 8.11. -/
def Reg.MET_RECORDS : Fld where base := 0x0C000024; lo := 0; w := 32; acc := .ro; dflt := 0
/-- MET.OVERRUNS, Table 8.11. -/
def Reg.MET_OVERRUNS : Fld where base := 0x0C000028; lo := 0; w := 32; acc := .ro; dflt := 0
/-- MET.EVENT, Table 8.11. -/
def Reg.MET_EVENT : Fld where base := 0x0C00002C; lo := 0; w := 7; acc := .wc; dflt := 0
/-- MET.MCLK_SKEW, Table 8.11. -/
def Reg.MET_MCLK_SKEW : Fld where base := 0x0C000040; lo := 0; w := 5; acc := .rt; dflt := 0; s1 := 0x4; n1 := 8; legal := .upTo 0 19
/-- MET.MCLK_RUN, Table 8.11. -/
def Reg.MET_MCLK_RUN : Fld where base := 0x0C000040; lo := 8; w := 1; acc := .ro; dflt := 0; s1 := 0x4; n1 := 8
/-- MET.IN_D, Table 8.11. -/
def Reg.MET_IN_D : Fld where base := 0x0C000100; lo := 0; w := 32; acc := .ro; dflt := 0; s1 := 0x10; n1 := 152
/-- MET.IN_X, Table 8.11. -/
def Reg.MET_IN_X : Fld where base := 0x0C000104; lo := 0; w := 32; acc := .ro; dflt := 0; s1 := 0x10; n1 := 152
/-- MET.IN_STATE, Table 8.11. -/
def Reg.MET_IN_STATE : Fld where base := 0x0C000108; lo := 0; w := 2; acc := .ro; dflt := 0; s1 := 0x10; n1 := 152
/-- MET.IN_CLIPS, Table 8.11. -/
def Reg.MET_IN_CLIPS : Fld where base := 0x0C00010C; lo := 0; w := 32; acc := .ro; dflt := 0; s1 := 0x10; n1 := 152
/-- MET.PLS_POINT, Table 8.11. -/
def Reg.MET_PLS_POINT : Fld where base := 0x0C000B00; lo := 0; w := 8; acc := .ro; dflt := 255; s1 := 0x20; n1 := 16
/-- MET.PLS_REG, Table 8.11. -/
def Reg.MET_PLS_REG : Fld where base := 0x0C000B00; lo := 8; w := 4; acc := .ro; dflt := 0; s1 := 0x20; n1 := 16
/-- MET.PLS_WIDTH, Table 8.11. -/
def Reg.MET_PLS_WIDTH : Fld where base := 0x0C000B00; lo := 16; w := 7; acc := .ro; dflt := 10; s1 := 0x20; n1 := 16
/-- MET.PLS_CONST, Table 8.11. -/
def Reg.MET_PLS_CONST : Fld where base := 0x0C000B04; lo := 0; w := 17; acc := .ro; dflt := 0; s1 := 0x20; n1 := 16
/-- MET.PLS_RES, Table 8.11. -/
def Reg.MET_PLS_RES : Fld where base := 0x0C000B08; lo := 0; w := 30; acc := .ro; dflt := 0; s1 := 0x20; n1 := 16
/-- MET.PLS_BACKLOG, Table 8.11. -/
def Reg.MET_PLS_BACKLOG : Fld where base := 0x0C000B0C; lo := 0; w := 16; acc := .ro; dflt := 0; s1 := 0x20; n1 := 16
/-- MET.PLS_COUNT, Table 8.11. -/
def Reg.MET_PLS_COUNT : Fld where base := 0x0C000B10; lo := 0; w := 32; acc := .ro; dflt := 0; s1 := 0x20; n1 := 16

/-- Fields of MET, part 1. -/
def fieldListMET1 : List Fld :=
  [Reg.MET_STATE, Reg.MET_CAL_GEN, Reg.MET_CAL_VALID, Reg.MET_CAL_CRC,
   Reg.MET_POOL, Reg.MET_SEQUENCE, Reg.MET_RESTORE_KIND, Reg.MET_RESTORE_RECON,
   Reg.MET_RESTORE_TIDE, Reg.MET_EBB_EVENTS, Reg.MET_EBB_FIRST, Reg.MET_RECORDS,
   Reg.MET_OVERRUNS, Reg.MET_EVENT, Reg.MET_MCLK_SKEW, Reg.MET_MCLK_RUN,
   Reg.MET_IN_D, Reg.MET_IN_X, Reg.MET_IN_STATE, Reg.MET_IN_CLIPS,
   Reg.MET_PLS_POINT, Reg.MET_PLS_REG, Reg.MET_PLS_WIDTH, Reg.MET_PLS_CONST]
/-- Fields of MET, part 2. -/
def fieldListMET2 : List Fld :=
  [Reg.MET_PLS_RES, Reg.MET_PLS_BACKLOG, Reg.MET_PLS_COUNT]
/-- The fields of MET in the order of its object map. -/
def fieldsMET : List Fld := fieldListMET1 ++ fieldListMET2

/-- MPT.KIND, Table 8.12. -/
def Reg.MPT_KIND : Fld where base := 0x0D000000; lo := 0; w := 2; acc := .ro; dflt := 0; insts := 41
/-- MPT.LEGAL, Table 8.12. -/
def Reg.MPT_LEGAL : Fld where base := 0x0D000000; lo := 8; w := 1; acc := .ro; dflt := 0; insts := 41
/-- MPT.WIRING, Table 8.12. -/
def Reg.MPT_WIRING : Fld where base := 0x0D000000; lo := 12; w := 2; acc := .ro; dflt := 0; insts := 41
/-- MPT.SUM_UP, Table 8.12. -/
def Reg.MPT_SUM_UP : Fld where base := 0x0D000000; lo := 16; w := 1; acc := .ro; dflt := 0; insts := 41
/-- MPT.PARTITION, Table 8.12. -/
def Reg.MPT_PARTITION : Fld where base := 0x0D000000; lo := 24; w := 6; acc := .ro; dflt := 0; insts := 41
/-- MPT.STATE, Table 8.12. -/
def Reg.MPT_STATE : Fld where base := 0x0D000004; lo := 0; w := 2; acc := .ro; dflt := 0; insts := 41
/-- MPT.IV_FLAGS, Table 8.12. -/
def Reg.MPT_IV_FLAGS : Fld where base := 0x0D000008; lo := 0; w := 10; acc := .ro; dflt := 0; insts := 41
/-- MPT.INVALID_WAVES, Table 8.12. -/
def Reg.MPT_INVALID_WAVES : Fld where base := 0x0D00000C; lo := 0; w := 32; acc := .ro; dflt := 0; insts := 41
/-- MPT.EVENT, Table 8.12. -/
def Reg.MPT_EVENT : Fld where base := 0x0D000010; lo := 0; w := 6; acc := .wc; dflt := 0; insts := 41
/-- MPT.U_NOM, Table 8.12. -/
def Reg.MPT_U_NOM : Fld where base := 0x0D000014; lo := 0; w := 32; acc := .ro; dflt := 0; insts := 41
/-- MPT.P_RATED, Table 8.12. -/
def Reg.MPT_P_RATED : Fld where base := 0x0D000018; lo := 0; w := 32; acc := .ro; dflt := 0; insts := 41
/-- MPT.V, Table 8.12. -/
def Reg.MPT_V : Fld where base := 0x0D000020; lo := 0; w := 32; acc := .ro; dflt := 0; insts := 41
/-- MPT.I, Table 8.12. -/
def Reg.MPT_I : Fld where base := 0x0D000024; lo := 0; w := 32; acc := .ro; dflt := 0; insts := 41
/-- MPT.P_W, Table 8.12. -/
def Reg.MPT_P_W : Fld where base := 0x0D000028; lo := 0; w := 32; acc := .ro; dflt := 0; insts := 41
/-- MPT.RANGE, Table 8.12. -/
def Reg.MPT_RANGE : Fld where base := 0x0D00002C; lo := 0; w := 1; acc := .ro; dflt := 0; insts := 41
/-- MPT.RANGE_HELD, Table 8.12. -/
def Reg.MPT_RANGE_HELD : Fld where base := 0x0D00002C; lo := 1; w := 1; acc := .ro; dflt := 0; insts := 41
/-- MPT.RANGE_SW, Table 8.12. -/
def Reg.MPT_RANGE_SW : Fld where base := 0x0D000030; lo := 0; w := 32; acc := .ro; dflt := 0; insts := 41
/-- MPT.SPLICE_PPM, Table 8.12. -/
def Reg.MPT_SPLICE_PPM : Fld where base := 0x0D000034; lo := 0; w := 32; acc := .ro; dflt := 0; insts := 41
/-- MPT.SPLICE_TOL, Table 8.12. -/
def Reg.MPT_SPLICE_TOL : Fld where base := 0x0D000038; lo := 0; w := 16; acc := .rt; dflt := 5000; insts := 41; legal := .upTo 500 50000
/-- MPT.FREQ, Table 8.12. -/
def Reg.MPT_FREQ : Fld where base := 0x0D000040; lo := 0; w := 32; acc := .ro; dflt := 0; insts := 41
/-- MPT.P_TIDE, Table 8.12. -/
def Reg.MPT_P_TIDE : Fld where base := 0x0D000044; lo := 0; w := 32; acc := .ro; dflt := 0; insts := 41
/-- MPT.P_CYCLE, Table 8.12. -/
def Reg.MPT_P_CYCLE : Fld where base := 0x0D000048; lo := 0; w := 32; acc := .ro; dflt := 0; insts := 41
/-- MPT.Q_CYCLE, Table 8.12. -/
def Reg.MPT_Q_CYCLE : Fld where base := 0x0D00004C; lo := 0; w := 32; acc := .ro; dflt := 0; insts := 41
/-- MPT.S_CYCLE, Table 8.12. -/
def Reg.MPT_S_CYCLE : Fld where base := 0x0D000050; lo := 0; w := 32; acc := .ro; dflt := 0; insts := 41
/-- MPT.QUADRANT, Table 8.12. -/
def Reg.MPT_QUADRANT : Fld where base := 0x0D000054; lo := 0; w := 2; acc := .ro; dflt := 0; insts := 41
/-- MPT.CYCLES, Table 8.12. -/
def Reg.MPT_CYCLES : Fld where base := 0x0D000058; lo := 0; w := 32; acc := .ro; dflt := 0; insts := 41
/-- MPT.NEUTRAL_TOL, Table 8.12. -/
def Reg.MPT_NEUTRAL_TOL : Fld where base := 0x0D00005C; lo := 0; w := 32; acc := .rt; dflt := 10000; insts := 41; legal := .upTo 100 10000000
/-- MPT.I_MISMATCH, Table 8.12. -/
def Reg.MPT_I_MISMATCH : Fld where base := 0x0D000060; lo := 0; w := 32; acc := .ro; dflt := 0; insts := 41
/-- MPT.U_RMS, Table 8.12. -/
def Reg.MPT_U_RMS : Fld where base := 0x0D000064; lo := 0; w := 32; acc := .ro; dflt := 0; insts := 41; s1 := 0x8; n1 := 3
/-- MPT.I_RMS, Table 8.12. -/
def Reg.MPT_I_RMS : Fld where base := 0x0D000068; lo := 0; w := 32; acc := .ro; dflt := 0; insts := 41; s1 := 0x8; n1 := 3
/-- MPT.I_N_RMS, Table 8.12. -/
def Reg.MPT_I_N_RMS : Fld where base := 0x0D00007C; lo := 0; w := 32; acc := .ro; dflt := 0; insts := 41
/-- MPT.STALE_MASK, Table 8.12. -/
def Reg.MPT_STALE_MASK : Fld where base := 0x0D000090; lo := 0; w := 8; acc := .ro; dflt := 0; insts := 41
/-- MPT.ACC_LO, Table 8.12. -/
def Reg.MPT_ACC_LO : Fld where base := 0x0D000100; lo := 0; w := 32; acc := .ro; dflt := 0; insts := 41; s1 := 0x20; n1 := 9
/-- MPT.ACC_HI, Table 8.12. -/
def Reg.MPT_ACC_HI : Fld where base := 0x0D000104; lo := 0; w := 32; acc := .ro; dflt := 0; insts := 41; s1 := 0x20; n1 := 9
/-- MPT.REM, Table 8.12. -/
def Reg.MPT_REM : Fld where base := 0x0D000108; lo := 0; w := 28; acc := .ro; dflt := 0; insts := 41; s1 := 0x20; n1 := 9
/-- MPT.READ_LO, Table 8.12. -/
def Reg.MPT_READ_LO : Fld where base := 0x0D00010C; lo := 0; w := 32; acc := .ro; dflt := 0; insts := 41; s1 := 0x20; n1 := 9
/-- MPT.READ_HI, Table 8.12. -/
def Reg.MPT_READ_HI : Fld where base := 0x0D000110; lo := 0; w := 32; acc := .ro; dflt := 0; insts := 41; s1 := 0x20; n1 := 9
/-- MPT.DISP_LO, Table 8.12. -/
def Reg.MPT_DISP_LO : Fld where base := 0x0D000114; lo := 0; w := 32; acc := .ro; dflt := 0; insts := 41; s1 := 0x20; n1 := 9
/-- MPT.DISP_HI, Table 8.12. -/
def Reg.MPT_DISP_HI : Fld where base := 0x0D000118; lo := 0; w := 2; acc := .ro; dflt := 0; insts := 41; s1 := 0x20; n1 := 9
/-- MPT.WRAPS, Table 8.12. -/
def Reg.MPT_WRAPS : Fld where base := 0x0D00011C; lo := 0; w := 32; acc := .ro; dflt := 0; insts := 41; s1 := 0x20; n1 := 9

/-- Fields of MPT, part 1. -/
def fieldListMPT1 : List Fld :=
  [Reg.MPT_KIND, Reg.MPT_LEGAL, Reg.MPT_WIRING, Reg.MPT_SUM_UP,
   Reg.MPT_PARTITION, Reg.MPT_STATE, Reg.MPT_IV_FLAGS, Reg.MPT_INVALID_WAVES,
   Reg.MPT_EVENT, Reg.MPT_U_NOM, Reg.MPT_P_RATED, Reg.MPT_V,
   Reg.MPT_I, Reg.MPT_P_W, Reg.MPT_RANGE, Reg.MPT_RANGE_HELD,
   Reg.MPT_RANGE_SW, Reg.MPT_SPLICE_PPM, Reg.MPT_SPLICE_TOL, Reg.MPT_FREQ,
   Reg.MPT_P_TIDE, Reg.MPT_P_CYCLE, Reg.MPT_Q_CYCLE, Reg.MPT_S_CYCLE]
/-- Fields of MPT, part 2. -/
def fieldListMPT2 : List Fld :=
  [Reg.MPT_QUADRANT, Reg.MPT_CYCLES, Reg.MPT_NEUTRAL_TOL, Reg.MPT_I_MISMATCH,
   Reg.MPT_U_RMS, Reg.MPT_I_RMS, Reg.MPT_I_N_RMS, Reg.MPT_STALE_MASK,
   Reg.MPT_ACC_LO, Reg.MPT_ACC_HI, Reg.MPT_REM, Reg.MPT_READ_LO,
   Reg.MPT_READ_HI, Reg.MPT_DISP_LO, Reg.MPT_DISP_HI, Reg.MPT_WRAPS]
/-- The fields of MPT in the order of its object map. -/
def fieldsMPT : List Fld := fieldListMPT1 ++ fieldListMPT2

/-- BILL.TIME_STATUS, Table 9.7. -/
def Reg.BILL_TIME_STATUS : Fld where base := 0x0E000000; lo := 0; w := 8; acc := .ro; dflt := 85
/-- BILL.RTC_VALID, Table 9.7. -/
def Reg.BILL_RTC_VALID : Fld where base := 0x0E000000; lo := 8; w := 1; acc := .ro; dflt := 0
/-- BILL.RTC_LO, Table 9.7. -/
def Reg.BILL_RTC_LO : Fld where base := 0x0E000004; lo := 0; w := 32; acc := .ro; dflt := 0
/-- BILL.RTC_HI, Table 9.7. -/
def Reg.BILL_RTC_HI : Fld where base := 0x0E000008; lo := 0; w := 32; acc := .ro; dflt := 0
/-- BILL.HWM_LO, Table 9.7. -/
def Reg.BILL_HWM_LO : Fld where base := 0x0E00000C; lo := 0; w := 32; acc := .ro; dflt := 0
/-- BILL.HWM_HI, Table 9.7. -/
def Reg.BILL_HWM_HI : Fld where base := 0x0E000010; lo := 0; w := 32; acc := .ro; dflt := 0
/-- BILL.TIME_SRC, Table 9.7. -/
def Reg.BILL_TIME_SRC : Fld where base := 0x0E000014; lo := 0; w := 1; acc := .rt; dflt := 1
/-- BILL.ADJ_LIMIT, Table 9.7. -/
def Reg.BILL_ADJ_LIMIT : Fld where base := 0x0E000018; lo := 0; w := 22; acc := .rt; dflt := 10000; legal := .upTo 1000 3600000
/-- BILL.SLEW_PPM, Table 9.7. -/
def Reg.BILL_SLEW_PPM : Fld where base := 0x0E00001C; lo := 0; w := 14; acc := .rt; dflt := 1000; legal := .upTo 100 10000
/-- BILL.SLEW_LEFT, Table 9.7. -/
def Reg.BILL_SLEW_LEFT : Fld where base := 0x0E000020; lo := 0; w := 32; acc := .ro; dflt := 0
/-- BILL.SYNC_AGE, Table 9.7. -/
def Reg.BILL_SYNC_AGE : Fld where base := 0x0E000024; lo := 0; w := 22; acc := .rt; dflt := 86400; legal := .upTo 60 2592000
/-- BILL.LAST_SYNC, Table 9.7. -/
def Reg.BILL_LAST_SYNC : Fld where base := 0x0E000028; lo := 0; w := 32; acc := .ro; dflt := 0
/-- BILL.SET_LO, Table 9.7. -/
def Reg.BILL_SET_LO : Fld where base := 0x0E00002C; lo := 0; w := 32; acc := .ri; dflt := 0
/-- BILL.SET_HI, Table 9.7. -/
def Reg.BILL_SET_HI : Fld where base := 0x0E000030; lo := 0; w := 32; acc := .ri; dflt := 0
/-- BILL.SET_GO, Table 9.7. -/
def Reg.BILL_SET_GO : Fld where base := 0x0E000034; lo := 0; w := 1; acc := .ri; dflt := 0
/-- BILL.LOCAL_OFFSET, Table 9.7. -/
def Reg.BILL_LOCAL_OFFSET : Fld where base := 0x0E000038; lo := 0; w := 16; acc := .ro; dflt := 0
/-- BILL.DST, Table 9.7. -/
def Reg.BILL_DST : Fld where base := 0x0E000038; lo := 16; w := 1; acc := .ro; dflt := 0
/-- BILL.STD_OFFSET, Table 9.7. -/
def Reg.BILL_STD_OFFSET : Fld where base := 0x0E00003C; lo := 0; w := 16; acc := .rt; dflt := 0; legal := .signedStep (-720) 840 15
/-- BILL.DST_OFFSET, Table 9.7. -/
def Reg.BILL_DST_OFFSET : Fld where base := 0x0E00003C; lo := 16; w := 16; acc := .rt; dflt := 0; legal := .step 0 120 15
/-- BILL.DST_START, Table 9.7. -/
def Reg.BILL_DST_START : Fld where base := 0x0E000040; lo := 0; w := 27; acc := .rt; dflt := 0; legal := .dstInstant
/-- BILL.DST_END, Table 9.7. -/
def Reg.BILL_DST_END : Fld where base := 0x0E000044; lo := 0; w := 27; acc := .rt; dflt := 0; legal := .dstInstant
/-- BILL.RATE, Table 9.7. -/
def Reg.BILL_RATE : Fld where base := 0x0E000048; lo := 0; w := 3; acc := .ro; dflt := 0
/-- BILL.DAY_TYPE, Table 9.7. -/
def Reg.BILL_DAY_TYPE : Fld where base := 0x0E000048; lo := 8; w := 3; acc := .ro; dflt := 0
/-- BILL.SEASON, Table 9.7. -/
def Reg.BILL_SEASON : Fld where base := 0x0E000048; lo := 16; w := 2; acc := .ro; dflt := 0
/-- BILL.DEMAND_MODE, Table 9.7. -/
def Reg.BILL_DEMAND_MODE : Fld where base := 0x0E00004C; lo := 0; w := 1; acc := .rt; dflt := 0
/-- BILL.BILL_DAY, Table 9.7. -/
def Reg.BILL_BILL_DAY : Fld where base := 0x0E00004C; lo := 8; w := 5; acc := .rt; dflt := 1; legal := .upTo 1 28
/-- BILL.PERIOD_NO, Table 9.7. -/
def Reg.BILL_PERIOD_NO : Fld where base := 0x0E000050; lo := 0; w := 32; acc := .ro; dflt := 0
/-- BILL.STEPS, Table 9.7. -/
def Reg.BILL_STEPS : Fld where base := 0x0E000054; lo := 0; w := 32; acc := .ro; dflt := 0
/-- BILL.SWITCHES, Table 9.7. -/
def Reg.BILL_SWITCHES : Fld where base := 0x0E000058; lo := 0; w := 32; acc := .ro; dflt := 0
/-- BILL.LR_VERSION, Table 9.7. -/
def Reg.BILL_LR_VERSION : Fld where base := 0x0E00005C; lo := 0; w := 16; acc := .ro; dflt := 0
/-- BILL.LR_MATCH, Table 9.7. -/
def Reg.BILL_LR_MATCH : Fld where base := 0x0E00005C; lo := 16; w := 1; acc := .ro; dflt := 0
/-- BILL.LR_DIGEST, Table 9.7. -/
def Reg.BILL_LR_DIGEST : Fld where base := 0x0E000060; lo := 0; w := 32; acc := .ro; dflt := 0; s1 := 0x4; n1 := 2
/-- BILL.EVENT, Table 9.7. -/
def Reg.BILL_EVENT : Fld where base := 0x0E000068; lo := 0; w := 7; acc := .wc; dflt := 0
/-- BILL.SEA_DAY, Table 9.7. -/
def Reg.BILL_SEA_DAY : Fld where base := 0x0E000100; lo := 0; w := 5; acc := .rt; dflt := 0; s1 := 0x4; n1 := 4; legal := .upTo 1 31
/-- BILL.SEA_MONTH, Table 9.7. -/
def Reg.BILL_SEA_MONTH : Fld where base := 0x0E000100; lo := 5; w := 4; acc := .rt; dflt := 0; s1 := 0x4; n1 := 4; legal := .upTo 1 12
/-- BILL.SEA_WEEK, Table 9.7. -/
def Reg.BILL_SEA_WEEK : Fld where base := 0x0E000100; lo := 9; w := 21; acc := .rt; dflt := 0; s1 := 0x4; n1 := 4
/-- BILL.SEA_VALID, Table 9.7. -/
def Reg.BILL_SEA_VALID : Fld where base := 0x0E000100; lo := 31; w := 1; acc := .rt; dflt := 0; s1 := 0x4; n1 := 4
/-- BILL.SPC_DAY, Table 9.7. -/
def Reg.BILL_SPC_DAY : Fld where base := 0x0E000110; lo := 0; w := 5; acc := .rt; dflt := 0; s1 := 0x4; n1 := 32; legal := .upTo 1 31
/-- BILL.SPC_MONTH, Table 9.7. -/
def Reg.BILL_SPC_MONTH : Fld where base := 0x0E000110; lo := 5; w := 4; acc := .rt; dflt := 0; s1 := 0x4; n1 := 32; legal := .upTo 1 12
/-- BILL.SPC_YEAR, Table 9.7. -/
def Reg.BILL_SPC_YEAR : Fld where base := 0x0E000110; lo := 9; w := 12; acc := .rt; dflt := 0; s1 := 0x4; n1 := 32; legal := .upToOr 2024 4095 0
/-- BILL.SPC_TYPE, Table 9.7. -/
def Reg.BILL_SPC_TYPE : Fld where base := 0x0E000110; lo := 24; w := 3; acc := .rt; dflt := 0; s1 := 0x4; n1 := 32
/-- BILL.SPC_VALID, Table 9.7. -/
def Reg.BILL_SPC_VALID : Fld where base := 0x0E000110; lo := 31; w := 1; acc := .rt; dflt := 0; s1 := 0x4; n1 := 32
/-- BILL.SW_MINUTE, Table 9.7. -/
def Reg.BILL_SW_MINUTE : Fld where base := 0x0E000200; lo := 0; w := 11; acc := .rt; dflt := 0; s1 := 0x4; n1 := 64; legal := .step 0 1425 15
/-- BILL.SW_TYPE, Table 9.7. -/
def Reg.BILL_SW_TYPE : Fld where base := 0x0E000200; lo := 16; w := 3; acc := .rt; dflt := 0; s1 := 0x4; n1 := 64
/-- BILL.SW_RATE, Table 9.7. -/
def Reg.BILL_SW_RATE : Fld where base := 0x0E000200; lo := 24; w := 3; acc := .rt; dflt := 0; s1 := 0x4; n1 := 64
/-- BILL.SW_VALID, Table 9.7. -/
def Reg.BILL_SW_VALID : Fld where base := 0x0E000200; lo := 31; w := 1; acc := .rt; dflt := 0; s1 := 0x4; n1 := 64
/-- BILL.STEP_OLD, Table 9.7. -/
def Reg.BILL_STEP_OLD : Fld where base := 0x0E000400; lo := 0; w := 32; acc := .ro; dflt := 0; s1 := 0x10; n1 := 64
/-- BILL.STEP_NEW, Table 9.7. -/
def Reg.BILL_STEP_NEW : Fld where base := 0x0E000404; lo := 0; w := 32; acc := .ro; dflt := 0; s1 := 0x10; n1 := 64
/-- BILL.STEP_SRC, Table 9.7. -/
def Reg.BILL_STEP_SRC : Fld where base := 0x0E000408; lo := 0; w := 2; acc := .ro; dflt := 0; s1 := 0x10; n1 := 64
/-- BILL.STEP_TIDE, Table 9.7. -/
def Reg.BILL_STEP_TIDE : Fld where base := 0x0E00040C; lo := 0; w := 32; acc := .ro; dflt := 0; s1 := 0x10; n1 := 64

/-- Fields of BILL, part 1. -/
def fieldListBILL1 : List Fld :=
  [Reg.BILL_TIME_STATUS, Reg.BILL_RTC_VALID, Reg.BILL_RTC_LO, Reg.BILL_RTC_HI,
   Reg.BILL_HWM_LO, Reg.BILL_HWM_HI, Reg.BILL_TIME_SRC, Reg.BILL_ADJ_LIMIT,
   Reg.BILL_SLEW_PPM, Reg.BILL_SLEW_LEFT, Reg.BILL_SYNC_AGE, Reg.BILL_LAST_SYNC,
   Reg.BILL_SET_LO, Reg.BILL_SET_HI, Reg.BILL_SET_GO, Reg.BILL_LOCAL_OFFSET,
   Reg.BILL_DST, Reg.BILL_STD_OFFSET, Reg.BILL_DST_OFFSET, Reg.BILL_DST_START,
   Reg.BILL_DST_END, Reg.BILL_RATE, Reg.BILL_DAY_TYPE, Reg.BILL_SEASON]
/-- Fields of BILL, part 2. -/
def fieldListBILL2 : List Fld :=
  [Reg.BILL_DEMAND_MODE, Reg.BILL_BILL_DAY, Reg.BILL_PERIOD_NO, Reg.BILL_STEPS,
   Reg.BILL_SWITCHES, Reg.BILL_LR_VERSION, Reg.BILL_LR_MATCH, Reg.BILL_LR_DIGEST,
   Reg.BILL_EVENT, Reg.BILL_SEA_DAY, Reg.BILL_SEA_MONTH, Reg.BILL_SEA_WEEK,
   Reg.BILL_SEA_VALID, Reg.BILL_SPC_DAY, Reg.BILL_SPC_MONTH, Reg.BILL_SPC_YEAR,
   Reg.BILL_SPC_TYPE, Reg.BILL_SPC_VALID, Reg.BILL_SW_MINUTE, Reg.BILL_SW_TYPE,
   Reg.BILL_SW_RATE, Reg.BILL_SW_VALID, Reg.BILL_STEP_OLD, Reg.BILL_STEP_NEW]
/-- Fields of BILL, part 3. -/
def fieldListBILL3 : List Fld :=
  [Reg.BILL_STEP_SRC, Reg.BILL_STEP_TIDE]
/-- The fields of BILL in the order of its object map. -/
def fieldsBILL : List Fld := fieldListBILL1 ++ fieldListBILL2 ++ fieldListBILL3

/-- BILLP.PERIOD_NO, Table 9.8. -/
def Reg.BILLP_PERIOD_NO : Fld where base := 0x0E010000; lo := 0; w := 32; acc := .ro; dflt := 0; insts := 25
/-- BILLP.P_STATE, Table 9.8. -/
def Reg.BILLP_P_STATE : Fld where base := 0x0E010004; lo := 0; w := 2; acc := .ro; dflt := 0; insts := 25
/-- BILLP.P_FLAGS, Table 9.8. -/
def Reg.BILLP_P_FLAGS : Fld where base := 0x0E010004; lo := 8; w := 6; acc := .ro; dflt := 0; insts := 25
/-- BILLP.START_LO, Table 9.8. -/
def Reg.BILLP_START_LO : Fld where base := 0x0E010008; lo := 0; w := 32; acc := .ro; dflt := 0; insts := 25
/-- BILLP.START_HI, Table 9.8. -/
def Reg.BILLP_START_HI : Fld where base := 0x0E01000C; lo := 0; w := 32; acc := .ro; dflt := 0; insts := 25
/-- BILLP.END_LO, Table 9.8. -/
def Reg.BILLP_END_LO : Fld where base := 0x0E010010; lo := 0; w := 32; acc := .ro; dflt := 0; insts := 25
/-- BILLP.END_HI, Table 9.8. -/
def Reg.BILLP_END_HI : Fld where base := 0x0E010014; lo := 0; w := 32; acc := .ro; dflt := 0; insts := 25
/-- BILLP.CRC, Table 9.8. -/
def Reg.BILLP_CRC : Fld where base := 0x0E010018; lo := 0; w := 32; acc := .ro; dflt := 0; insts := 25
/-- BILLP.RIMP_LO, Table 9.8. -/
def Reg.BILLP_RIMP_LO : Fld where base := 0x0E010100; lo := 0; w := 32; acc := .ro; dflt := 0; insts := 25; s1 := 0x100; n1 := 40; s2 := 0x8; n2 := 8
/-- BILLP.RIMP_HI, Table 9.8. -/
def Reg.BILLP_RIMP_HI : Fld where base := 0x0E010104; lo := 0; w := 32; acc := .ro; dflt := 0; insts := 25; s1 := 0x100; n1 := 40; s2 := 0x8; n2 := 8
/-- BILLP.REXP_LO, Table 9.8. -/
def Reg.BILLP_REXP_LO : Fld where base := 0x0E010140; lo := 0; w := 32; acc := .ro; dflt := 0; insts := 25; s1 := 0x100; n1 := 40; s2 := 0x8; n2 := 8
/-- BILLP.REXP_HI, Table 9.8. -/
def Reg.BILLP_REXP_HI : Fld where base := 0x0E010144; lo := 0; w := 32; acc := .ro; dflt := 0; insts := 25; s1 := 0x100; n1 := 40; s2 := 0x8; n2 := 8
/-- BILLP.READ_LO, Table 9.8. -/
def Reg.BILLP_READ_LO : Fld where base := 0x0E010180; lo := 0; w := 32; acc := .ro; dflt := 0; insts := 25; s1 := 0x100; n1 := 40; s2 := 0x8; n2 := 7
/-- BILLP.READ_HI, Table 9.8. -/
def Reg.BILLP_READ_HI : Fld where base := 0x0E010184; lo := 0; w := 32; acc := .ro; dflt := 0; insts := 25; s1 := 0x100; n1 := 40; s2 := 0x8; n2 := 7
/-- BILLP.MAXD_IMP, Table 9.8. -/
def Reg.BILLP_MAXD_IMP : Fld where base := 0x0E0101C0; lo := 0; w := 32; acc := .ro; dflt := 0; insts := 25; s1 := 0x100; n1 := 40
/-- BILLP.MAXD_IMP_T, Table 9.8. -/
def Reg.BILLP_MAXD_IMP_T : Fld where base := 0x0E0101C4; lo := 0; w := 32; acc := .ro; dflt := 0; insts := 25; s1 := 0x100; n1 := 40
/-- BILLP.MAXD_EXP, Table 9.8. -/
def Reg.BILLP_MAXD_EXP : Fld where base := 0x0E0101C8; lo := 0; w := 32; acc := .ro; dflt := 0; insts := 25; s1 := 0x100; n1 := 40
/-- BILLP.MAXD_EXP_T, Table 9.8. -/
def Reg.BILLP_MAXD_EXP_T : Fld where base := 0x0E0101CC; lo := 0; w := 32; acc := .ro; dflt := 0; insts := 25; s1 := 0x100; n1 := 40

/-- Fields of BILLP, part 1. -/
def fieldListBILLP1 : List Fld :=
  [Reg.BILLP_PERIOD_NO, Reg.BILLP_P_STATE, Reg.BILLP_P_FLAGS, Reg.BILLP_START_LO,
   Reg.BILLP_START_HI, Reg.BILLP_END_LO, Reg.BILLP_END_HI, Reg.BILLP_CRC,
   Reg.BILLP_RIMP_LO, Reg.BILLP_RIMP_HI, Reg.BILLP_REXP_LO, Reg.BILLP_REXP_HI,
   Reg.BILLP_READ_LO, Reg.BILLP_READ_HI, Reg.BILLP_MAXD_IMP, Reg.BILLP_MAXD_IMP_T,
   Reg.BILLP_MAXD_EXP, Reg.BILLP_MAXD_EXP_T]
/-- The fields of BILLP in the order of its object map. -/
def fieldsBILLP : List Fld := fieldListBILLP1

/-- PROF.BASE, Table 9.9. -/
def Reg.PROF_BASE : Fld where base := 0x0F000000; lo := 0; w := 32; acc := .ro; dflt := 67108864
/-- PROF.SIZE, Table 9.9. -/
def Reg.PROF_SIZE : Fld where base := 0x0F000004; lo := 0; w := 32; acc := .ro; dflt := 29360128
/-- PROF.WRITE_OFS, Table 9.9. -/
def Reg.PROF_WRITE_OFS : Fld where base := 0x0F000008; lo := 0; w := 25; acc := .ro; dflt := 0
/-- PROF.OLDEST_OFS, Table 9.9. -/
def Reg.PROF_OLDEST_OFS : Fld where base := 0x0F00000C; lo := 0; w := 25; acc := .ro; dflt := 0
/-- PROF.REC_LEN, Table 9.9. -/
def Reg.PROF_REC_LEN : Fld where base := 0x0F000010; lo := 0; w := 10; acc := .ro; dflt := 0
/-- PROF.RECORDS, Table 9.9. -/
def Reg.PROF_RECORDS : Fld where base := 0x0F000014; lo := 0; w := 32; acc := .ro; dflt := 0
/-- PROF.DISCARDED, Table 9.9. -/
def Reg.PROF_DISCARDED : Fld where base := 0x0F000018; lo := 0; w := 32; acc := .ro; dflt := 0
/-- PROF.IV_START, Table 9.9. -/
def Reg.PROF_IV_START : Fld where base := 0x0F00001C; lo := 0; w := 32; acc := .ro; dflt := 0
/-- PROF.IV_END, Table 9.9. -/
def Reg.PROF_IV_END : Fld where base := 0x0F000020; lo := 0; w := 32; acc := .ro; dflt := 0
/-- PROF.IV_STATUS, Table 9.9. -/
def Reg.PROF_IV_STATUS : Fld where base := 0x0F000024; lo := 0; w := 8; acc := .ro; dflt := 0
/-- PROF.EVENT, Table 9.9. -/
def Reg.PROF_EVENT : Fld where base := 0x0F000028; lo := 0; w := 4; acc := .wc; dflt := 0
/-- PROF.DEM_IMP, Table 9.9. -/
def Reg.PROF_DEM_IMP : Fld where base := 0x0F000100; lo := 0; w := 32; acc := .ro; dflt := 0; s1 := 0x10; n1 := 40
/-- PROF.DEM_EXP, Table 9.9. -/
def Reg.PROF_DEM_EXP : Fld where base := 0x0F000104; lo := 0; w := 32; acc := .ro; dflt := 0; s1 := 0x10; n1 := 40
/-- PROF.DEM_T, Table 9.9. -/
def Reg.PROF_DEM_T : Fld where base := 0x0F000108; lo := 0; w := 32; acc := .ro; dflt := 0; s1 := 0x10; n1 := 40
/-- PROF.DEM_VALID, Table 9.9. -/
def Reg.PROF_DEM_VALID : Fld where base := 0x0F00010C; lo := 0; w := 1; acc := .ro; dflt := 0; s1 := 0x10; n1 := 40
/-- PROF.DEM_SUBS, Table 9.9. -/
def Reg.PROF_DEM_SUBS : Fld where base := 0x0F00010C; lo := 8; w := 3; acc := .ro; dflt := 0; s1 := 0x10; n1 := 40

/-- Fields of PROF, part 1. -/
def fieldListPROF1 : List Fld :=
  [Reg.PROF_BASE, Reg.PROF_SIZE, Reg.PROF_WRITE_OFS, Reg.PROF_OLDEST_OFS,
   Reg.PROF_REC_LEN, Reg.PROF_RECORDS, Reg.PROF_DISCARDED, Reg.PROF_IV_START,
   Reg.PROF_IV_END, Reg.PROF_IV_STATUS, Reg.PROF_EVENT, Reg.PROF_DEM_IMP,
   Reg.PROF_DEM_EXP, Reg.PROF_DEM_T, Reg.PROF_DEM_VALID, Reg.PROF_DEM_SUBS]
/-- The fields of PROF in the order of its object map. -/
def fieldsPROF : List Fld := fieldListPROF1

/-- PREPAY.TOKEN_KEY, Table 9.10. -/
def Reg.PREPAY_TOKEN_KEY : Fld where base := 0x10000000; lo := 0; w := 9; acc := .ro; dflt := 0
/-- PREPAY.KEY_VALID, Table 9.10. -/
def Reg.PREPAY_KEY_VALID : Fld where base := 0x10000000; lo := 16; w := 1; acc := .ro; dflt := 0
/-- PREPAY.WIN_BASE, Table 9.10. -/
def Reg.PREPAY_WIN_BASE : Fld where base := 0x10000004; lo := 0; w := 20; acc := .ro; dflt := 0
/-- PREPAY.BALANCE, Table 9.10. -/
def Reg.PREPAY_BALANCE : Fld where base := 0x10000008; lo := 0; w := 32; acc := .ro; dflt := 0
/-- PREPAY.ACCEPTED, Table 9.10. -/
def Reg.PREPAY_ACCEPTED : Fld where base := 0x1000000C; lo := 0; w := 32; acc := .ro; dflt := 0
/-- PREPAY.REJECTED, Table 9.10. -/
def Reg.PREPAY_REJECTED : Fld where base := 0x10000010; lo := 0; w := 32; acc := .ro; dflt := 0
/-- PREPAY.LAST_ID, Table 9.10. -/
def Reg.PREPAY_LAST_ID : Fld where base := 0x10000014; lo := 0; w := 20; acc := .ro; dflt := 0
/-- PREPAY.LAST_SCOPE, Table 9.10. -/
def Reg.PREPAY_LAST_SCOPE : Fld where base := 0x10000014; lo := 20; w := 3; acc := .ro; dflt := 0
/-- PREPAY.LAST_CONN, Table 9.10. -/
def Reg.PREPAY_LAST_CONN : Fld where base := 0x10000014; lo := 24; w := 5; acc := .ro; dflt := 0
/-- PREPAY.LAST_AMOUNT, Table 9.10. -/
def Reg.PREPAY_LAST_AMOUNT : Fld where base := 0x10000018; lo := 0; w := 17; acc := .ro; dflt := 0
/-- PREPAY.LAST_TIME, Table 9.10. -/
def Reg.PREPAY_LAST_TIME : Fld where base := 0x1000001C; lo := 0; w := 32; acc := .ro; dflt := 0
/-- PREPAY.FAIL_LIMIT, Table 9.10. -/
def Reg.PREPAY_FAIL_LIMIT : Fld where base := 0x10000020; lo := 0; w := 3; acc := .rt; dflt := 5; legal := .upTo 1 7
/-- PREPAY.LOCK_TIDES, Table 9.10. -/
def Reg.PREPAY_LOCK_TIDES : Fld where base := 0x10000024; lo := 0; w := 16; acc := .rt; dflt := 6000; legal := .upTo 100 60000
/-- PREPAY.ENTRY_TIMEOUT, Table 9.10. -/
def Reg.PREPAY_ENTRY_TIMEOUT : Fld where base := 0x10000028; lo := 0; w := 16; acc := .rt; dflt := 3000; legal := .upTo 500 12000
/-- PREPAY.EVENT, Table 9.10. -/
def Reg.PREPAY_EVENT : Fld where base := 0x1000002C; lo := 0; w := 4; acc := .wc; dflt := 0
/-- PREPAY.CREDIT, Table 9.10. -/
def Reg.PREPAY_CREDIT : Fld where base := 0x10000100; lo := 0; w := 32; acc := .ro; dflt := 0; s1 := 0x10; n1 := 32
/-- PREPAY.CR_SRC, Table 9.10. -/
def Reg.PREPAY_CR_SRC : Fld where base := 0x10000104; lo := 0; w := 2; acc := .ro; dflt := 0; s1 := 0x10; n1 := 32
/-- PREPAY.KP_FAILS, Table 9.10. -/
def Reg.PREPAY_KP_FAILS : Fld where base := 0x10000104; lo := 8; w := 3; acc := .ro; dflt := 0; s1 := 0x10; n1 := 32
/-- PREPAY.KP_LOCK, Table 9.10. -/
def Reg.PREPAY_KP_LOCK : Fld where base := 0x10000108; lo := 0; w := 16; acc := .ro; dflt := 0; s1 := 0x10; n1 := 32
/-- PREPAY.KP_RESULT, Table 9.10. -/
def Reg.PREPAY_KP_RESULT : Fld where base := 0x1000010C; lo := 0; w := 16; acc := .ro; dflt := 0; s1 := 0x10; n1 := 32
/-- PREPAY.WIN_MAP, Table 9.10. -/
def Reg.PREPAY_WIN_MAP : Fld where base := 0x10001000; lo := 0; w := 32; acc := .ro; dflt := 0; s1 := 0x4; n1 := 128

/-- Fields of PREPAY, part 1. -/
def fieldListPREPAY1 : List Fld :=
  [Reg.PREPAY_TOKEN_KEY, Reg.PREPAY_KEY_VALID, Reg.PREPAY_WIN_BASE, Reg.PREPAY_BALANCE,
   Reg.PREPAY_ACCEPTED, Reg.PREPAY_REJECTED, Reg.PREPAY_LAST_ID, Reg.PREPAY_LAST_SCOPE,
   Reg.PREPAY_LAST_CONN, Reg.PREPAY_LAST_AMOUNT, Reg.PREPAY_LAST_TIME, Reg.PREPAY_FAIL_LIMIT,
   Reg.PREPAY_LOCK_TIDES, Reg.PREPAY_ENTRY_TIMEOUT, Reg.PREPAY_EVENT, Reg.PREPAY_CREDIT,
   Reg.PREPAY_CR_SRC, Reg.PREPAY_KP_FAILS, Reg.PREPAY_KP_LOCK, Reg.PREPAY_KP_RESULT,
   Reg.PREPAY_WIN_MAP]
/-- The fields of PREPAY in the order of its object map. -/
def fieldsPREPAY : List Fld := fieldListPREPAY1

/-- TAMP.RESPONSE, Table 9.11. -/
def Reg.TAMP_RESPONSE : Fld where base := 0x11000000; lo := 0; w := 2; acc := .rt; dflt := 0; dr := .tampResponse; insts := 16; legal := .upTo 0 2
/-- TAMP.TAMP_POL, Table 9.11. -/
def Reg.TAMP_TAMP_POL : Fld where base := 0x11000000; lo := 8; w := 1; acc := .rt; dflt := 0; insts := 16
/-- TAMP.TAMP_EN, Table 9.11. -/
def Reg.TAMP_TAMP_EN : Fld where base := 0x11000000; lo := 9; w := 1; acc := .rt; dflt := 0; insts := 16
/-- TAMP.COUNT, Table 9.11. -/
def Reg.TAMP_COUNT : Fld where base := 0x11000004; lo := 0; w := 32; acc := .ro; dflt := 0; insts := 16
/-- TAMP.FIRST_LO, Table 9.11. -/
def Reg.TAMP_FIRST_LO : Fld where base := 0x11000008; lo := 0; w := 32; acc := .ro; dflt := 0; insts := 16
/-- TAMP.FIRST_HI, Table 9.11. -/
def Reg.TAMP_FIRST_HI : Fld where base := 0x1100000C; lo := 0; w := 32; acc := .ro; dflt := 0; insts := 16
/-- TAMP.LAST_LO, Table 9.11. -/
def Reg.TAMP_LAST_LO : Fld where base := 0x11000010; lo := 0; w := 32; acc := .ro; dflt := 0; insts := 16
/-- TAMP.LAST_HI, Table 9.11. -/
def Reg.TAMP_LAST_HI : Fld where base := 0x11000014; lo := 0; w := 32; acc := .ro; dflt := 0; insts := 16
/-- TAMP.ACTIVE, Table 9.11. -/
def Reg.TAMP_ACTIVE : Fld where base := 0x11000018; lo := 0; w := 1; acc := .ro; dflt := 0; insts := 16
/-- TAMP.SEALED, Table 9.11. -/
def Reg.TAMP_SEALED : Fld where base := 0x11000018; lo := 1; w := 1; acc := .ro; dflt := 0; insts := 16
/-- TAMP.SEAL_CLR, Table 9.11. -/
def Reg.TAMP_SEAL_CLR : Fld where base := 0x1100001C; lo := 0; w := 1; acc := .ri; dflt := 0; insts := 16
/-- TAMP.SEAL_CLEARS, Table 9.11. -/
def Reg.TAMP_SEAL_CLEARS : Fld where base := 0x11000020; lo := 0; w := 32; acc := .ro; dflt := 0; insts := 16

/-- Fields of TAMP, part 1. -/
def fieldListTAMP1 : List Fld :=
  [Reg.TAMP_RESPONSE, Reg.TAMP_TAMP_POL, Reg.TAMP_TAMP_EN, Reg.TAMP_COUNT,
   Reg.TAMP_FIRST_LO, Reg.TAMP_FIRST_HI, Reg.TAMP_LAST_LO, Reg.TAMP_LAST_HI,
   Reg.TAMP_ACTIVE, Reg.TAMP_SEALED, Reg.TAMP_SEAL_CLR, Reg.TAMP_SEAL_CLEARS]
/-- The fields of TAMP in the order of its object map. -/
def fieldsTAMP : List Fld := fieldListTAMP1

/-- TAMPX.SEALED_MASK, R313. -/
def Reg.TAMPX_SEALED_MASK : Fld where base := 0x11100000; lo := 0; w := 16; acc := .ro; dflt := 0
/-- TAMPX.ERASED, R313. -/
def Reg.TAMPX_ERASED : Fld where base := 0x11100000; lo := 16; w := 1; acc := .ro; dflt := 0
/-- TAMPX.EVENT, R313. -/
def Reg.TAMPX_EVENT : Fld where base := 0x11100004; lo := 0; w := 16; acc := .wc; dflt := 0

/-- Fields of TAMPX, part 1. -/
def fieldListTAMPX1 : List Fld :=
  [Reg.TAMPX_SEALED_MASK, Reg.TAMPX_ERASED]
/-- The fields of TAMPX in the order of its object map. -/
def fieldsTAMPX : List Fld := fieldListTAMPX1

end Sys2Proof.Machine
end

