-- ==== Sys2Proof/Machine/MapPower.lean ====
section
/-! DEFINITION. Object maps of the blocks MTX, CAB, SESS, SESSX, LOOP, COOL, COOLC, GD, LS, LSX: every field with its place, width,
access code, default and legal values, in the order of the spec's tables. -/
namespace Sys2Proof.Machine

/-- MTX.CONTACTORS, Table 4.7. -/
def Reg.MTX_CONTACTORS : Fld where base := 0x05000000; lo := 0; w := 9; acc := .ro; dflt := 0
/-- MTX.BUSES, Table 4.7. -/
def Reg.MTX_BUSES : Fld where base := 0x05000004; lo := 0; w := 7; acc := .ro; dflt := 0
/-- MTX.GUARD_SETS, Table 4.7. -/
def Reg.MTX_GUARD_SETS : Fld where base := 0x05000004; lo := 16; w := 8; acc := .ro; dflt := 0
/-- MTX.MOVE_MAX, Table 4.7. -/
def Reg.MTX_MOVE_MAX : Fld where base := 0x05000008; lo := 0; w := 4; acc := .rt; dflt := 8; legal := .upTo 1 8
/-- MTX.PENDING, Table 4.7. -/
def Reg.MTX_PENDING : Fld where base := 0x0500000C; lo := 0; w := 4; acc := .ro; dflt := 0
/-- MTX.DWELL, Table 4.7. -/
def Reg.MTX_DWELL : Fld where base := 0x05000010; lo := 0; w := 16; acc := .rt; dflt := 500; legal := .upTo 10 65535
/-- MTX.ADD_PCT, Table 4.7. -/
def Reg.MTX_ADD_PCT : Fld where base := 0x05000014; lo := 0; w := 7; acc := .rt; dflt := 10; legal := .upTo 0 100
/-- MTX.REL_PCT, Table 4.7. -/
def Reg.MTX_REL_PCT : Fld where base := 0x05000014; lo := 16; w := 7; acc := .rt; dflt := 25; legal := .upTo 0 100
/-- MTX.RAMP_WAVES, Table 4.7. -/
def Reg.MTX_RAMP_WAVES : Fld where base := 0x05000018; lo := 0; w := 16; acc := .rt; dflt := 200; legal := .upTo 40 4000
/-- MTX.ZERO_I, Table 4.7. -/
def Reg.MTX_ZERO_I : Fld where base := 0x0500001C; lo := 0; w := 16; acc := .rt; dflt := 50; legal := .upTo 10 500
/-- MTX.ZERO_WAIT, Table 4.7. -/
def Reg.MTX_ZERO_WAIT : Fld where base := 0x05000020; lo := 0; w := 16; acc := .rt; dflt := 800; legal := .upTo 44 8000
/-- MTX.OPEN_WAIT, Table 4.7. -/
def Reg.MTX_OPEN_WAIT : Fld where base := 0x05000024; lo := 0; w := 16; acc := .rt; dflt := 1600; legal := .upTo 400 8000
/-- MTX.WELD_CONFIRM, Table 4.7. -/
def Reg.MTX_WELD_CONFIRM : Fld where base := 0x05000028; lo := 0; w := 16; acc := .rt; dflt := 400; legal := .upTo 40 4000
/-- MTX.MATCH_V, Table 4.7. -/
def Reg.MTX_MATCH_V : Fld where base := 0x0500002C; lo := 0; w := 16; acc := .rt; dflt := 200; legal := .upTo 20 500
/-- MTX.MATCH_WAIT, Table 4.7. -/
def Reg.MTX_MATCH_WAIT : Fld where base := 0x05000030; lo := 0; w := 16; acc := .rt; dflt := 800; legal := .upTo 40 8000
/-- MTX.CLOSE_WAIT, Table 4.7. -/
def Reg.MTX_CLOSE_WAIT : Fld where base := 0x05000034; lo := 0; w := 16; acc := .rt; dflt := 1600; legal := .upTo 400 8000
/-- MTX.EVENT, Table 4.7. -/
def Reg.MTX_EVENT : Fld where base := 0x05000038; lo := 0; w := 8; acc := .wc; dflt := 0
/-- MTX.MOVES_DONE, Table 4.7. -/
def Reg.MTX_MOVES_DONE : Fld where base := 0x0500003C; lo := 0; w := 32; acc := .ro; dflt := 0
/-- MTX.MOVES_ABORTED, Table 4.7. -/
def Reg.MTX_MOVES_ABORTED : Fld where base := 0x05000040; lo := 0; w := 32; acc := .ro; dflt := 0
/-- MTX.GUARD_BLOCKS, Table 4.7. -/
def Reg.MTX_GUARD_BLOCKS : Fld where base := 0x05000044; lo := 0; w := 32; acc := .ro; dflt := 0
/-- MTX.MV_TYPE, Table 4.7. -/
def Reg.MTX_MV_TYPE : Fld where base := 0x05000100; lo := 0; w := 2; acc := .ro; dflt := 0; s1 := 0x20; n1 := 8
/-- MTX.MV_PHASE, Table 4.7. -/
def Reg.MTX_MV_PHASE : Fld where base := 0x05000100; lo := 8; w := 4; acc := .ro; dflt := 0; s1 := 0x20; n1 := 8
/-- MTX.MV_SUBJECT, Table 4.7. -/
def Reg.MTX_MV_SUBJECT : Fld where base := 0x05000100; lo := 16; w := 6; acc := .ro; dflt := 0; s1 := 0x20; n1 := 8
/-- MTX.MV_OPEN, Table 4.7. -/
def Reg.MTX_MV_OPEN : Fld where base := 0x05000104; lo := 0; w := 9; acc := .ro; dflt := 511; s1 := 0x20; n1 := 8
/-- MTX.MV_CLOSE, Table 4.7. -/
def Reg.MTX_MV_CLOSE : Fld where base := 0x05000104; lo := 16; w := 9; acc := .ro; dflt := 511; s1 := 0x20; n1 := 8
/-- MTX.MV_TIDE, Table 4.7. -/
def Reg.MTX_MV_TIDE : Fld where base := 0x05000108; lo := 0; w := 32; acc := .ro; dflt := 0; s1 := 0x20; n1 := 8
/-- MTX.MV_WAVES, Table 4.7. -/
def Reg.MTX_MV_WAVES : Fld where base := 0x0500010C; lo := 0; w := 16; acc := .ro; dflt := 0; s1 := 0x20; n1 := 8
/-- MTX.MV_RESULT, Table 4.7. -/
def Reg.MTX_MV_RESULT : Fld where base := 0x05000110; lo := 0; w := 16; acc := .ro; dflt := 0; s1 := 0x20; n1 := 8
/-- MTX.BUS_CONN, Table 4.7. -/
def Reg.MTX_BUS_CONN : Fld where base := 0x05000400; lo := 0; w := 8; acc := .ro; dflt := 255; s1 := 0x10; n1 := 64
/-- MTX.BUS_P_CONN, Table 4.7. -/
def Reg.MTX_BUS_P_CONN : Fld where base := 0x05000404; lo := 0; w := 32; acc := .ro; dflt := 0; s1 := 0x10; n1 := 64
/-- MTX.BUS_CAB_LO, Table 4.7. -/
def Reg.MTX_BUS_CAB_LO : Fld where base := 0x05000408; lo := 0; w := 32; acc := .ro; dflt := 0; s1 := 0x10; n1 := 64
/-- MTX.BUS_CAB_HI, Table 4.7. -/
def Reg.MTX_BUS_CAB_HI : Fld where base := 0x0500040C; lo := 0; w := 32; acc := .ro; dflt := 0; s1 := 0x10; n1 := 64
/-- MTX.CONN_BUS, Table 4.7. -/
def Reg.MTX_CONN_BUS : Fld where base := 0x05000800; lo := 0; w := 8; acc := .ro; dflt := 255; s1 := 0x4; n1 := 32
/-- MTX.CONN_STATE, Table 4.7. -/
def Reg.MTX_CONN_STATE : Fld where base := 0x05000800; lo := 8; w := 3; acc := .ro; dflt := 0; s1 := 0x4; n1 := 32
/-- MTX.CT_KIND, Table 4.7. -/
def Reg.MTX_CT_KIND : Fld where base := 0x05001000; lo := 0; w := 2; acc := .ro; dflt := 0; s1 := 0x10; n1 := 256
/-- MTX.CT_FROM, Table 4.7. -/
def Reg.MTX_CT_FROM : Fld where base := 0x05001000; lo := 8; w := 6; acc := .ro; dflt := 0; s1 := 0x10; n1 := 256
/-- MTX.CT_TO, Table 4.7. -/
def Reg.MTX_CT_TO : Fld where base := 0x05001000; lo := 16; w := 6; acc := .ro; dflt := 0; s1 := 0x10; n1 := 256
/-- MTX.CT_GROUP, Table 4.7. -/
def Reg.MTX_CT_GROUP : Fld where base := 0x05001000; lo := 24; w := 4; acc := .ro; dflt := 0; s1 := 0x10; n1 := 256
/-- MTX.CT_SEL_KIND, Table 4.7. -/
def Reg.MTX_CT_SEL_KIND : Fld where base := 0x05001004; lo := 0; w := 2; acc := .ro; dflt := 0; s1 := 0x10; n1 := 256
/-- MTX.CT_SEL_INDEX, Table 4.7. -/
def Reg.MTX_CT_SEL_INDEX : Fld where base := 0x05001004; lo := 8; w := 6; acc := .ro; dflt := 0; s1 := 0x10; n1 := 256
/-- MTX.CT_SEL_BIT, Table 4.7. -/
def Reg.MTX_CT_SEL_BIT : Fld where base := 0x05001004; lo := 16; w := 3; acc := .ro; dflt := 0; s1 := 0x10; n1 := 256
/-- MTX.CT_MIRROR_SIN, Table 4.7. -/
def Reg.MTX_CT_MIRROR_SIN : Fld where base := 0x05001004; lo := 24; w := 5; acc := .ro; dflt := 0; s1 := 0x10; n1 := 256
/-- MTX.CT_STATE, Table 4.7. -/
def Reg.MTX_CT_STATE : Fld where base := 0x05001008; lo := 0; w := 3; acc := .ro; dflt := 0; s1 := 0x10; n1 := 256
/-- MTX.CT_CMD, Table 4.7. -/
def Reg.MTX_CT_CMD : Fld where base := 0x05001008; lo := 8; w := 1; acc := .ro; dflt := 0; s1 := 0x10; n1 := 256
/-- MTX.CT_MIRROR, Table 4.7. -/
def Reg.MTX_CT_MIRROR : Fld where base := 0x05001008; lo := 9; w := 1; acc := .ro; dflt := 0; s1 := 0x10; n1 := 256
/-- MTX.CT_CLR, Table 4.7. -/
def Reg.MTX_CT_CLR : Fld where base := 0x05001008; lo := 16; w := 1; acc := .rt; dflt := 0; s1 := 0x10; n1 := 256
/-- MTX.CT_OPS, Table 4.7. -/
def Reg.MTX_CT_OPS : Fld where base := 0x0500100C; lo := 0; w := 24; acc := .ro; dflt := 0; s1 := 0x10; n1 := 256
/-- MTX.CT_BREAKS, Table 4.7. -/
def Reg.MTX_CT_BREAKS : Fld where base := 0x0500100C; lo := 24; w := 8; acc := .ro; dflt := 0; s1 := 0x10; n1 := 256
/-- MTX.GUARD_MASK, Table 4.7. -/
def Reg.MTX_GUARD_MASK : Fld where base := 0x05004000; lo := 0; w := 32; acc := .ro; dflt := 0; s1 := 0x20; n1 := 192; s2 := 0x4; n2 := 8

/-- Fields of MTX, part 1. -/
def fieldListMTX1 : List Fld :=
  [Reg.MTX_CONTACTORS, Reg.MTX_BUSES, Reg.MTX_GUARD_SETS, Reg.MTX_MOVE_MAX,
   Reg.MTX_PENDING, Reg.MTX_DWELL, Reg.MTX_ADD_PCT, Reg.MTX_REL_PCT,
   Reg.MTX_RAMP_WAVES, Reg.MTX_ZERO_I, Reg.MTX_ZERO_WAIT, Reg.MTX_OPEN_WAIT,
   Reg.MTX_WELD_CONFIRM, Reg.MTX_MATCH_V, Reg.MTX_MATCH_WAIT, Reg.MTX_CLOSE_WAIT,
   Reg.MTX_EVENT, Reg.MTX_MOVES_DONE, Reg.MTX_MOVES_ABORTED, Reg.MTX_GUARD_BLOCKS,
   Reg.MTX_MV_TYPE, Reg.MTX_MV_PHASE, Reg.MTX_MV_SUBJECT, Reg.MTX_MV_OPEN]
/-- Fields of MTX, part 2. -/
def fieldListMTX2 : List Fld :=
  [Reg.MTX_MV_CLOSE, Reg.MTX_MV_TIDE, Reg.MTX_MV_WAVES, Reg.MTX_MV_RESULT,
   Reg.MTX_BUS_CONN, Reg.MTX_BUS_P_CONN, Reg.MTX_BUS_CAB_LO, Reg.MTX_BUS_CAB_HI,
   Reg.MTX_CONN_BUS, Reg.MTX_CONN_STATE, Reg.MTX_CT_KIND, Reg.MTX_CT_FROM,
   Reg.MTX_CT_TO, Reg.MTX_CT_GROUP, Reg.MTX_CT_SEL_KIND, Reg.MTX_CT_SEL_INDEX,
   Reg.MTX_CT_SEL_BIT, Reg.MTX_CT_MIRROR_SIN, Reg.MTX_CT_STATE, Reg.MTX_CT_CMD,
   Reg.MTX_CT_MIRROR, Reg.MTX_CT_CLR, Reg.MTX_CT_OPS, Reg.MTX_CT_BREAKS]
/-- Fields of MTX, part 3. -/
def fieldListMTX3 : List Fld :=
  [Reg.MTX_GUARD_MASK]
/-- The fields of MTX in the order of its object map. -/
def fieldsMTX : List Fld := fieldListMTX1 ++ fieldListMTX2 ++ fieldListMTX3

/-- CAB.PRESENT, Table 4.8. -/
def Reg.CAB_PRESENT : Fld where base := 0x06000000; lo := 0; w := 1; acc := .ro; dflt := 0; insts := 64
/-- CAB.BIDIR, Table 4.8. -/
def Reg.CAB_BIDIR : Fld where base := 0x06000000; lo := 1; w := 1; acc := .ro; dflt := 0; insts := 64
/-- CAB.RATING, Table 4.8. -/
def Reg.CAB_RATING : Fld where base := 0x06000004; lo := 0; w := 32; acc := .ro; dflt := 0; insts := 64
/-- CAB.I_RATED, Table 4.8. -/
def Reg.CAB_I_RATED : Fld where base := 0x06000008; lo := 0; w := 16; acc := .ro; dflt := 0; insts := 64
/-- CAB.PORT_A, Table 4.8. -/
def Reg.CAB_PORT_A : Fld where base := 0x0600000C; lo := 0; w := 4; acc := .ro; dflt := 0; insts := 64
/-- CAB.PORT_B, Table 4.8. -/
def Reg.CAB_PORT_B : Fld where base := 0x0600000C; lo := 8; w := 4; acc := .ro; dflt := 15; insts := 64
/-- CAB.STATE, Table 4.8. -/
def Reg.CAB_STATE : Fld where base := 0x06000010; lo := 0; w := 3; acc := .ro; dflt := 0; insts := 64
/-- CAB.BUS, Table 4.8. -/
def Reg.CAB_BUS : Fld where base := 0x06000014; lo := 0; w := 8; acc := .ro; dflt := 255; insts := 64
/-- CAB.IN_MOVE, Table 4.8. -/
def Reg.CAB_IN_MOVE : Fld where base := 0x06000014; lo := 8; w := 1; acc := .ro; dflt := 0; insts := 64
/-- CAB.DWELL_LEFT, Table 4.8. -/
def Reg.CAB_DWELL_LEFT : Fld where base := 0x06000018; lo := 0; w := 16; acc := .ro; dflt := 0; insts := 64
/-- CAB.P_AVAIL, Table 4.8. -/
def Reg.CAB_P_AVAIL : Fld where base := 0x0600001C; lo := 0; w := 32; acc := .ro; dflt := 0; insts := 64
/-- CAB.R_EFF, Table 4.8. -/
def Reg.CAB_R_EFF : Fld where base := 0x06000020; lo := 0; w := 32; acc := .ro; dflt := 0; insts := 64
/-- CAB.I_SET, Table 4.8. -/
def Reg.CAB_I_SET : Fld where base := 0x06000024; lo := 0; w := 32; acc := .ro; dflt := 0; insts := 64
/-- CAB.I_OUT, Table 4.8. -/
def Reg.CAB_I_OUT : Fld where base := 0x06000028; lo := 0; w := 32; acc := .ro; dflt := 0; insts := 64
/-- CAB.V_OUT, Table 4.8. -/
def Reg.CAB_V_OUT : Fld where base := 0x0600002C; lo := 0; w := 32; acc := .ro; dflt := 0; insts := 64
/-- CAB.REP_STATE, Table 4.8. -/
def Reg.CAB_REP_STATE : Fld where base := 0x06000030; lo := 0; w := 8; acc := .ro; dflt := 0; insts := 64
/-- CAB.REP_FLAGS, Table 4.8. -/
def Reg.CAB_REP_FLAGS : Fld where base := 0x06000030; lo := 8; w := 8; acc := .ro; dflt := 0; insts := 64
/-- CAB.FAULT_CODE, Table 4.8. -/
def Reg.CAB_FAULT_CODE : Fld where base := 0x06000034; lo := 0; w := 16; acc := .ro; dflt := 0; insts := 64
/-- CAB.MIRROR_MASK, Table 4.8. -/
def Reg.CAB_MIRROR_MASK : Fld where base := 0x06000034; lo := 16; w := 8; acc := .ro; dflt := 0; insts := 64
/-- CAB.CLOSE_MASK, Table 4.8. -/
def Reg.CAB_CLOSE_MASK : Fld where base := 0x06000038; lo := 0; w := 8; acc := .ro; dflt := 0; insts := 64
/-- CAB.HOLD_WAVES, Table 4.8. -/
def Reg.CAB_HOLD_WAVES : Fld where base := 0x0600003C; lo := 0; w := 16; acc := .rt; dflt := 1600; insts := 64; legal := .upTo 40 4000
/-- CAB.FALLBACK_RAMP, Table 4.8. -/
def Reg.CAB_FALLBACK_RAMP : Fld where base := 0x06000040; lo := 0; w := 16; acc := .rt; dflt := 150; insts := 64; legal := .upTo 1 65535
/-- CAB.STATUS_MISS, Table 4.8. -/
def Reg.CAB_STATUS_MISS : Fld where base := 0x06000044; lo := 0; w := 9; acc := .rt; dflt := 40; insts := 64; legal := .upTo 4 400
/-- CAB.MISS_COUNT, Table 4.8. -/
def Reg.CAB_MISS_COUNT : Fld where base := 0x06000048; lo := 0; w := 32; acc := .ro; dflt := 0; insts := 64
/-- CAB.CRC_ERRORS, Table 4.8. -/
def Reg.CAB_CRC_ERRORS : Fld where base := 0x0600004C; lo := 0; w := 32; acc := .ro; dflt := 0; insts := 64
/-- CAB.EVENT, Table 4.8. -/
def Reg.CAB_EVENT : Fld where base := 0x06000050; lo := 0; w := 4; acc := .wc; dflt := 0; insts := 64

/-- Fields of CAB, part 1. -/
def fieldListCAB1 : List Fld :=
  [Reg.CAB_PRESENT, Reg.CAB_BIDIR, Reg.CAB_RATING, Reg.CAB_I_RATED,
   Reg.CAB_PORT_A, Reg.CAB_PORT_B, Reg.CAB_STATE, Reg.CAB_BUS,
   Reg.CAB_IN_MOVE, Reg.CAB_DWELL_LEFT, Reg.CAB_P_AVAIL, Reg.CAB_R_EFF,
   Reg.CAB_I_SET, Reg.CAB_I_OUT, Reg.CAB_V_OUT, Reg.CAB_REP_STATE,
   Reg.CAB_REP_FLAGS, Reg.CAB_FAULT_CODE, Reg.CAB_MIRROR_MASK, Reg.CAB_CLOSE_MASK,
   Reg.CAB_HOLD_WAVES, Reg.CAB_FALLBACK_RAMP, Reg.CAB_STATUS_MISS, Reg.CAB_MISS_COUNT]
/-- Fields of CAB, part 2. -/
def fieldListCAB2 : List Fld :=
  [Reg.CAB_CRC_ERRORS, Reg.CAB_EVENT]
/-- The fields of CAB in the order of its object map. -/
def fieldsCAB : List Fld := fieldListCAB1 ++ fieldListCAB2

/-- SESS.STATE, Table 5.9a. -/
def Reg.SESS_STATE : Fld where base := 0x07000000; lo := 0; w := 4; acc := .ro; dflt := 0; insts := 32
/-- SESS.AUTH_SRC, Table 5.9a. -/
def Reg.SESS_AUTH_SRC : Fld where base := 0x07000004; lo := 0; w := 3; acc := .ro; dflt := 0; insts := 32
/-- SESS.CONTROL_MODE, Table 5.9a. -/
def Reg.SESS_CONTROL_MODE : Fld where base := 0x07000004; lo := 8; w := 2; acc := .ro; dflt := 0; insts := 32
/-- SESS.SERVICE, Table 5.9a. -/
def Reg.SESS_SERVICE : Fld where base := 0x07000004; lo := 16; w := 2; acc := .ro; dflt := 0; insts := 32
/-- SESS.AUTH_MODE, Table 5.9a. -/
def Reg.SESS_AUTH_MODE : Fld where base := 0x07000008; lo := 0; w := 4; acc := .rt; dflt := 3; insts := 32
/-- SESS.AUTH_GRANT, Table 5.9a. -/
def Reg.SESS_AUTH_GRANT : Fld where base := 0x0700000C; lo := 0; w := 2; acc := .ri; dflt := 0; insts := 32; legal := .upTo 0 2
/-- SESS.AUTH_REF, Table 5.9a. -/
def Reg.SESS_AUTH_REF : Fld where base := 0x07000010; lo := 0; w := 32; acc := .ri; dflt := 0; insts := 32
/-- SESS.STOP, Table 5.9a. -/
def Reg.SESS_STOP : Fld where base := 0x07000014; lo := 0; w := 1; acc := .ri; dflt := 0; insts := 32
/-- SESS.EXPORT_REQ, Table 5.9a. -/
def Reg.SESS_EXPORT_REQ : Fld where base := 0x07000018; lo := 0; w := 1; acc := .ri; dflt := 0; insts := 32
/-- SESS.I_REQ, Table 5.9a. -/
def Reg.SESS_I_REQ : Fld where base := 0x0700001C; lo := 0; w := 32; acc := .ro; dflt := 0; insts := 32
/-- SESS.I_ALLOC, Table 5.9a. -/
def Reg.SESS_I_ALLOC : Fld where base := 0x07000020; lo := 0; w := 32; acc := .ro; dflt := 0; insts := 32
/-- SESS.I_CABLE, Table 5.9a. -/
def Reg.SESS_I_CABLE : Fld where base := 0x07000024; lo := 0; w := 32; acc := .ro; dflt := 0; insts := 32
/-- SESS.I_TARGET, Table 5.9a. -/
def Reg.SESS_I_TARGET : Fld where base := 0x07000028; lo := 0; w := 32; acc := .ro; dflt := 0; insts := 32
/-- SESS.I_CMD, Table 5.9a. -/
def Reg.SESS_I_CMD : Fld where base := 0x0700002C; lo := 0; w := 32; acc := .ro; dflt := 0; insts := 32
/-- SESS.I_SRC, Table 5.9a. -/
def Reg.SESS_I_SRC : Fld where base := 0x07000030; lo := 0; w := 4; acc := .ro; dflt := 0; insts := 32
/-- SESS.V_MEAS, Table 5.9a. -/
def Reg.SESS_V_MEAS : Fld where base := 0x07000034; lo := 0; w := 32; acc := .ro; dflt := 0; insts := 32
/-- SESS.V_TARGET, Table 5.9a. -/
def Reg.SESS_V_TARGET : Fld where base := 0x07000038; lo := 0; w := 32; acc := .ro; dflt := 0; insts := 32
/-- SESS.V_EV_MAX, Table 5.9a. -/
def Reg.SESS_V_EV_MAX : Fld where base := 0x0700003C; lo := 0; w := 32; acc := .ro; dflt := 0; insts := 32
/-- SESS.R_ISO, Table 5.9a. -/
def Reg.SESS_R_ISO : Fld where base := 0x07000040; lo := 0; w := 32; acc := .ro; dflt := 0; insts := 32
/-- SESS.SLEW_UP, Table 5.9a. -/
def Reg.SESS_SLEW_UP : Fld where base := 0x07000044; lo := 0; w := 16; acc := .rt; dflt := 20; insts := 32; legal := .upTo 1 1000
/-- SESS.SLEW_DOWN, Table 5.9a. -/
def Reg.SESS_SLEW_DOWN : Fld where base := 0x07000044; lo := 16; w := 16; acc := .rt; dflt := 100; insts := 32; legal := .upTo 10 3000
/-- SESS.PRECHARGE_I, Table 5.9a. -/
def Reg.SESS_PRECHARGE_I : Fld where base := 0x07000048; lo := 0; w := 8; acc := .rt; dflt := 20; insts := 32; legal := .upTo 5 100
/-- SESS.PRECHARGE_V, Table 5.9a. -/
def Reg.SESS_PRECHARGE_V : Fld where base := 0x07000048; lo := 16; w := 16; acc := .rt; dflt := 200; insts := 32; legal := .upTo 20 500
/-- SESS.PRECHARGE_WAIT, Table 5.9a. -/
def Reg.SESS_PRECHARGE_WAIT : Fld where base := 0x0700004C; lo := 0; w := 16; acc := .rt; dflt := 700; insts := 32; legal := .upTo 100 6000
/-- SESS.CABLE_WAIT, Table 5.9a. -/
def Reg.SESS_CABLE_WAIT : Fld where base := 0x0700004C; lo := 16; w := 16; acc := .rt; dflt := 3000; insts := 32; legal := .upTo 500 12000
/-- SESS.ISO_OK, Table 5.9a. -/
def Reg.SESS_ISO_OK : Fld where base := 0x07000050; lo := 0; w := 16; acc := .rt; dflt := 500; insts := 32; legal := .upTo 100 5000
/-- SESS.ISO_FAULT, Table 5.9a. -/
def Reg.SESS_ISO_FAULT : Fld where base := 0x07000050; lo := 16; w := 16; acc := .rt; dflt := 100; insts := 32; legal := .upTo 50 1000
/-- SESS.AUTH_WAIT, Table 5.9a. -/
def Reg.SESS_AUTH_WAIT : Fld where base := 0x07000054; lo := 0; w := 16; acc := .rt; dflt := 6000; insts := 32; legal := .upTo 100 60000
/-- SESS.LOCK_WAIT, Table 5.9a. -/
def Reg.SESS_LOCK_WAIT : Fld where base := 0x07000054; lo := 16; w := 16; acc := .rt; dflt := 100; insts := 32; legal := .upTo 10 1000
/-- SESS.PAUSE_MAX, Table 5.9a. -/
def Reg.SESS_PAUSE_MAX : Fld where base := 0x07000058; lo := 0; w := 32; acc := .rt; dflt := 360000; insts := 32; legal := .upTo 100 4294967295
/-- SESS.PATH_HOLD, Table 5.9a. -/
def Reg.SESS_PATH_HOLD : Fld where base := 0x0700005C; lo := 0; w := 16; acc := .rt; dflt := 3000; insts := 32
/-- SESS.LOCK_LS, Table 5.9a. -/
def Reg.SESS_LOCK_LS : Fld where base := 0x07000060; lo := 0; w := 5; acc := .ro; dflt := 0; insts := 32
/-- SESS.LOCK_SIN, Table 5.9a. -/
def Reg.SESS_LOCK_SIN : Fld where base := 0x07000060; lo := 8; w := 5; acc := .ro; dflt := 0; insts := 32
/-- SESS.PROX_SIN, Table 5.9a. -/
def Reg.SESS_PROX_SIN : Fld where base := 0x07000060; lo := 16; w := 5; acc := .ro; dflt := 0; insts := 32
/-- SESS.RATED_I, Table 5.9a. -/
def Reg.SESS_RATED_I : Fld where base := 0x07000064; lo := 0; w := 16; acc := .ro; dflt := 0; insts := 32
/-- SESS.RATED_V, Table 5.9a. -/
def Reg.SESS_RATED_V : Fld where base := 0x07000064; lo := 16; w := 16; acc := .ro; dflt := 0; insts := 32
/-- SESS.SESSION_NO, Table 5.9a. -/
def Reg.SESS_SESSION_NO : Fld where base := 0x07000068; lo := 0; w := 32; acc := .ro; dflt := 0; insts := 32
/-- SESS.END_REASON, Table 5.9a. -/
def Reg.SESS_END_REASON : Fld where base := 0x0700006C; lo := 0; w := 16; acc := .ro; dflt := 0; insts := 32
/-- SESS.STATE_TIDES, Table 5.9a. -/
def Reg.SESS_STATE_TIDES : Fld where base := 0x07000070; lo := 0; w := 32; acc := .ro; dflt := 0; insts := 32
/-- SESS.SESSIONS, Table 5.9a. -/
def Reg.SESS_SESSIONS : Fld where base := 0x07000074; lo := 0; w := 32; acc := .ro; dflt := 0; insts := 32
/-- SESS.EVENT, Table 5.9a. -/
def Reg.SESS_EVENT : Fld where base := 0x07000078; lo := 0; w := 8; acc := .wc; dflt := 0; insts := 32

/-- Fields of SESS, part 1. -/
def fieldListSESS1 : List Fld :=
  [Reg.SESS_STATE, Reg.SESS_AUTH_SRC, Reg.SESS_CONTROL_MODE, Reg.SESS_SERVICE,
   Reg.SESS_AUTH_MODE, Reg.SESS_AUTH_GRANT, Reg.SESS_AUTH_REF, Reg.SESS_STOP,
   Reg.SESS_EXPORT_REQ, Reg.SESS_I_REQ, Reg.SESS_I_ALLOC, Reg.SESS_I_CABLE,
   Reg.SESS_I_TARGET, Reg.SESS_I_CMD, Reg.SESS_I_SRC, Reg.SESS_V_MEAS,
   Reg.SESS_V_TARGET, Reg.SESS_V_EV_MAX, Reg.SESS_R_ISO, Reg.SESS_SLEW_UP,
   Reg.SESS_SLEW_DOWN, Reg.SESS_PRECHARGE_I, Reg.SESS_PRECHARGE_V, Reg.SESS_PRECHARGE_WAIT]
/-- Fields of SESS, part 2. -/
def fieldListSESS2 : List Fld :=
  [Reg.SESS_CABLE_WAIT, Reg.SESS_ISO_OK, Reg.SESS_ISO_FAULT, Reg.SESS_AUTH_WAIT,
   Reg.SESS_LOCK_WAIT, Reg.SESS_PAUSE_MAX, Reg.SESS_PATH_HOLD, Reg.SESS_LOCK_LS,
   Reg.SESS_LOCK_SIN, Reg.SESS_PROX_SIN, Reg.SESS_RATED_I, Reg.SESS_RATED_V,
   Reg.SESS_SESSION_NO, Reg.SESS_END_REASON, Reg.SESS_STATE_TIDES, Reg.SESS_SESSIONS,
   Reg.SESS_EVENT]
/-- The fields of SESS in the order of its object map. -/
def fieldsSESS : List Fld := fieldListSESS1 ++ fieldListSESS2

/-- SESSX.REC_COUNT, Table 5.9b. -/
def Reg.SESSX_REC_COUNT : Fld where base := 0x07200000; lo := 0; w := 14; acc := .ro; dflt := 0
/-- SESSX.REC_NEWEST, Table 5.9b. -/
def Reg.SESSX_REC_NEWEST : Fld where base := 0x07200004; lo := 0; w := 32; acc := .ro; dflt := 0
/-- SESSX.REC_ACK, Table 5.9b. -/
def Reg.SESSX_REC_ACK : Fld where base := 0x07200008; lo := 0; w := 32; acc := .ri; dflt := 0
/-- SESSX.REC_FREE, Table 5.9b. -/
def Reg.SESSX_REC_FREE : Fld where base := 0x0720000C; lo := 0; w := 14; acc := .ro; dflt := 8192
/-- SESSX.SIGN_KEY, Table 5.9b. -/
def Reg.SESSX_SIGN_KEY : Fld where base := 0x07200010; lo := 0; w := 9; acc := .ro; dflt := 0
/-- SESSX.TRUST_COUNT, Table 5.9b. -/
def Reg.SESSX_TRUST_COUNT : Fld where base := 0x07200014; lo := 0; w := 5; acc := .ro; dflt := 0
/-- SESSX.SECC_PORT, Table 5.9b. -/
def Reg.SESSX_SECC_PORT : Fld where base := 0x07200018; lo := 0; w := 16; acc := .rt; dflt := 49153; legal := .upTo 1024 65535

/-- Fields of SESSX, part 1. -/
def fieldListSESSX1 : List Fld :=
  [Reg.SESSX_REC_COUNT, Reg.SESSX_REC_NEWEST, Reg.SESSX_REC_ACK, Reg.SESSX_REC_FREE,
   Reg.SESSX_SIGN_KEY, Reg.SESSX_TRUST_COUNT, Reg.SESSX_SECC_PORT]
/-- The fields of SESSX in the order of its object map. -/
def fieldsSESSX : List Fld := fieldListSESSX1

/-- LOOP.MODE, Table 6.5. -/
def Reg.LOOP_MODE : Fld where base := 0x08000000; lo := 0; w := 2; acc := .ri; dflt := 0; insts := 128; legal := .oneOf [0, 1, 2]
/-- LOOP.EBB_RUN, Table 6.5. -/
def Reg.LOOP_EBB_RUN : Fld where base := 0x08000000; lo := 8; w := 1; acc := .rt; dflt := 0; insts := 128
/-- LOOP.STATE, Table 6.5. -/
def Reg.LOOP_STATE : Fld where base := 0x08000004; lo := 0; w := 3; acc := .ro; dflt := 0; insts := 128
/-- LOOP.TRIP_CAUSE, Table 6.5. -/
def Reg.LOOP_TRIP_CAUSE : Fld where base := 0x08000004; lo := 8; w := 3; acc := .ro; dflt := 0; insts := 128
/-- LOOP.PERIOD, Table 6.5. -/
def Reg.LOOP_PERIOD : Fld where base := 0x08000008; lo := 0; w := 9; acc := .ro; dflt := 1; insts := 128
/-- LOOP.PHASE, Table 6.5. -/
def Reg.LOOP_PHASE : Fld where base := 0x08000008; lo := 16; w := 9; acc := .ro; dflt := 0; insts := 128
/-- LOOP.MEAS_SRC, Table 6.5. -/
def Reg.LOOP_MEAS_SRC : Fld where base := 0x0800000C; lo := 0; w := 32; acc := .ro; dflt := 0; insts := 128
/-- LOOP.REF_SRC, Table 6.5. -/
def Reg.LOOP_REF_SRC : Fld where base := 0x08000010; lo := 0; w := 32; acc := .ro; dflt := 0; insts := 128
/-- LOOP.FF_SRC, Table 6.5. -/
def Reg.LOOP_FF_SRC : Fld where base := 0x08000014; lo := 0; w := 32; acc := .ro; dflt := 0; insts := 128
/-- LOOP.OUT_DST, Table 6.5. -/
def Reg.LOOP_OUT_DST : Fld where base := 0x08000018; lo := 0; w := 32; acc := .ro; dflt := 0; insts := 128
/-- LOOP.REF, Table 6.5. -/
def Reg.LOOP_REF : Fld where base := 0x0800001C; lo := 0; w := 32; acc := .ri; dflt := 0; insts := 128
/-- LOOP.KP, Table 6.5. -/
def Reg.LOOP_KP : Fld where base := 0x08000020; lo := 0; w := 32; acc := .rt; dflt := 0; insts := 128; legal := .f32 .any
/-- LOOP.KI, Table 6.5. -/
def Reg.LOOP_KI : Fld where base := 0x08000024; lo := 0; w := 32; acc := .rt; dflt := 0; insts := 128; legal := .f32 .any
/-- LOOP.KD, Table 6.5. -/
def Reg.LOOP_KD : Fld where base := 0x08000028; lo := 0; w := 32; acc := .rt; dflt := 0; insts := 128; legal := .f32 .nonneg
/-- LOOP.TF, Table 6.5. -/
def Reg.LOOP_TF : Fld where base := 0x0800002C; lo := 0; w := 32; acc := .rt; dflt := 0; insts := 128; legal := .f32 .nonneg
/-- LOOP.B_WEIGHT, Table 6.5. -/
def Reg.LOOP_B_WEIGHT : Fld where base := 0x08000030; lo := 0; w := 32; acc := .rt; dflt := 1065353216; insts := 128; legal := .f32 .unit
/-- LOOP.C_WEIGHT, Table 6.5. -/
def Reg.LOOP_C_WEIGHT : Fld where base := 0x08000034; lo := 0; w := 32; acc := .rt; dflt := 0; insts := 128; legal := .f32 .unit
/-- LOOP.FF_GAIN, Table 6.5. -/
def Reg.LOOP_FF_GAIN : Fld where base := 0x08000038; lo := 0; w := 32; acc := .rt; dflt := 0; insts := 128; legal := .f32 .any
/-- LOOP.OUT_MIN, Table 6.5. -/
def Reg.LOOP_OUT_MIN : Fld where base := 0x0800003C; lo := 0; w := 32; acc := .rt; dflt := 0; insts := 128
/-- LOOP.OUT_MAX, Table 6.5. -/
def Reg.LOOP_OUT_MAX : Fld where base := 0x08000040; lo := 0; w := 32; acc := .rt; dflt := 0; insts := 128
/-- LOOP.OUT_INIT, Table 6.5. -/
def Reg.LOOP_OUT_INIT : Fld where base := 0x08000044; lo := 0; w := 32; acc := .rt; dflt := 0; insts := 128
/-- LOOP.SAFE_OUT, Table 6.5. -/
def Reg.LOOP_SAFE_OUT : Fld where base := 0x08000048; lo := 0; w := 32; acc := .rt; dflt := 0; insts := 128
/-- LOOP.MAN_OUT, Table 6.5. -/
def Reg.LOOP_MAN_OUT : Fld where base := 0x0800004C; lo := 0; w := 32; acc := .ri; dflt := 0; insts := 128
/-- LOOP.RAMP_RATE, Table 6.5. -/
def Reg.LOOP_RAMP_RATE : Fld where base := 0x08000050; lo := 0; w := 32; acc := .rt; dflt := 0; insts := 128
/-- LOOP.REF_BAND, Table 6.5. -/
def Reg.LOOP_REF_BAND : Fld where base := 0x08000054; lo := 0; w := 32; acc := .rt; dflt := 0; insts := 128
/-- LOOP.MEAS_HOLD, Table 6.5. -/
def Reg.LOOP_MEAS_HOLD : Fld where base := 0x08000058; lo := 0; w := 16; acc := .rt; dflt := 100; insts := 128; legal := .upTo 1 65535
/-- LOOP.SUP_MODE, Table 6.5. -/
def Reg.LOOP_SUP_MODE : Fld where base := 0x0800005C; lo := 0; w := 3; acc := .rt; dflt := 0; insts := 128; legal := .upTo 0 4
/-- LOOP.SUP_ACTION, Table 6.5. -/
def Reg.LOOP_SUP_ACTION : Fld where base := 0x0800005C; lo := 8; w := 1; acc := .rt; dflt := 0; insts := 128
/-- LOOP.MODEL_GAIN, Table 6.5. -/
def Reg.LOOP_MODEL_GAIN : Fld where base := 0x08000060; lo := 0; w := 32; acc := .rt; dflt := 0; insts := 128; legal := .f32 .any
/-- LOOP.MODEL_TAU, Table 6.5. -/
def Reg.LOOP_MODEL_TAU : Fld where base := 0x08000064; lo := 0; w := 32; acc := .rt; dflt := 1065353216; insts := 128; legal := .f32 .pos
/-- LOOP.MODEL_DEAD, Table 6.5. -/
def Reg.LOOP_MODEL_DEAD : Fld where base := 0x08000068; lo := 0; w := 8; acc := .rt; dflt := 0; insts := 128
/-- LOOP.PLAUS_BAND, Table 6.5. -/
def Reg.LOOP_PLAUS_BAND : Fld where base := 0x0800006C; lo := 0; w := 32; acc := .rt; dflt := 0; insts := 128
/-- LOOP.PLAUS_TIME, Table 6.5. -/
def Reg.LOOP_PLAUS_TIME : Fld where base := 0x08000070; lo := 0; w := 16; acc := .rt; dflt := 100; insts := 128; legal := .upTo 1 65535
/-- LOOP.FOLLOW_BAND, Table 6.5. -/
def Reg.LOOP_FOLLOW_BAND : Fld where base := 0x08000074; lo := 0; w := 32; acc := .rt; dflt := 0; insts := 128
/-- LOOP.FOLLOW_TIME, Table 6.5. -/
def Reg.LOOP_FOLLOW_TIME : Fld where base := 0x08000078; lo := 0; w := 16; acc := .rt; dflt := 100; insts := 128; legal := .upTo 1 65535
/-- LOOP.INJ_TYPE, Table 6.5. -/
def Reg.LOOP_INJ_TYPE : Fld where base := 0x0800007C; lo := 0; w := 2; acc := .rt; dflt := 0; insts := 128
/-- LOOP.INJ_POINT, Table 6.5. -/
def Reg.LOOP_INJ_POINT : Fld where base := 0x0800007C; lo := 4; w := 1; acc := .rt; dflt := 0; insts := 128
/-- LOOP.SWEEP_LOG, Table 6.5. -/
def Reg.LOOP_SWEEP_LOG : Fld where base := 0x0800007C; lo := 5; w := 1; acc := .rt; dflt := 0; insts := 128
/-- LOOP.PRBS_N, Table 6.5. -/
def Reg.LOOP_PRBS_N : Fld where base := 0x0800007C; lo := 8; w := 4; acc := .rt; dflt := 7; insts := 128; legal := .upTo 5 15
/-- LOOP.PRBS_HOLD, Table 6.5. -/
def Reg.LOOP_PRBS_HOLD : Fld where base := 0x0800007C; lo := 16; w := 8; acc := .rt; dflt := 1; insts := 128; legal := .upTo 1 255
/-- LOOP.INJ_AMP, Table 6.5. -/
def Reg.LOOP_INJ_AMP : Fld where base := 0x08000080; lo := 0; w := 32; acc := .rt; dflt := 0; insts := 128; legal := .f32 .any
/-- LOOP.INJ_LEN, Table 6.5. -/
def Reg.LOOP_INJ_LEN : Fld where base := 0x08000084; lo := 0; w := 32; acc := .rt; dflt := 0; insts := 128
/-- LOOP.STEP_DELAY, Table 6.5. -/
def Reg.LOOP_STEP_DELAY : Fld where base := 0x08000088; lo := 0; w := 16; acc := .rt; dflt := 0; insts := 128
/-- LOOP.SWEEP_F0, Table 6.5. -/
def Reg.LOOP_SWEEP_F0 : Fld where base := 0x0800008C; lo := 0; w := 32; acc := .rt; dflt := 0; insts := 128; legal := .f32 .any
/-- LOOP.SWEEP_F1, Table 6.5. -/
def Reg.LOOP_SWEEP_F1 : Fld where base := 0x08000090; lo := 0; w := 32; acc := .rt; dflt := 0; insts := 128; legal := .f32 .any
/-- LOOP.INJ_CTRL, Table 6.5. -/
def Reg.LOOP_INJ_CTRL : Fld where base := 0x08000094; lo := 0; w := 2; acc := .ri; dflt := 0; insts := 128; legal := .upTo 0 2
/-- LOOP.INJ_STATE, Table 6.5. -/
def Reg.LOOP_INJ_STATE : Fld where base := 0x08000094; lo := 8; w := 2; acc := .ro; dflt := 0; insts := 128
/-- LOOP.CAP_SEL, Table 6.5. -/
def Reg.LOOP_CAP_SEL : Fld where base := 0x08000098; lo := 0; w := 16; acc := .rt; dflt := 0; insts := 128; legal := .nibbles 0xC
/-- LOOP.CAP_TRIG, Table 6.5. -/
def Reg.LOOP_CAP_TRIG : Fld where base := 0x08000098; lo := 16; w := 2; acc := .rt; dflt := 0; insts := 128; legal := .upTo 0 2
/-- LOOP.CAP_DEC, Table 6.5. -/
def Reg.LOOP_CAP_DEC : Fld where base := 0x08000098; lo := 24; w := 8; acc := .rt; dflt := 1; insts := 128; legal := .upTo 1 255
/-- LOOP.CAP_LEN, Table 6.5. -/
def Reg.LOOP_CAP_LEN : Fld where base := 0x0800009C; lo := 0; w := 15; acc := .rt; dflt := 16384; insts := 128; legal := .upTo 1 16384
/-- LOOP.CAP_PRE, Table 6.5. -/
def Reg.LOOP_CAP_PRE : Fld where base := 0x0800009C; lo := 16; w := 15; acc := .rt; dflt := 0; insts := 128
/-- LOOP.CAP_CTRL, Table 6.5. -/
def Reg.LOOP_CAP_CTRL : Fld where base := 0x080000A0; lo := 0; w := 2; acc := .ri; dflt := 0; insts := 128; legal := .upTo 0 2
/-- LOOP.CAP_STATE, Table 6.5. -/
def Reg.LOOP_CAP_STATE : Fld where base := 0x080000A0; lo := 8; w := 3; acc := .ro; dflt := 0; insts := 128
/-- LOOP.CAP_BANK, Table 6.5. -/
def Reg.LOOP_CAP_BANK : Fld where base := 0x080000A0; lo := 16; w := 2; acc := .ro; dflt := 0; insts := 128
/-- LOOP.CAP_COUNT, Table 6.5. -/
def Reg.LOOP_CAP_COUNT : Fld where base := 0x080000A4; lo := 0; w := 15; acc := .ro; dflt := 0; insts := 128
/-- LOOP.CAP_T0, Table 6.5. -/
def Reg.LOOP_CAP_T0 : Fld where base := 0x080000A8; lo := 0; w := 32; acc := .ro; dflt := 0; insts := 128
/-- LOOP.CAP_W0, Table 6.5. -/
def Reg.LOOP_CAP_W0 : Fld where base := 0x080000AC; lo := 0; w := 9; acc := .ro; dflt := 0; insts := 128
/-- LOOP.R_EFF, Table 6.5. -/
def Reg.LOOP_R_EFF : Fld where base := 0x080000B0; lo := 0; w := 32; acc := .ro; dflt := 0; insts := 128
/-- LOOP.Y, Table 6.5. -/
def Reg.LOOP_Y : Fld where base := 0x080000B4; lo := 0; w := 32; acc := .ro; dflt := 0; insts := 128
/-- LOOP.U, Table 6.5. -/
def Reg.LOOP_U : Fld where base := 0x080000B8; lo := 0; w := 32; acc := .ro; dflt := 0; insts := 128
/-- LOOP.I_TERM, Table 6.5. -/
def Reg.LOOP_I_TERM : Fld where base := 0x080000BC; lo := 0; w := 32; acc := .ro; dflt := 0; insts := 128
/-- LOOP.D_TERM, Table 6.5. -/
def Reg.LOOP_D_TERM : Fld where base := 0x080000C0; lo := 0; w := 32; acc := .ro; dflt := 0; insts := 128
/-- LOOP.Y_MODEL, Table 6.5. -/
def Reg.LOOP_Y_MODEL : Fld where base := 0x080000C4; lo := 0; w := 32; acc := .ro; dflt := 0; insts := 128
/-- LOOP.EVALS, Table 6.5. -/
def Reg.LOOP_EVALS : Fld where base := 0x080000C8; lo := 0; w := 32; acc := .ro; dflt := 0; insts := 128
/-- LOOP.SKIPS, Table 6.5. -/
def Reg.LOOP_SKIPS : Fld where base := 0x080000CC; lo := 0; w := 32; acc := .ro; dflt := 0; insts := 128
/-- LOOP.TRIPS, Table 6.5. -/
def Reg.LOOP_TRIPS : Fld where base := 0x080000D0; lo := 0; w := 32; acc := .ro; dflt := 0; insts := 128
/-- LOOP.EVENT, Table 6.5. -/
def Reg.LOOP_EVENT : Fld where base := 0x080000D4; lo := 0; w := 6; acc := .wc; dflt := 0; insts := 128

/-- Fields of LOOP, part 1. -/
def fieldListLOOP1 : List Fld :=
  [Reg.LOOP_MODE, Reg.LOOP_EBB_RUN, Reg.LOOP_STATE, Reg.LOOP_TRIP_CAUSE,
   Reg.LOOP_PERIOD, Reg.LOOP_PHASE, Reg.LOOP_MEAS_SRC, Reg.LOOP_REF_SRC,
   Reg.LOOP_FF_SRC, Reg.LOOP_OUT_DST, Reg.LOOP_REF, Reg.LOOP_KP,
   Reg.LOOP_KI, Reg.LOOP_KD, Reg.LOOP_TF, Reg.LOOP_B_WEIGHT,
   Reg.LOOP_C_WEIGHT, Reg.LOOP_FF_GAIN, Reg.LOOP_OUT_MIN, Reg.LOOP_OUT_MAX,
   Reg.LOOP_OUT_INIT, Reg.LOOP_SAFE_OUT, Reg.LOOP_MAN_OUT, Reg.LOOP_RAMP_RATE]
/-- Fields of LOOP, part 2. -/
def fieldListLOOP2 : List Fld :=
  [Reg.LOOP_REF_BAND, Reg.LOOP_MEAS_HOLD, Reg.LOOP_SUP_MODE, Reg.LOOP_SUP_ACTION,
   Reg.LOOP_MODEL_GAIN, Reg.LOOP_MODEL_TAU, Reg.LOOP_MODEL_DEAD, Reg.LOOP_PLAUS_BAND,
   Reg.LOOP_PLAUS_TIME, Reg.LOOP_FOLLOW_BAND, Reg.LOOP_FOLLOW_TIME, Reg.LOOP_INJ_TYPE,
   Reg.LOOP_INJ_POINT, Reg.LOOP_SWEEP_LOG, Reg.LOOP_PRBS_N, Reg.LOOP_PRBS_HOLD,
   Reg.LOOP_INJ_AMP, Reg.LOOP_INJ_LEN, Reg.LOOP_STEP_DELAY, Reg.LOOP_SWEEP_F0,
   Reg.LOOP_SWEEP_F1, Reg.LOOP_INJ_CTRL, Reg.LOOP_INJ_STATE, Reg.LOOP_CAP_SEL]
/-- Fields of LOOP, part 3. -/
def fieldListLOOP3 : List Fld :=
  [Reg.LOOP_CAP_TRIG, Reg.LOOP_CAP_DEC, Reg.LOOP_CAP_LEN, Reg.LOOP_CAP_PRE,
   Reg.LOOP_CAP_CTRL, Reg.LOOP_CAP_STATE, Reg.LOOP_CAP_BANK, Reg.LOOP_CAP_COUNT,
   Reg.LOOP_CAP_T0, Reg.LOOP_CAP_W0, Reg.LOOP_R_EFF, Reg.LOOP_Y,
   Reg.LOOP_U, Reg.LOOP_I_TERM, Reg.LOOP_D_TERM, Reg.LOOP_Y_MODEL,
   Reg.LOOP_EVALS, Reg.LOOP_SKIPS, Reg.LOOP_TRIPS, Reg.LOOP_EVENT]
/-- The fields of LOOP in the order of its object map. -/
def fieldsLOOP : List Fld := fieldListLOOP1 ++ fieldListLOOP2 ++ fieldListLOOP3

/-- COOL.PRESENT, Table 6.6. -/
def Reg.COOL_PRESENT : Fld where base := 0x09000000; lo := 0; w := 1; acc := .ro; dflt := 0; insts := 32
/-- COOL.CIRCUIT, Table 6.6. -/
def Reg.COOL_CIRCUIT : Fld where base := 0x09000000; lo := 8; w := 3; acc := .ro; dflt := 0; insts := 32
/-- COOL.C_COND, Table 6.6. -/
def Reg.COOL_C_COND : Fld where base := 0x09000004; lo := 0; w := 32; acc := .rt; dflt := 1065353216; insts := 32; legal := .f32 .pos
/-- COOL.C_COOL, Table 6.6. -/
def Reg.COOL_C_COOL : Fld where base := 0x09000008; lo := 0; w := 32; acc := .rt; dflt := 1065353216; insts := 32; legal := .f32 .pos
/-- COOL.C_JACK, Table 6.6. -/
def Reg.COOL_C_JACK : Fld where base := 0x0900000C; lo := 0; w := 32; acc := .rt; dflt := 1065353216; insts := 32; legal := .f32 .pos
/-- COOL.R_CW, Table 6.6. -/
def Reg.COOL_R_CW : Fld where base := 0x09000010; lo := 0; w := 32; acc := .rt; dflt := 1065353216; insts := 32; legal := .f32 .pos
/-- COOL.R_WJ, Table 6.6. -/
def Reg.COOL_R_WJ : Fld where base := 0x09000014; lo := 0; w := 32; acc := .rt; dflt := 1065353216; insts := 32; legal := .f32 .pos
/-- COOL.R_JA, Table 6.6. -/
def Reg.COOL_R_JA : Fld where base := 0x09000018; lo := 0; w := 32; acc := .rt; dflt := 1065353216; insts := 32; legal := .f32 .pos
/-- COOL.R20, Table 6.6. -/
def Reg.COOL_R20 : Fld where base := 0x0900001C; lo := 0; w := 32; acc := .rt; dflt := 0; insts := 32; legal := .f32 .nonneg
/-- COOL.ALPHA, Table 6.6. -/
def Reg.COOL_ALPHA : Fld where base := 0x09000020; lo := 0; w := 32; acc := .rt; dflt := 998294684; insts := 32; legal := .f32 .any
/-- COOL.K_FLOW, Table 6.6. -/
def Reg.COOL_K_FLOW : Fld where base := 0x09000024; lo := 0; w := 32; acc := .rt; dflt := 0; insts := 32; legal := .f32 .nonneg
/-- COOL.T_MAX, Table 6.6. -/
def Reg.COOL_T_MAX : Fld where base := 0x09000028; lo := 0; w := 32; acc := .rt; dflt := 9000; insts := 32; legal := .upTo 0 20000
/-- COOL.MARGIN, Table 6.6. -/
def Reg.COOL_MARGIN : Fld where base := 0x0900002C; lo := 0; w := 32; acc := .rt; dflt := 500; insts := 32; legal := .upTo 0 5000
/-- COOL.INLET_SRC, Table 6.6. -/
def Reg.COOL_INLET_SRC : Fld where base := 0x09000030; lo := 0; w := 32; acc := .ro; dflt := 0; insts := 32
/-- COOL.OUTLET_SRC, Table 6.6. -/
def Reg.COOL_OUTLET_SRC : Fld where base := 0x09000034; lo := 0; w := 32; acc := .ro; dflt := 0; insts := 32
/-- COOL.FLOW_SRC, Table 6.6. -/
def Reg.COOL_FLOW_SRC : Fld where base := 0x09000038; lo := 0; w := 32; acc := .ro; dflt := 0; insts := 32
/-- COOL.AMB_SRC, Table 6.6. -/
def Reg.COOL_AMB_SRC : Fld where base := 0x0900003C; lo := 0; w := 32; acc := .ro; dflt := 0; insts := 32
/-- COOL.INLET_FAIL, Table 6.6. -/
def Reg.COOL_INLET_FAIL : Fld where base := 0x09000040; lo := 0; w := 32; acc := .rt; dflt := 6000; insts := 32
/-- COOL.K_OBS, Table 6.6. -/
def Reg.COOL_K_OBS : Fld where base := 0x09000044; lo := 0; w := 32; acc := .rt; dflt := 0; insts := 32; legal := .f32 .unit
/-- COOL.FLOW_MIN, Table 6.6. -/
def Reg.COOL_FLOW_MIN : Fld where base := 0x09000048; lo := 0; w := 16; acc := .rt; dflt := 0; insts := 32
/-- COOL.FLOW_MAX, Table 6.6. -/
def Reg.COOL_FLOW_MAX : Fld where base := 0x09000048; lo := 16; w := 16; acc := .rt; dflt := 0; insts := 32
/-- COOL.T_LOW, Table 6.6. -/
def Reg.COOL_T_LOW : Fld where base := 0x0900004C; lo := 0; w := 32; acc := .rt; dflt := 4000; insts := 32
/-- COOL.T_HIGH, Table 6.6. -/
def Reg.COOL_T_HIGH : Fld where base := 0x09000050; lo := 0; w := 32; acc := .rt; dflt := 7000; insts := 32
/-- COOL.T_COND, Table 6.6. -/
def Reg.COOL_T_COND : Fld where base := 0x09000060; lo := 0; w := 32; acc := .ro; dflt := 0; insts := 32
/-- COOL.T_COOL, Table 6.6. -/
def Reg.COOL_T_COOL : Fld where base := 0x09000064; lo := 0; w := 32; acc := .ro; dflt := 0; insts := 32
/-- COOL.T_JACK, Table 6.6. -/
def Reg.COOL_T_JACK : Fld where base := 0x09000068; lo := 0; w := 32; acc := .ro; dflt := 0; insts := 32
/-- COOL.T_INLET, Table 6.6. -/
def Reg.COOL_T_INLET : Fld where base := 0x0900006C; lo := 0; w := 32; acc := .ro; dflt := 0; insts := 32
/-- COOL.FLOW, Table 6.6. -/
def Reg.COOL_FLOW : Fld where base := 0x09000070; lo := 0; w := 16; acc := .ro; dflt := 0; insts := 32
/-- COOL.I_COND, Table 6.6. -/
def Reg.COOL_I_COND : Fld where base := 0x09000074; lo := 0; w := 32; acc := .ro; dflt := 0; insts := 32
/-- COOL.HEADROOM, Table 6.6. -/
def Reg.COOL_HEADROOM : Fld where base := 0x09000078; lo := 0; w := 32; acc := .ro; dflt := 0; insts := 32
/-- COOL.HEAD_TIDE, Table 6.6. -/
def Reg.COOL_HEAD_TIDE : Fld where base := 0x0900007C; lo := 0; w := 32; acc := .ro; dflt := 0; insts := 32
/-- COOL.PRED_PEAK, Table 6.6. -/
def Reg.COOL_PRED_PEAK : Fld where base := 0x09000080; lo := 0; w := 32; acc := .ro; dflt := 0; insts := 32
/-- COOL.FLOW_DEMAND, Table 6.6. -/
def Reg.COOL_FLOW_DEMAND : Fld where base := 0x09000084; lo := 0; w := 16; acc := .ro; dflt := 0; insts := 32
/-- COOL.SENSOR_BAD, Table 6.6. -/
def Reg.COOL_SENSOR_BAD : Fld where base := 0x09000088; lo := 0; w := 5; acc := .ro; dflt := 0; insts := 32
/-- COOL.EVENT, Table 6.6. -/
def Reg.COOL_EVENT : Fld where base := 0x0900008C; lo := 0; w := 4; acc := .wc; dflt := 0; insts := 32

/-- Fields of COOL, part 1. -/
def fieldListCOOL1 : List Fld :=
  [Reg.COOL_PRESENT, Reg.COOL_CIRCUIT, Reg.COOL_C_COND, Reg.COOL_C_COOL,
   Reg.COOL_C_JACK, Reg.COOL_R_CW, Reg.COOL_R_WJ, Reg.COOL_R_JA,
   Reg.COOL_R20, Reg.COOL_ALPHA, Reg.COOL_K_FLOW, Reg.COOL_T_MAX,
   Reg.COOL_MARGIN, Reg.COOL_INLET_SRC, Reg.COOL_OUTLET_SRC, Reg.COOL_FLOW_SRC,
   Reg.COOL_AMB_SRC, Reg.COOL_INLET_FAIL, Reg.COOL_K_OBS, Reg.COOL_FLOW_MIN,
   Reg.COOL_FLOW_MAX, Reg.COOL_T_LOW, Reg.COOL_T_HIGH, Reg.COOL_T_COND]
/-- Fields of COOL, part 2. -/
def fieldListCOOL2 : List Fld :=
  [Reg.COOL_T_COOL, Reg.COOL_T_JACK, Reg.COOL_T_INLET, Reg.COOL_FLOW,
   Reg.COOL_I_COND, Reg.COOL_HEADROOM, Reg.COOL_HEAD_TIDE, Reg.COOL_PRED_PEAK,
   Reg.COOL_FLOW_DEMAND, Reg.COOL_SENSOR_BAD, Reg.COOL_EVENT]
/-- The fields of COOL in the order of its object map. -/
def fieldsCOOL : List Fld := fieldListCOOL1 ++ fieldListCOOL2

/-- COOLC.PRESENT, Table 6.7. -/
def Reg.COOLC_PRESENT : Fld where base := 0x09200000; lo := 0; w := 1; acc := .ro; dflt := 0; insts := 8
/-- COOLC.CABLES, Table 6.7. -/
def Reg.COOLC_CABLES : Fld where base := 0x09200004; lo := 0; w := 32; acc := .ro; dflt := 0; insts := 8
/-- COOLC.FLOW_DEMAND, Table 6.7. -/
def Reg.COOLC_FLOW_DEMAND : Fld where base := 0x09200008; lo := 0; w := 16; acc := .ro; dflt := 0; insts := 8
/-- COOLC.INLET_REF, Table 6.7. -/
def Reg.COOLC_INLET_REF : Fld where base := 0x0920000C; lo := 0; w := 32; acc := .rt; dflt := 3500; insts := 8
/-- COOLC.PUMP_LOOP, Table 6.7. -/
def Reg.COOLC_PUMP_LOOP : Fld where base := 0x09200010; lo := 0; w := 8; acc := .ro; dflt := 255; insts := 8
/-- COOLC.FAN_LOOP, Table 6.7. -/
def Reg.COOLC_FAN_LOOP : Fld where base := 0x09200010; lo := 8; w := 8; acc := .ro; dflt := 255; insts := 8
/-- COOLC.EVENT, Table 6.7. -/
def Reg.COOLC_EVENT : Fld where base := 0x09200014; lo := 0; w := 2; acc := .wc; dflt := 0; insts := 8

/-- Fields of COOLC, part 1. -/
def fieldListCOOLC1 : List Fld :=
  [Reg.COOLC_PRESENT, Reg.COOLC_CABLES, Reg.COOLC_FLOW_DEMAND, Reg.COOLC_INLET_REF,
   Reg.COOLC_PUMP_LOOP, Reg.COOLC_FAN_LOOP, Reg.COOLC_EVENT]
/-- The fields of COOLC in the order of its object map. -/
def fieldsCOOLC : List Fld := fieldListCOOLC1

/-- GD.MODE, Table 7.5. -/
def Reg.GD_MODE : Fld where base := 0x0A000000; lo := 0; w := 2; acc := .rt; dflt := 0; insts := 6; legal := .oneOf [0, 1, 2]
/-- GD.DIR, Table 7.5. -/
def Reg.GD_DIR : Fld where base := 0x0A000000; lo := 8; w := 1; acc := .ri; dflt := 0; insts := 6
/-- GD.STATE, Table 7.5. -/
def Reg.GD_STATE : Fld where base := 0x0A000004; lo := 0; w := 3; acc := .ro; dflt := 0; insts := 6
/-- GD.FAULT, Table 7.5. -/
def Reg.GD_FAULT : Fld where base := 0x0A000004; lo := 8; w := 8; acc := .ro; dflt := 0; insts := 6
/-- GD.FAULT_PHASE, Table 7.5. -/
def Reg.GD_FAULT_PHASE : Fld where base := 0x0A000004; lo := 16; w := 2; acc := .ro; dflt := 3; insts := 6
/-- GD.PWM_FREQ, Table 7.5. -/
def Reg.GD_PWM_FREQ : Fld where base := 0x0A000008; lo := 0; w := 17; acc := .rt; dflt := 20000; insts := 6; legal := .upTo 8000 100000
/-- GD.DT_B0, Table 7.5. -/
def Reg.GD_DT_B0 : Fld where base := 0x0A00000C; lo := 0; w := 11; acc := .rt; dflt := 300; insts := 6; legal := .upTo 50 2000
/-- GD.DT_B1, Table 7.5. -/
def Reg.GD_DT_B1 : Fld where base := 0x0A00000C; lo := 16; w := 11; acc := .rt; dflt := 200; insts := 6; legal := .upTo 50 2000
/-- GD.DT_B2, Table 7.5. -/
def Reg.GD_DT_B2 : Fld where base := 0x0A000010; lo := 0; w := 11; acc := .rt; dflt := 250; insts := 6; legal := .upTo 50 2000
/-- GD.DT_B3, Table 7.5. -/
def Reg.GD_DT_B3 : Fld where base := 0x0A000010; lo := 16; w := 11; acc := .rt; dflt := 300; insts := 6; legal := .upTo 50 2000
/-- GD.DT_B4, Table 7.5. -/
def Reg.GD_DT_B4 : Fld where base := 0x0A000014; lo := 0; w := 11; acc := .rt; dflt := 400; insts := 6; legal := .upTo 50 2000
/-- GD.BAND, Table 7.5. -/
def Reg.GD_BAND : Fld where base := 0x0A000014; lo := 16; w := 3; acc := .ro; dflt := 1; insts := 6
/-- GD.SLEW_TARGET, Table 7.5. -/
def Reg.GD_SLEW_TARGET : Fld where base := 0x0A000018; lo := 0; w := 9; acc := .rt; dflt := 60; insts := 6; legal := .upTo 20 400
/-- GD.SLEW_TOL, Table 7.5. -/
def Reg.GD_SLEW_TOL : Fld where base := 0x0A000018; lo := 16; w := 6; acc := .rt; dflt := 10; insts := 6; legal := .upTo 2 50
/-- GD.STR_INIT, Table 7.5. -/
def Reg.GD_STR_INIT : Fld where base := 0x0A000018; lo := 24; w := 4; acc := .rt; dflt := 8; insts := 6
/-- GD.BLANK, Table 7.5. -/
def Reg.GD_BLANK : Fld where base := 0x0A00001C; lo := 0; w := 11; acc := .rt; dflt := 500; insts := 6; legal := .upTo 200 2000
/-- GD.DESAT_V, Table 7.5. -/
def Reg.GD_DESAT_V : Fld where base := 0x0A00001C; lo := 16; w := 5; acc := .rt; dflt := 10; insts := 6; legal := .upTo 2 20
/-- GD.SOFT_STR, Table 7.5. -/
def Reg.GD_SOFT_STR : Fld where base := 0x0A00001C; lo := 24; w := 4; acc := .rt; dflt := 2; insts := 6
/-- GD.SHUNT_OC, Table 7.5. -/
def Reg.GD_SHUNT_OC : Fld where base := 0x0A000020; lo := 0; w := 10; acc := .rt; dflt := 200; insts := 6; legal := .upTo 50 500
/-- GD.VBS_REFRESH, Table 7.5. -/
def Reg.GD_VBS_REFRESH : Fld where base := 0x0A000024; lo := 0; w := 8; acc := .rt; dflt := 90; insts := 6; legal := .upTo 60 140
/-- GD.VBS_UV, Table 7.5. -/
def Reg.GD_VBS_UV : Fld where base := 0x0A000024; lo := 8; w := 8; acc := .rt; dflt := 70; insts := 6; legal := .upTo 50 120
/-- GD.REFRESH_W, Table 7.5. -/
def Reg.GD_REFRESH_W : Fld where base := 0x0A000028; lo := 0; w := 14; acc := .rt; dflt := 2000; insts := 6; legal := .upTo 500 10000
/-- GD.REFRESH_T, Table 7.5. -/
def Reg.GD_REFRESH_T : Fld where base := 0x0A00002C; lo := 0; w := 14; acc := .rt; dflt := 1000; insts := 6; legal := .upTo 100 10000
/-- GD.PRECHARGE, Table 7.5. -/
def Reg.GD_PRECHARGE : Fld where base := 0x0A000030; lo := 0; w := 13; acc := .rt; dflt := 200; insts := 6; legal := .upTo 10 5000
/-- GD.RETRY_WAIT, Table 7.5. -/
def Reg.GD_RETRY_WAIT : Fld where base := 0x0A000034; lo := 0; w := 10; acc := .rt; dflt := 100; insts := 6; legal := .upTo 1 1000
/-- GD.RETRY_MAX, Table 7.5. -/
def Reg.GD_RETRY_MAX : Fld where base := 0x0A000034; lo := 16; w := 3; acc := .rt; dflt := 3; insts := 6
/-- GD.TRIES, Table 7.5. -/
def Reg.GD_TRIES : Fld where base := 0x0A000034; lo := 24; w := 3; acc := .ro; dflt := 0; insts := 6
/-- GD.TSD, Table 7.5. -/
def Reg.GD_TSD : Fld where base := 0x0A000038; lo := 0; w := 8; acc := .rt; dflt := 140; insts := 6; legal := .upTo 100 150
/-- GD.TSD_HYST, Table 7.5. -/
def Reg.GD_TSD_HYST : Fld where base := 0x0A000038; lo := 8; w := 8; acc := .rt; dflt := 15; insts := 6; legal := .upTo 5 30
/-- GD.F_RATED, Table 7.5. -/
def Reg.GD_F_RATED : Fld where base := 0x0A00003C; lo := 0; w := 14; acc := .rt; dflt := 500; insts := 6; legal := .upTo 10 10000
/-- GD.BOOST, Table 7.5. -/
def Reg.GD_BOOST : Fld where base := 0x0A000040; lo := 0; w := 11; acc := .rt; dflt := 300; insts := 6; legal := .upTo 0 2000
/-- GD.M_MIN, Table 7.5. -/
def Reg.GD_M_MIN : Fld where base := 0x0A000040; lo := 16; w := 13; acc := .rt; dflt := 500; insts := 6; legal := .upTo 0 5000
/-- GD.ACCEL, Table 7.5. -/
def Reg.GD_ACCEL : Fld where base := 0x0A000044; lo := 0; w := 16; acc := .rt; dflt := 500; insts := 6; legal := .upTo 1 65535
/-- GD.CMD, Table 7.5. -/
def Reg.GD_CMD : Fld where base := 0x0A000048; lo := 0; w := 14; acc := .ro; dflt := 0; insts := 6
/-- GD.F_OUT, Table 7.5. -/
def Reg.GD_F_OUT : Fld where base := 0x0A00004C; lo := 0; w := 14; acc := .ro; dflt := 0; insts := 6
/-- GD.M_OUT, Table 7.5. -/
def Reg.GD_M_OUT : Fld where base := 0x0A00004C; lo := 16; w := 14; acc := .ro; dflt := 0; insts := 6
/-- GD.VBUS, Table 7.5. -/
def Reg.GD_VBUS : Fld where base := 0x0A000050; lo := 0; w := 11; acc := .ro; dflt := 0; insts := 6
/-- GD.TEMP, Table 7.5. -/
def Reg.GD_TEMP : Fld where base := 0x0A000054; lo := 0; w := 32; acc := .ro; dflt := 0; insts := 6
/-- GD.CLR, Table 7.5. -/
def Reg.GD_CLR : Fld where base := 0x0A000058; lo := 0; w := 1; acc := .ri; dflt := 0; insts := 6
/-- GD.FAULTS, Table 7.5. -/
def Reg.GD_FAULTS : Fld where base := 0x0A00005C; lo := 0; w := 32; acc := .ro; dflt := 0; insts := 6
/-- GD.REFRESHES, Table 7.5. -/
def Reg.GD_REFRESHES : Fld where base := 0x0A000060; lo := 0; w := 32; acc := .ro; dflt := 0; insts := 6
/-- GD.EVENT, Table 7.5. -/
def Reg.GD_EVENT : Fld where base := 0x0A000064; lo := 0; w := 8; acc := .wc; dflt := 0; insts := 6
/-- GD.STR, Table 7.5. -/
def Reg.GD_STR : Fld where base := 0x0A000080; lo := 0; w := 4; acc := .ro; dflt := 8; insts := 6; s1 := 0x10; n1 := 3
/-- GD.TSW, Table 7.5. -/
def Reg.GD_TSW : Fld where base := 0x0A000080; lo := 16; w := 10; acc := .ro; dflt := 1023; insts := 6; s1 := 0x10; n1 := 3
/-- GD.VBS, Table 7.5. -/
def Reg.GD_VBS : Fld where base := 0x0A000084; lo := 0; w := 8; acc := .ro; dflt := 0; insts := 6; s1 := 0x10; n1 := 3
/-- GD.DUTY, Table 7.5. -/
def Reg.GD_DUTY : Fld where base := 0x0A000088; lo := 0; w := 14; acc := .ro; dflt := 0; insts := 6; s1 := 0x10; n1 := 3
/-- GD.REFRESH_ACT, Table 7.5. -/
def Reg.GD_REFRESH_ACT : Fld where base := 0x0A00008C; lo := 0; w := 1; acc := .ro; dflt := 0; insts := 6; s1 := 0x10; n1 := 3

/-- Fields of GD, part 1. -/
def fieldListGD1 : List Fld :=
  [Reg.GD_MODE, Reg.GD_DIR, Reg.GD_STATE, Reg.GD_FAULT,
   Reg.GD_FAULT_PHASE, Reg.GD_PWM_FREQ, Reg.GD_DT_B0, Reg.GD_DT_B1,
   Reg.GD_DT_B2, Reg.GD_DT_B3, Reg.GD_DT_B4, Reg.GD_BAND,
   Reg.GD_SLEW_TARGET, Reg.GD_SLEW_TOL, Reg.GD_STR_INIT, Reg.GD_BLANK,
   Reg.GD_DESAT_V, Reg.GD_SOFT_STR, Reg.GD_SHUNT_OC, Reg.GD_VBS_REFRESH,
   Reg.GD_VBS_UV, Reg.GD_REFRESH_W, Reg.GD_REFRESH_T, Reg.GD_PRECHARGE]
/-- Fields of GD, part 2. -/
def fieldListGD2 : List Fld :=
  [Reg.GD_RETRY_WAIT, Reg.GD_RETRY_MAX, Reg.GD_TRIES, Reg.GD_TSD,
   Reg.GD_TSD_HYST, Reg.GD_F_RATED, Reg.GD_BOOST, Reg.GD_M_MIN,
   Reg.GD_ACCEL, Reg.GD_CMD, Reg.GD_F_OUT, Reg.GD_M_OUT,
   Reg.GD_VBUS, Reg.GD_TEMP, Reg.GD_CLR, Reg.GD_FAULTS,
   Reg.GD_REFRESHES, Reg.GD_EVENT, Reg.GD_STR, Reg.GD_TSW,
   Reg.GD_VBS, Reg.GD_DUTY, Reg.GD_REFRESH_ACT]
/-- The fields of GD in the order of its object map. -/
def fieldsGD : List Fld := fieldListGD1 ++ fieldListGD2

/-- LS.SIZE, Table 7.6. -/
def Reg.LS_SIZE : Fld where base := 0x0B000000; lo := 0; w := 1; acc := .ro; dflt := 0; dr := .lsSize; insts := 32
/-- LS.SUPPLY, Table 7.6. -/
def Reg.LS_SUPPLY : Fld where base := 0x0B000000; lo := 1; w := 1; acc := .ro; dflt := 0; dr := .lsSupply; insts := 32
/-- LS.FUNCTION, Table 7.6. -/
def Reg.LS_FUNCTION : Fld where base := 0x0B000000; lo := 8; w := 3; acc := .ro; dflt := 0; insts := 32
/-- LS.OUT_REQ, Table 7.6. -/
def Reg.LS_OUT_REQ : Fld where base := 0x0B000004; lo := 0; w := 1; acc := .ri; dflt := 0; insts := 32
/-- LS.DRIVE_MODE, Table 7.6. -/
def Reg.LS_DRIVE_MODE : Fld where base := 0x0B000004; lo := 8; w := 2; acc := .rt; dflt := 0; insts := 32; legal := .oneOf [0, 1]
/-- LS.PWM_FREQ, Table 7.6. -/
def Reg.LS_PWM_FREQ : Fld where base := 0x0B000008; lo := 0; w := 10; acc := .rt; dflt := 200; insts := 32; legal := .upTo 1 1000
/-- LS.DUTY, Table 7.6. -/
def Reg.LS_DUTY : Fld where base := 0x0B00000C; lo := 0; w := 14; acc := .ri; dflt := 0; insts := 32; legal := .upTo 0 10000
/-- LS.DUTY_APPLIED, Table 7.6. -/
def Reg.LS_DUTY_APPLIED : Fld where base := 0x0B00000C; lo := 16; w := 14; acc := .ro; dflt := 0; insts := 32
/-- LS.OC_TRIP, Table 7.6. -/
def Reg.LS_OC_TRIP : Fld where base := 0x0B000010; lo := 0; w := 13; acc := .rt; dflt := 0; dr := .lsOcTrip; insts := 32; legal := .lsOcTrip
/-- LS.OC_FILT, Table 7.6. -/
def Reg.LS_OC_FILT : Fld where base := 0x0B000014; lo := 0; w := 10; acc := .rt; dflt := 10; insts := 32; legal := .upTo 1 1000
/-- LS.DT_LIMIT, Table 7.6. -/
def Reg.LS_DT_LIMIT : Fld where base := 0x0B000018; lo := 0; w := 7; acc := .rt; dflt := 60; insts := 32; legal := .upTo 20 80
/-- LS.OL_THRESH, Table 7.6. -/
def Reg.LS_OL_THRESH : Fld where base := 0x0B00001C; lo := 0; w := 12; acc := .rt; dflt := 20; insts := 32; legal := .lsOlThresh
/-- LS.OL_FILT, Table 7.6. -/
def Reg.LS_OL_FILT : Fld where base := 0x0B00001C; lo := 16; w := 10; acc := .rt; dflt := 100; insts := 32; legal := .upTo 10 1000
/-- LS.RETRY_WAIT, Table 7.6. -/
def Reg.LS_RETRY_WAIT : Fld where base := 0x0B000020; lo := 0; w := 10; acc := .rt; dflt := 100; insts := 32; legal := .upTo 1 1000
/-- LS.RETRY_MAX, Table 7.6. -/
def Reg.LS_RETRY_MAX : Fld where base := 0x0B000020; lo := 16; w := 3; acc := .rt; dflt := 3; insts := 32
/-- LS.TRIES, Table 7.6. -/
def Reg.LS_TRIES : Fld where base := 0x0B000020; lo := 24; w := 3; acc := .ro; dflt := 0; insts := 32
/-- LS.STATE, Table 7.6. -/
def Reg.LS_STATE : Fld where base := 0x0B000024; lo := 0; w := 3; acc := .ro; dflt := 0; insts := 32
/-- LS.FAULT, Table 7.6. -/
def Reg.LS_FAULT : Fld where base := 0x0B000024; lo := 8; w := 8; acc := .ro; dflt := 0; insts := 32
/-- LS.OPEN_LOAD, Table 7.6. -/
def Reg.LS_OPEN_LOAD : Fld where base := 0x0B000024; lo := 16; w := 1; acc := .ro; dflt := 0; insts := 32
/-- LS.LATCHED, Table 7.6. -/
def Reg.LS_LATCHED : Fld where base := 0x0B000024; lo := 24; w := 1; acc := .ro; dflt := 0; insts := 32
/-- LS.I_MEAS, Table 7.6. -/
def Reg.LS_I_MEAS : Fld where base := 0x0B000028; lo := 0; w := 16; acc := .ro; dflt := 0; insts := 32
/-- LS.T_CH, Table 7.6. -/
def Reg.LS_T_CH : Fld where base := 0x0B00002C; lo := 0; w := 32; acc := .ro; dflt := 0; insts := 32
/-- LS.T_DIFF, Table 7.6. -/
def Reg.LS_T_DIFF : Fld where base := 0x0B000030; lo := 0; w := 32; acc := .ro; dflt := 0; insts := 32
/-- LS.CLR, Table 7.6. -/
def Reg.LS_CLR : Fld where base := 0x0B000034; lo := 0; w := 1; acc := .ri; dflt := 0; insts := 32
/-- LS.FAULTS, Table 7.6. -/
def Reg.LS_FAULTS : Fld where base := 0x0B000038; lo := 0; w := 32; acc := .ro; dflt := 0; insts := 32
/-- LS.EVENT, Table 7.6. -/
def Reg.LS_EVENT : Fld where base := 0x0B00003C; lo := 0; w := 6; acc := .wc; dflt := 0; insts := 32

/-- Fields of LS, part 1. -/
def fieldListLS1 : List Fld :=
  [Reg.LS_SIZE, Reg.LS_SUPPLY, Reg.LS_FUNCTION, Reg.LS_OUT_REQ,
   Reg.LS_DRIVE_MODE, Reg.LS_PWM_FREQ, Reg.LS_DUTY, Reg.LS_DUTY_APPLIED,
   Reg.LS_OC_TRIP, Reg.LS_OC_FILT, Reg.LS_DT_LIMIT, Reg.LS_OL_THRESH,
   Reg.LS_OL_FILT, Reg.LS_RETRY_WAIT, Reg.LS_RETRY_MAX, Reg.LS_TRIES,
   Reg.LS_STATE, Reg.LS_FAULT, Reg.LS_OPEN_LOAD, Reg.LS_LATCHED,
   Reg.LS_I_MEAS, Reg.LS_T_CH, Reg.LS_T_DIFF, Reg.LS_CLR]
/-- Fields of LS, part 2. -/
def fieldListLS2 : List Fld :=
  [Reg.LS_FAULTS, Reg.LS_EVENT]
/-- The fields of LS in the order of its object map. -/
def fieldsLS : List Fld := fieldListLS1 ++ fieldListLS2

/-- LSX.VLS_A, Table 7.7. -/
def Reg.LSX_VLS_A : Fld where base := 0x0B200000; lo := 0; w := 10; acc := .ro; dflt := 0
/-- LSX.VLS_B, Table 7.7. -/
def Reg.LSX_VLS_B : Fld where base := 0x0B200000; lo := 16; w := 10; acc := .ro; dflt := 0
/-- LSX.T_CASE_A, Table 7.7. -/
def Reg.LSX_T_CASE_A : Fld where base := 0x0B200004; lo := 0; w := 32; acc := .ro; dflt := 0
/-- LSX.T_CASE_B, Table 7.7. -/
def Reg.LSX_T_CASE_B : Fld where base := 0x0B200008; lo := 0; w := 32; acc := .ro; dflt := 0
/-- LSX.PD_RESETS, Table 7.7. -/
def Reg.LSX_PD_RESETS : Fld where base := 0x0B20000C; lo := 0; w := 32; acc := .ro; dflt := 0
/-- LSX.SUPPLY_EVENT, Table 7.7. -/
def Reg.LSX_SUPPLY_EVENT : Fld where base := 0x0B200010; lo := 0; w := 2; acc := .wc; dflt := 0

/-- Fields of LSX, part 1. -/
def fieldListLSX1 : List Fld :=
  [Reg.LSX_VLS_A, Reg.LSX_VLS_B, Reg.LSX_T_CASE_A, Reg.LSX_T_CASE_B,
   Reg.LSX_PD_RESETS, Reg.LSX_SUPPLY_EVENT]
/-- The fields of LSX in the order of its object map. -/
def fieldsLSX : List Fld := fieldListLSX1

end Sys2Proof.Machine
end

