-- ==== Sys2Proof/Machine/MapSystem.lean ====
section
/-! DEFINITION. Object maps of the blocks SAFE, PAIR, KEY, OTP, TSN, TSNX, T1S, CAN, SENT, CMD, UPD, THERM, LEDGE, BIST: every field with its place, width,
access code, default and legal values, in the order of the spec's tables. -/
namespace Sys2Proof.Machine

/-- SAFE.COMMISSIONED, Table 11.8. -/
def Reg.SAFE_COMMISSIONED : Fld where base := 0x12000000; lo := 0; w := 1; acc := .ro; dflt := 0
/-- SAFE.INT_FAULT, Table 11.8. -/
def Reg.SAFE_INT_FAULT : Fld where base := 0x12000000; lo := 8; w := 6; acc := .ro; dflt := 0
/-- SAFE.CHECK_VALUE, Table 11.8. -/
def Reg.SAFE_CHECK_VALUE : Fld where base := 0x12000004; lo := 0; w := 32; acc := .ro; dflt := 0
/-- SAFE.CONFIRM, Table 11.8. -/
def Reg.SAFE_CONFIRM : Fld where base := 0x12000008; lo := 0; w := 32; acc := .rt; dflt := 0
/-- SAFE.CONF_TIME, Table 11.8. -/
def Reg.SAFE_CONF_TIME : Fld where base := 0x1200000C; lo := 0; w := 32; acc := .ro; dflt := 0
/-- SAFE.ENABLED, Table 11.8. -/
def Reg.SAFE_ENABLED : Fld where base := 0x12000010; lo := 0; w := 16; acc := .ro; dflt := 0
/-- SAFE.LOCKED, Table 11.8. -/
def Reg.SAFE_LOCKED : Fld where base := 0x12000010; lo := 16; w := 16; acc := .ro; dflt := 0
/-- SAFE.READBACK, Table 11.8. -/
def Reg.SAFE_READBACK : Fld where base := 0x12000014; lo := 0; w := 16; acc := .ro; dflt := 0
/-- SAFE.LAST_CAUSE, Table 11.8. -/
def Reg.SAFE_LAST_CAUSE : Fld where base := 0x12000018; lo := 0; w := 8; acc := .ro; dflt := 0
/-- SAFE.LAST_INDEX, Table 11.8. -/
def Reg.SAFE_LAST_INDEX : Fld where base := 0x12000018; lo := 8; w := 8; acc := .ro; dflt := 0
/-- SAFE.CUTS, Table 11.8. -/
def Reg.SAFE_CUTS : Fld where base := 0x1200001C; lo := 0; w := 32; acc := .ro; dflt := 0
/-- SAFE.ACK_SIN, Table 11.8. -/
def Reg.SAFE_ACK_SIN : Fld where base := 0x12000020; lo := 0; w := 5; acc := .ro; dflt := 0
/-- SAFE.ACK_STATE, Table 11.8. -/
def Reg.SAFE_ACK_STATE : Fld where base := 0x12000020; lo := 8; w := 2; acc := .ro; dflt := 0
/-- SAFE.ACKS, Table 11.8. -/
def Reg.SAFE_ACKS : Fld where base := 0x12000024; lo := 0; w := 32; acc := .ro; dflt := 0
/-- SAFE.ACK_REJECTS, Table 11.8. -/
def Reg.SAFE_ACK_REJECTS : Fld where base := 0x12000028; lo := 0; w := 32; acc := .ro; dflt := 0
/-- SAFE.HB_CHALLENGE, Table 11.8. -/
def Reg.SAFE_HB_CHALLENGE : Fld where base := 0x1200002C; lo := 0; w := 32; acc := .ro; dflt := 0
/-- SAFE.HB_FAILS, Table 11.8. -/
def Reg.SAFE_HB_FAILS : Fld where base := 0x12000030; lo := 0; w := 32; acc := .ro; dflt := 0
/-- SAFE.REACT_MAX, Table 11.8. -/
def Reg.SAFE_REACT_MAX : Fld where base := 0x12000034; lo := 0; w := 16; acc := .ro; dflt := 0
/-- SAFE.OUT_TEST, Table 11.8. -/
def Reg.SAFE_OUT_TEST : Fld where base := 0x12000038; lo := 0; w := 10; acc := .ro; dflt := 100
/-- SAFE.EVENT, Table 11.8. -/
def Reg.SAFE_EVENT : Fld where base := 0x1200003C; lo := 0; w := 8; acc := .wc; dflt := 0
/-- SAFE.CH_STATE, Table 11.8. -/
def Reg.SAFE_CH_STATE : Fld where base := 0x12000100; lo := 0; w := 2; acc := .ro; dflt := 0; s1 := 0x10; n1 := 16
/-- SAFE.CH_CAUSE, Table 11.8. -/
def Reg.SAFE_CH_CAUSE : Fld where base := 0x12000100; lo := 8; w := 8; acc := .ro; dflt := 0; s1 := 0x10; n1 := 16
/-- SAFE.CH_V, Table 11.8. -/
def Reg.SAFE_CH_V : Fld where base := 0x12000104; lo := 0; w := 10; acc := .ro; dflt := 0; s1 := 0x10; n1 := 16
/-- SAFE.CH_I, Table 11.8. -/
def Reg.SAFE_CH_I : Fld where base := 0x12000104; lo := 16; w := 10; acc := .ro; dflt := 0; s1 := 0x10; n1 := 16
/-- SAFE.CH_CUTS, Table 11.8. -/
def Reg.SAFE_CH_CUTS : Fld where base := 0x12000108; lo := 0; w := 32; acc := .ro; dflt := 0; s1 := 0x10; n1 := 16
/-- SAFE.CH_TESTS, Table 11.8. -/
def Reg.SAFE_CH_TESTS : Fld where base := 0x1200010C; lo := 0; w := 32; acc := .ro; dflt := 0; s1 := 0x10; n1 := 16
/-- SAFE.SIN_TP, Table 11.8. -/
def Reg.SAFE_SIN_TP : Fld where base := 0x12000200; lo := 0; w := 4; acc := .ro; dflt := 15; s1 := 0x10; n1 := 32
/-- SAFE.SIN_FILT, Table 11.8. -/
def Reg.SAFE_SIN_FILT : Fld where base := 0x12000200; lo := 8; w := 6; acc := .ro; dflt := 1; s1 := 0x10; n1 := 32
/-- SAFE.SIN_RAW, Table 11.8. -/
def Reg.SAFE_SIN_RAW : Fld where base := 0x12000204; lo := 0; w := 1; acc := .ro; dflt := 0; s1 := 0x10; n1 := 32
/-- SAFE.SIN_STATE, Table 11.8. -/
def Reg.SAFE_SIN_STATE : Fld where base := 0x12000204; lo := 1; w := 1; acc := .ro; dflt := 0; s1 := 0x10; n1 := 32
/-- SAFE.SIN_FAULT, Table 11.8. -/
def Reg.SAFE_SIN_FAULT : Fld where base := 0x12000204; lo := 2; w := 1; acc := .ro; dflt := 0; s1 := 0x10; n1 := 32
/-- SAFE.SIN_FAULTS, Table 11.8. -/
def Reg.SAFE_SIN_FAULTS : Fld where base := 0x12000208; lo := 0; w := 32; acc := .ro; dflt := 0; s1 := 0x10; n1 := 32
/-- SAFE.SIN_PULSES, Table 11.8. -/
def Reg.SAFE_SIN_PULSES : Fld where base := 0x1200020C; lo := 0; w := 32; acc := .ro; dflt := 0; s1 := 0x10; n1 := 32
/-- SAFE.TP_PERIOD, Table 11.8. -/
def Reg.SAFE_TP_PERIOD : Fld where base := 0x12000400; lo := 0; w := 7; acc := .ro; dflt := 1; s1 := 0x8; n1 := 8
/-- SAFE.TP_WAVE, Table 11.8. -/
def Reg.SAFE_TP_WAVE : Fld where base := 0x12000400; lo := 16; w := 9; acc := .ro; dflt := 0; s1 := 0x8; n1 := 8
/-- SAFE.TP_WIDTH, Table 11.8. -/
def Reg.SAFE_TP_WIDTH : Fld where base := 0x12000404; lo := 0; w := 5; acc := .ro; dflt := 4; s1 := 0x8; n1 := 8
/-- SAFE.FN_TYPE, Table 11.8. -/
def Reg.SAFE_FN_TYPE : Fld where base := 0x12000800; lo := 0; w := 3; acc := .ro; dflt := 0; s1 := 0x20; n1 := 64
/-- SAFE.FN_CONN, Table 11.8. -/
def Reg.SAFE_FN_CONN : Fld where base := 0x12000800; lo := 8; w := 5; acc := .ro; dflt := 0; s1 := 0x20; n1 := 64
/-- SAFE.FN_SRC_A, Table 11.8. -/
def Reg.SAFE_FN_SRC_A : Fld where base := 0x12000804; lo := 0; w := 16; acc := .ro; dflt := 0; s1 := 0x20; n1 := 64
/-- SAFE.FN_SRC_B, Table 11.8. -/
def Reg.SAFE_FN_SRC_B : Fld where base := 0x12000804; lo := 16; w := 16; acc := .ro; dflt := 0; s1 := 0x20; n1 := 64
/-- SAFE.FN_CUT, Table 11.8. -/
def Reg.SAFE_FN_CUT : Fld where base := 0x12000808; lo := 0; w := 16; acc := .ro; dflt := 0; s1 := 0x20; n1 := 64
/-- SAFE.FN_FILT, Table 11.8. -/
def Reg.SAFE_FN_FILT : Fld where base := 0x12000808; lo := 16; w := 7; acc := .ro; dflt := 1; s1 := 0x20; n1 := 64
/-- SAFE.FN_THRESH, Table 11.8. -/
def Reg.SAFE_FN_THRESH : Fld where base := 0x1200080C; lo := 0; w := 16; acc := .ro; dflt := 0; s1 := 0x20; n1 := 64
/-- SAFE.FN_POL, Table 11.8. -/
def Reg.SAFE_FN_POL : Fld where base := 0x1200080C; lo := 16; w := 1; acc := .ro; dflt := 0; s1 := 0x20; n1 := 64
/-- SAFE.FN_DISC, Table 11.8. -/
def Reg.SAFE_FN_DISC : Fld where base := 0x1200080C; lo := 20; w := 9; acc := .ro; dflt := 100; s1 := 0x20; n1 := 64
/-- SAFE.FN_PL_LO, Table 11.8. -/
def Reg.SAFE_FN_PL_LO : Fld where base := 0x12000810; lo := 0; w := 16; acc := .ro; dflt := 0; s1 := 0x20; n1 := 64
/-- SAFE.FN_PL_HI, Table 11.8. -/
def Reg.SAFE_FN_PL_HI : Fld where base := 0x12000810; lo := 16; w := 16; acc := .ro; dflt := 65535; s1 := 0x20; n1 := 64
/-- SAFE.FN_STATE, Table 11.8. -/
def Reg.SAFE_FN_STATE : Fld where base := 0x12000814; lo := 0; w := 2; acc := .ro; dflt := 0; s1 := 0x20; n1 := 64
/-- SAFE.FN_CAUSE, Table 11.8. -/
def Reg.SAFE_FN_CAUSE : Fld where base := 0x12000814; lo := 8; w := 8; acc := .ro; dflt := 0; s1 := 0x20; n1 := 64
/-- SAFE.FN_TRIPS, Table 11.8. -/
def Reg.SAFE_FN_TRIPS : Fld where base := 0x12000818; lo := 0; w := 32; acc := .ro; dflt := 0; s1 := 0x20; n1 := 64
/-- SAFE.FN_LAST, Table 11.8. -/
def Reg.SAFE_FN_LAST : Fld where base := 0x1200081C; lo := 0; w := 32; acc := .ro; dflt := 0; s1 := 0x20; n1 := 64
/-- SAFE.CN_ROLE, Table 11.8. -/
def Reg.SAFE_CN_ROLE : Fld where base := 0x12001000; lo := 0; w := 2; acc := .ro; dflt := 0; s1 := 0x40; n1 := 32
/-- SAFE.CN_PORT_A, Table 11.8. -/
def Reg.SAFE_CN_PORT_A : Fld where base := 0x12001000; lo := 8; w := 4; acc := .ro; dflt := 0; s1 := 0x40; n1 := 32
/-- SAFE.CN_PORT_B, Table 11.8. -/
def Reg.SAFE_CN_PORT_B : Fld where base := 0x12001000; lo := 12; w := 4; acc := .ro; dflt := 8; s1 := 0x40; n1 := 32
/-- SAFE.CN_PERIOD, Table 11.8. -/
def Reg.SAFE_CN_PERIOD : Fld where base := 0x12001000; lo := 16; w := 9; acc := .ro; dflt := 40; s1 := 0x40; n1 := 32
/-- SAFE.CN_SOURCE, Table 11.8. -/
def Reg.SAFE_CN_SOURCE : Fld where base := 0x12001004; lo := 0; w := 32; acc := .ro; dflt := 0; s1 := 0x40; n1 := 32
/-- SAFE.CN_WDOG, Table 11.8. -/
def Reg.SAFE_CN_WDOG : Fld where base := 0x12001008; lo := 0; w := 9; acc := .ro; dflt := 100; s1 := 0x40; n1 := 32
/-- SAFE.CN_CUT, Table 11.8. -/
def Reg.SAFE_CN_CUT : Fld where base := 0x12001008; lo := 16; w := 16; acc := .ro; dflt := 0; s1 := 0x40; n1 := 32
/-- SAFE.CN_STATE, Table 11.8. -/
def Reg.SAFE_CN_STATE : Fld where base := 0x1200100C; lo := 0; w := 2; acc := .ro; dflt := 0; s1 := 0x40; n1 := 32
/-- SAFE.CN_SEQ, Table 11.8. -/
def Reg.SAFE_CN_SEQ : Fld where base := 0x12001010; lo := 0; w := 32; acc := .ro; dflt := 0; s1 := 0x40; n1 := 32
/-- SAFE.CN_DATA_LO, Table 11.8. -/
def Reg.SAFE_CN_DATA_LO : Fld where base := 0x12001014; lo := 0; w := 32; acc := .ro; dflt := 0; s1 := 0x40; n1 := 32
/-- SAFE.CN_DATA_HI, Table 11.8. -/
def Reg.SAFE_CN_DATA_HI : Fld where base := 0x12001018; lo := 0; w := 32; acc := .ro; dflt := 0; s1 := 0x40; n1 := 32
/-- SAFE.CN_AGE, Table 11.8. -/
def Reg.SAFE_CN_AGE : Fld where base := 0x1200101C; lo := 0; w := 16; acc := .ro; dflt := 0; s1 := 0x40; n1 := 32
/-- SAFE.CN_DELIVERED, Table 11.8. -/
def Reg.SAFE_CN_DELIVERED : Fld where base := 0x12001020; lo := 0; w := 32; acc := .ro; dflt := 0; s1 := 0x40; n1 := 32
/-- SAFE.CN_MISS, Table 11.8. -/
def Reg.SAFE_CN_MISS : Fld where base := 0x12001024; lo := 0; w := 32; acc := .ro; dflt := 0; s1 := 0x40; n1 := 32
/-- SAFE.CN_DIFF, Table 11.8. -/
def Reg.SAFE_CN_DIFF : Fld where base := 0x12001028; lo := 0; w := 32; acc := .ro; dflt := 0; s1 := 0x40; n1 := 32
/-- SAFE.CN_BAD, Table 11.8. -/
def Reg.SAFE_CN_BAD : Fld where base := 0x1200102C; lo := 0; w := 32; acc := .ro; dflt := 0; s1 := 0x40; n1 := 32
/-- SAFE.CN_EXPIRES, Table 11.8. -/
def Reg.SAFE_CN_EXPIRES : Fld where base := 0x12001030; lo := 0; w := 32; acc := .ro; dflt := 0; s1 := 0x40; n1 := 32

/-- Fields of SAFE, part 1. -/
def fieldListSAFE1 : List Fld :=
  [Reg.SAFE_COMMISSIONED, Reg.SAFE_INT_FAULT, Reg.SAFE_CHECK_VALUE, Reg.SAFE_CONFIRM,
   Reg.SAFE_CONF_TIME, Reg.SAFE_ENABLED, Reg.SAFE_LOCKED, Reg.SAFE_READBACK,
   Reg.SAFE_LAST_CAUSE, Reg.SAFE_LAST_INDEX, Reg.SAFE_CUTS, Reg.SAFE_ACK_SIN,
   Reg.SAFE_ACK_STATE, Reg.SAFE_ACKS, Reg.SAFE_ACK_REJECTS, Reg.SAFE_HB_CHALLENGE,
   Reg.SAFE_HB_FAILS, Reg.SAFE_REACT_MAX, Reg.SAFE_OUT_TEST, Reg.SAFE_EVENT,
   Reg.SAFE_CH_STATE, Reg.SAFE_CH_CAUSE, Reg.SAFE_CH_V, Reg.SAFE_CH_I]
/-- Fields of SAFE, part 2. -/
def fieldListSAFE2 : List Fld :=
  [Reg.SAFE_CH_CUTS, Reg.SAFE_CH_TESTS, Reg.SAFE_SIN_TP, Reg.SAFE_SIN_FILT,
   Reg.SAFE_SIN_RAW, Reg.SAFE_SIN_STATE, Reg.SAFE_SIN_FAULT, Reg.SAFE_SIN_FAULTS,
   Reg.SAFE_SIN_PULSES, Reg.SAFE_TP_PERIOD, Reg.SAFE_TP_WAVE, Reg.SAFE_TP_WIDTH,
   Reg.SAFE_FN_TYPE, Reg.SAFE_FN_CONN, Reg.SAFE_FN_SRC_A, Reg.SAFE_FN_SRC_B,
   Reg.SAFE_FN_CUT, Reg.SAFE_FN_FILT, Reg.SAFE_FN_THRESH, Reg.SAFE_FN_POL,
   Reg.SAFE_FN_DISC, Reg.SAFE_FN_PL_LO, Reg.SAFE_FN_PL_HI, Reg.SAFE_FN_STATE]
/-- Fields of SAFE, part 3. -/
def fieldListSAFE3 : List Fld :=
  [Reg.SAFE_FN_CAUSE, Reg.SAFE_FN_TRIPS, Reg.SAFE_FN_LAST, Reg.SAFE_CN_ROLE,
   Reg.SAFE_CN_PORT_A, Reg.SAFE_CN_PORT_B, Reg.SAFE_CN_PERIOD, Reg.SAFE_CN_SOURCE,
   Reg.SAFE_CN_WDOG, Reg.SAFE_CN_CUT, Reg.SAFE_CN_STATE, Reg.SAFE_CN_SEQ,
   Reg.SAFE_CN_DATA_LO, Reg.SAFE_CN_DATA_HI, Reg.SAFE_CN_AGE, Reg.SAFE_CN_DELIVERED,
   Reg.SAFE_CN_MISS, Reg.SAFE_CN_DIFF, Reg.SAFE_CN_BAD, Reg.SAFE_CN_EXPIRES]
/-- The fields of SAFE in the order of its object map. -/
def fieldsSAFE : List Fld := fieldListSAFE1 ++ fieldListSAFE2 ++ fieldListSAFE3

/-- PAIR.UNIT, Table 12.5. -/
def Reg.PAIR_UNIT : Fld where base := 0x13000000; lo := 0; w := 1; acc := .ro; dflt := 0
/-- PAIR.PAIR_LINK, Table 12.5. -/
def Reg.PAIR_PAIR_LINK : Fld where base := 0x13000000; lo := 8; w := 4; acc := .ro; dflt := 15
/-- PAIR.LH_LINK, Table 12.5. -/
def Reg.PAIR_LH_LINK : Fld where base := 0x13000000; lo := 16; w := 4; acc := .ro; dflt := 15
/-- PAIR.ROLE, Table 12.5. -/
def Reg.PAIR_ROLE : Fld where base := 0x13000004; lo := 0; w := 3; acc := .ro; dflt := 0
/-- PAIR.CLAIM, Table 12.5. -/
def Reg.PAIR_CLAIM : Fld where base := 0x13000004; lo := 8; w := 1; acc := .ro; dflt := 0
/-- PAIR.FLOOD_OUT, Table 12.5. -/
def Reg.PAIR_FLOOD_OUT : Fld where base := 0x13000004; lo := 9; w := 1; acc := .ro; dflt := 0
/-- PAIR.FLOOD_IN, Table 12.5. -/
def Reg.PAIR_FLOOD_IN : Fld where base := 0x13000004; lo := 10; w := 1; acc := .ro; dflt := 0
/-- PAIR.HEALTH, Table 12.5. -/
def Reg.PAIR_HEALTH : Fld where base := 0x13000008; lo := 0; w := 6; acc := .ro; dflt := 0
/-- PAIR.PARTNER_HEALTH, Table 12.5. -/
def Reg.PAIR_PARTNER_HEALTH : Fld where base := 0x13000008; lo := 16; w := 6; acc := .ro; dflt := 0
/-- PAIR.PASS_TIDES, Table 12.5. -/
def Reg.PAIR_PASS_TIDES : Fld where base := 0x1300000C; lo := 0; w := 32; acc := .ro; dflt := 0
/-- PAIR.LH_MISS, Table 12.5. -/
def Reg.PAIR_LH_MISS : Fld where base := 0x13000010; lo := 0; w := 16; acc := .ro; dflt := 0
/-- PAIR.MIRROR_AGE, Table 12.5. -/
def Reg.PAIR_MIRROR_AGE : Fld where base := 0x13000010; lo := 16; w := 16; acc := .ro; dflt := 0
/-- PAIR.PAIRED_SOUT, Table 12.5. -/
def Reg.PAIR_PAIRED_SOUT : Fld where base := 0x13000014; lo := 0; w := 16; acc := .ro; dflt := 0
/-- PAIR.PAIRED_LS, Table 12.5. -/
def Reg.PAIR_PAIRED_LS : Fld where base := 0x13000018; lo := 0; w := 32; acc := .ro; dflt := 0
/-- PAIR.SOLO_START, Table 12.5. -/
def Reg.PAIR_SOLO_START : Fld where base := 0x1300001C; lo := 0; w := 1; acc := .rt; dflt := 0
/-- PAIR.TAKEBACK_EN, Table 12.5. -/
def Reg.PAIR_TAKEBACK_EN : Fld where base := 0x1300001C; lo := 8; w := 1; acc := .rt; dflt := 1
/-- PAIR.TAKEBACK_IDLE, Table 12.5. -/
def Reg.PAIR_TAKEBACK_IDLE : Fld where base := 0x1300001C; lo := 9; w := 1; acc := .rt; dflt := 1
/-- PAIR.TAKEBACK_TIDES, Table 12.5. -/
def Reg.PAIR_TAKEBACK_TIDES : Fld where base := 0x13000020; lo := 0; w := 32; acc := .rt; dflt := 6000; legal := .upTo 100 8640000
/-- PAIR.HANDOVER, Table 12.5. -/
def Reg.PAIR_HANDOVER : Fld where base := 0x13000024; lo := 0; w := 8; acc := .rt; dflt := 0; legal := .oneOf [0, 0xA5]
/-- PAIR.YIELD_MAX, Table 12.5. -/
def Reg.PAIR_YIELD_MAX : Fld where base := 0x13000028; lo := 0; w := 16; acc := .rt; dflt := 1600; legal := .upTo 400 4000
/-- PAIR.RESUME_WAIT, Table 12.5. -/
def Reg.PAIR_RESUME_WAIT : Fld where base := 0x13000028; lo := 16; w := 16; acc := .rt; dflt := 3000; legal := .upTo 100 60000
/-- PAIR.SWITCHOVERS, Table 12.5. -/
def Reg.PAIR_SWITCHOVERS : Fld where base := 0x1300002C; lo := 0; w := 32; acc := .ro; dflt := 0
/-- PAIR.LAST_SWITCH, Table 12.5. -/
def Reg.PAIR_LAST_SWITCH : Fld where base := 0x13000030; lo := 0; w := 32; acc := .ro; dflt := 0
/-- PAIR.LAST_CAUSE, Table 12.5. -/
def Reg.PAIR_LAST_CAUSE : Fld where base := 0x13000034; lo := 0; w := 3; acc := .ro; dflt := 0
/-- PAIR.LAST_GAP, Table 12.5. -/
def Reg.PAIR_LAST_GAP : Fld where base := 0x13000034; lo := 16; w := 16; acc := .ro; dflt := 0
/-- PAIR.EVENT, Table 12.5. -/
def Reg.PAIR_EVENT : Fld where base := 0x13000038; lo := 0; w := 8; acc := .wc; dflt := 0

/-- Fields of PAIR, part 1. -/
def fieldListPAIR1 : List Fld :=
  [Reg.PAIR_UNIT, Reg.PAIR_PAIR_LINK, Reg.PAIR_LH_LINK, Reg.PAIR_ROLE,
   Reg.PAIR_CLAIM, Reg.PAIR_FLOOD_OUT, Reg.PAIR_FLOOD_IN, Reg.PAIR_HEALTH,
   Reg.PAIR_PARTNER_HEALTH, Reg.PAIR_PASS_TIDES, Reg.PAIR_LH_MISS, Reg.PAIR_MIRROR_AGE,
   Reg.PAIR_PAIRED_SOUT, Reg.PAIR_PAIRED_LS, Reg.PAIR_SOLO_START, Reg.PAIR_TAKEBACK_EN,
   Reg.PAIR_TAKEBACK_IDLE, Reg.PAIR_TAKEBACK_TIDES, Reg.PAIR_HANDOVER, Reg.PAIR_YIELD_MAX,
   Reg.PAIR_RESUME_WAIT, Reg.PAIR_SWITCHOVERS, Reg.PAIR_LAST_SWITCH, Reg.PAIR_LAST_CAUSE]
/-- Fields of PAIR, part 2. -/
def fieldListPAIR2 : List Fld :=
  [Reg.PAIR_LAST_GAP, Reg.PAIR_EVENT]
/-- The fields of PAIR in the order of its object map. -/
def fieldsPAIR : List Fld := fieldListPAIR1 ++ fieldListPAIR2

/-- KEY.ROOT_MODE, Table 13.10. -/
def Reg.KEY_ROOT_MODE : Fld where base := 0x14000000; lo := 0; w := 2; acc := .ro; dflt := 0
/-- KEY.STORE_AREA, Table 13.10. -/
def Reg.KEY_STORE_AREA : Fld where base := 0x14000000; lo := 8; w := 1; acc := .ro; dflt := 0
/-- KEY.SLOTS_USED, Table 13.10. -/
def Reg.KEY_SLOTS_USED : Fld where base := 0x14000004; lo := 0; w := 10; acc := .ro; dflt := 0
/-- KEY.ANCHORS, Table 13.10. -/
def Reg.KEY_ANCHORS : Fld where base := 0x14000004; lo := 16; w := 5; acc := .ro; dflt := 0
/-- KEY.DENY_COUNT, Table 13.10. -/
def Reg.KEY_DENY_COUNT : Fld where base := 0x14000008; lo := 0; w := 13; acc := .ro; dflt := 0
/-- KEY.DENY_VALID, Table 13.10. -/
def Reg.KEY_DENY_VALID : Fld where base := 0x14000008; lo := 16; w := 1; acc := .ro; dflt := 0
/-- KEY.LEDGE_SHARE, Table 13.10. -/
def Reg.KEY_LEDGE_SHARE : Fld where base := 0x1400000C; lo := 0; w := 1; acc := .ro; dflt := 0
/-- KEY.HANDOVER_STATE, Table 13.10. -/
def Reg.KEY_HANDOVER_STATE : Fld where base := 0x14000010; lo := 0; w := 2; acc := .ro; dflt := 0
/-- KEY.HANDOVER_KEYS, Table 13.10. -/
def Reg.KEY_HANDOVER_KEYS : Fld where base := 0x14000010; lo := 16; w := 9; acc := .ro; dflt := 0
/-- KEY.STARTS, Table 13.10. -/
def Reg.KEY_STARTS : Fld where base := 0x14000014; lo := 0; w := 32; acc := .ro; dflt := 0
/-- KEY.UPDATES, Table 13.10. -/
def Reg.KEY_UPDATES : Fld where base := 0x14000018; lo := 0; w := 32; acc := .ro; dflt := 0
/-- KEY.ATTESTS, Table 13.10. -/
def Reg.KEY_ATTESTS : Fld where base := 0x1400001C; lo := 0; w := 32; acc := .ro; dflt := 0
/-- KEY.REFUSED, Table 13.10. -/
def Reg.KEY_REFUSED : Fld where base := 0x14000020; lo := 0; w := 32; acc := .ro; dflt := 0
/-- KEY.INVALIDATE, Table 13.10. -/
def Reg.KEY_INVALIDATE : Fld where base := 0x14000024; lo := 0; w := 10; acc := .ri; dflt := 1023; legal := .upToOr 8 511 0x3FF
/-- KEY.EVENT, Table 13.10. -/
def Reg.KEY_EVENT : Fld where base := 0x14000028; lo := 0; w := 8; acc := .wc; dflt := 0
/-- KEY.TYPE, Table 13.10. -/
def Reg.KEY_TYPE : Fld where base := 0x14001000; lo := 0; w := 3; acc := .ro; dflt := 0; s1 := 0x20; n1 := 512
/-- KEY.USAGE, Table 13.10. -/
def Reg.KEY_USAGE : Fld where base := 0x14001000; lo := 8; w := 3; acc := .ro; dflt := 0; s1 := 0x20; n1 := 512
/-- KEY.LIMIT, Table 13.10. -/
def Reg.KEY_LIMIT : Fld where base := 0x14001000; lo := 16; w := 2; acc := .ro; dflt := 0; s1 := 0x20; n1 := 512
/-- KEY.SURVIVE, Table 13.10. -/
def Reg.KEY_SURVIVE : Fld where base := 0x14001000; lo := 20; w := 1; acc := .ro; dflt := 0; s1 := 0x20; n1 := 512
/-- KEY.LEDGE_BOUND, Table 13.10. -/
def Reg.KEY_LEDGE_BOUND : Fld where base := 0x14001000; lo := 21; w := 1; acc := .ro; dflt := 0; s1 := 0x20; n1 := 512
/-- KEY.ANCHOR, Table 13.10. -/
def Reg.KEY_ANCHOR : Fld where base := 0x14001000; lo := 22; w := 1; acc := .ro; dflt := 0; s1 := 0x20; n1 := 512
/-- KEY.STATE, Table 13.10. -/
def Reg.KEY_STATE : Fld where base := 0x14001000; lo := 24; w := 3; acc := .ro; dflt := 0; s1 := 0x20; n1 := 512
/-- KEY.ORIGIN, Table 13.10. -/
def Reg.KEY_ORIGIN : Fld where base := 0x14001000; lo := 28; w := 3; acc := .ro; dflt := 0; s1 := 0x20; n1 := 512
/-- KEY.COUNT, Table 13.10. -/
def Reg.KEY_COUNT : Fld where base := 0x14001004; lo := 0; w := 32; acc := .ro; dflt := 0; s1 := 0x20; n1 := 512
/-- KEY.PARENT, Table 13.10. -/
def Reg.KEY_PARENT : Fld where base := 0x14001008; lo := 0; w := 9; acc := .ro; dflt := 511; s1 := 0x20; n1 := 512
/-- KEY.DEPTH, Table 13.10. -/
def Reg.KEY_DEPTH : Fld where base := 0x14001008; lo := 16; w := 4; acc := .ro; dflt := 0; s1 := 0x20; n1 := 512
/-- KEY.INV_CAUSE, Table 13.10. -/
def Reg.KEY_INV_CAUSE : Fld where base := 0x14001008; lo := 24; w := 3; acc := .ro; dflt := 0; s1 := 0x20; n1 := 512
/-- KEY.TAG, Table 13.10. -/
def Reg.KEY_TAG : Fld where base := 0x1400100C; lo := 0; w := 32; acc := .ro; dflt := 0; s1 := 0x20; n1 := 512
/-- KEY.PARENT_TAG, Table 13.10. -/
def Reg.KEY_PARENT_TAG : Fld where base := 0x14001010; lo := 0; w := 32; acc := .ro; dflt := 0; s1 := 0x20; n1 := 512
/-- KEY.PUB_HASH, Table 13.10. -/
def Reg.KEY_PUB_HASH : Fld where base := 0x14001014; lo := 0; w := 32; acc := .ro; dflt := 0; s1 := 0x20; n1 := 512
/-- KEY.CREATED, Table 13.10. -/
def Reg.KEY_CREATED : Fld where base := 0x14001018; lo := 0; w := 32; acc := .ro; dflt := 0; s1 := 0x20; n1 := 512
/-- KEY.USES, Table 13.10. -/
def Reg.KEY_USES : Fld where base := 0x1400101C; lo := 0; w := 32; acc := .ro; dflt := 0; s1 := 0x20; n1 := 512

/-- Fields of KEY, part 1. -/
def fieldListKEY1 : List Fld :=
  [Reg.KEY_ROOT_MODE, Reg.KEY_STORE_AREA, Reg.KEY_SLOTS_USED, Reg.KEY_ANCHORS,
   Reg.KEY_DENY_COUNT, Reg.KEY_DENY_VALID, Reg.KEY_LEDGE_SHARE, Reg.KEY_HANDOVER_STATE,
   Reg.KEY_HANDOVER_KEYS, Reg.KEY_STARTS, Reg.KEY_UPDATES, Reg.KEY_ATTESTS,
   Reg.KEY_REFUSED, Reg.KEY_INVALIDATE, Reg.KEY_EVENT, Reg.KEY_TYPE,
   Reg.KEY_USAGE, Reg.KEY_LIMIT, Reg.KEY_SURVIVE, Reg.KEY_LEDGE_BOUND,
   Reg.KEY_ANCHOR, Reg.KEY_STATE, Reg.KEY_ORIGIN, Reg.KEY_COUNT]
/-- Fields of KEY, part 2. -/
def fieldListKEY2 : List Fld :=
  [Reg.KEY_PARENT, Reg.KEY_DEPTH, Reg.KEY_INV_CAUSE, Reg.KEY_TAG,
   Reg.KEY_PARENT_TAG, Reg.KEY_PUB_HASH, Reg.KEY_CREATED, Reg.KEY_USES]
/-- The fields of KEY in the order of its object map. -/
def fieldsKEY : List Fld := fieldListKEY1 ++ fieldListKEY2

/-- OTP.LIFECYCLE, Table 13.11. -/
def Reg.OTP_LIFECYCLE : Fld where base := 0x1E000000; lo := 0; w := 3; acc := .ro; dflt := 0
/-- OTP.LC_FUSES, Table 13.11. -/
def Reg.OTP_LC_FUSES : Fld where base := 0x1E000000; lo := 8; w := 4; acc := .ro; dflt := 0
/-- OTP.LC_TARGET, Table 13.11. -/
def Reg.OTP_LC_TARGET : Fld where base := 0x1E000004; lo := 0; w := 3; acc := .rt; dflt := 0; legal := .upTo 0 4
/-- OTP.ACTIVE, Table 13.11. -/
def Reg.OTP_ACTIVE : Fld where base := 0x1E000008; lo := 0; w := 8; acc := .ro; dflt := 0
/-- OTP.IDENT_VALID, Table 13.11. -/
def Reg.OTP_IDENT_VALID : Fld where base := 0x1E000008; lo := 8; w := 1; acc := .ro; dflt := 0
/-- OTP.SPENT, Table 13.11. -/
def Reg.OTP_SPENT : Fld where base := 0x1E00000C; lo := 0; w := 20; acc := .ro; dflt := 0
/-- OTP.VALID, Table 13.11. -/
def Reg.OTP_VALID : Fld where base := 0x1E000010; lo := 0; w := 20; acc := .ro; dflt := 0
/-- OTP.RETIRED, Table 13.11. -/
def Reg.OTP_RETIRED : Fld where base := 0x1E000014; lo := 0; w := 20; acc := .ro; dflt := 0
/-- OTP.RETIRE, Table 13.11. -/
def Reg.OTP_RETIRE : Fld where base := 0x1E000018; lo := 0; w := 20; acc := .rt; dflt := 0
/-- OTP.PROG_STATE, Table 13.11. -/
def Reg.OTP_PROG_STATE : Fld where base := 0x1E00001C; lo := 0; w := 2; acc := .ro; dflt := 0
/-- OTP.PROG_TARGET, Table 13.11. -/
def Reg.OTP_PROG_TARGET : Fld where base := 0x1E00001C; lo := 8; w := 5; acc := .ro; dflt := 0
/-- OTP.EVENT, Table 13.11. -/
def Reg.OTP_EVENT : Fld where base := 0x1E000020; lo := 0; w := 5; acc := .wc; dflt := 0
/-- OTP.IDENT_WORD, R405. -/
def Reg.OTP_IDENT_WORD : Fld where base := 0x1E010000; lo := 0; w := 32; acc := .ot; dflt := 0; s2 := 0x4; n2 := 128
/-- OTP.POLICY_WORD, R405. -/
def Reg.OTP_POLICY_WORD : Fld where base := 0x1E020000; lo := 0; w := 32; acc := .ot; dflt := 0; s1 := 0x1000; n1 := 4; s2 := 0x4; n2 := 128
/-- OTP.OWNER_WORD, R405. -/
def Reg.OTP_OWNER_WORD : Fld where base := 0x1E030000; lo := 0; w := 32; acc := .ot; dflt := 0; s1 := 0x1000; n1 := 4; s2 := 0x4; n2 := 64
/-- OTP.CAL_WORD, R405. -/
def Reg.OTP_CAL_WORD : Fld where base := 0x1E040000; lo := 0; w := 32; acc := .ot; dflt := 0; s1 := 0x1000; n1 := 4; s2 := 0x4; n2 := 640
/-- OTP.LEGAL_WORD, R405. -/
def Reg.OTP_LEGAL_WORD : Fld where base := 0x1E050000; lo := 0; w := 32; acc := .ot; dflt := 0; s1 := 0x1000; n1 := 4; s2 := 0x4; n2 := 32

/-- Fields of OTP, part 1. -/
def fieldListOTP1 : List Fld :=
  [Reg.OTP_LIFECYCLE, Reg.OTP_LC_FUSES, Reg.OTP_LC_TARGET, Reg.OTP_ACTIVE,
   Reg.OTP_IDENT_VALID, Reg.OTP_SPENT, Reg.OTP_VALID, Reg.OTP_RETIRED,
   Reg.OTP_RETIRE, Reg.OTP_PROG_STATE, Reg.OTP_PROG_TARGET, Reg.OTP_EVENT,
   Reg.OTP_IDENT_WORD, Reg.OTP_POLICY_WORD, Reg.OTP_OWNER_WORD, Reg.OTP_CAL_WORD,
   Reg.OTP_LEGAL_WORD]
/-- The fields of OTP in the order of its object map. -/
def fieldsOTP : List Fld := fieldListOTP1

/-- TSN.MODE, Table 14.9. -/
def Reg.TSN_MODE : Fld where base := 0x15000000; lo := 0; w := 3; acc := .ro; dflt := 0; insts := 16
/-- TSN.LINK, Table 14.9. -/
def Reg.TSN_LINK : Fld where base := 0x15000000; lo := 8; w := 1; acc := .ro; dflt := 0; insts := 16
/-- TSN.SPEED, Table 14.9. -/
def Reg.TSN_SPEED : Fld where base := 0x15000000; lo := 12; w := 2; acc := .ro; dflt := 0; insts := 16
/-- TSN.PVID, Table 14.9. -/
def Reg.TSN_PVID : Fld where base := 0x15000004; lo := 0; w := 12; acc := .ro; dflt := 1; insts := 16
/-- TSN.AS_EN, Table 14.9. -/
def Reg.TSN_AS_EN : Fld where base := 0x15000004; lo := 16; w := 1; acc := .ro; dflt := 0; insts := 16
/-- TSN.AS_ROLE, Table 14.9. -/
def Reg.TSN_AS_ROLE : Fld where base := 0x15000004; lo := 18; w := 2; acc := .ro; dflt := 0; insts := 16
/-- TSN.GCL_CYCLE, Table 14.9. -/
def Reg.TSN_GCL_CYCLE : Fld where base := 0x15000008; lo := 0; w := 9; acc := .ro; dflt := 1; insts := 16
/-- TSN.GCL_LEN, Table 14.9. -/
def Reg.TSN_GCL_LEN : Fld where base := 0x15000008; lo := 16; w := 7; acc := .ro; dflt := 0; insts := 16
/-- TSN.GATE_STATE, Table 14.9. -/
def Reg.TSN_GATE_STATE : Fld where base := 0x1500000C; lo := 0; w := 8; acc := .ro; dflt := 255; insts := 16
/-- TSN.TX_FRAMES, Table 14.9. -/
def Reg.TSN_TX_FRAMES : Fld where base := 0x15000010; lo := 0; w := 32; acc := .ro; dflt := 0; insts := 16
/-- TSN.RX_FRAMES, Table 14.9. -/
def Reg.TSN_RX_FRAMES : Fld where base := 0x15000014; lo := 0; w := 32; acc := .ro; dflt := 0; insts := 16
/-- TSN.RX_ERRORS, Table 14.9. -/
def Reg.TSN_RX_ERRORS : Fld where base := 0x15000018; lo := 0; w := 32; acc := .ro; dflt := 0; insts := 16
/-- TSN.DROPS, Table 14.9. -/
def Reg.TSN_DROPS : Fld where base := 0x1500001C; lo := 0; w := 32; acc := .ro; dflt := 0; insts := 16
/-- TSN.TC7_LATE, Table 14.9. -/
def Reg.TSN_TC7_LATE : Fld where base := 0x15000020; lo := 0; w := 32; acc := .ro; dflt := 0; insts := 16
/-- TSN.TC7_WAIT, Table 14.9. -/
def Reg.TSN_TC7_WAIT : Fld where base := 0x15000024; lo := 0; w := 16; acc := .ro; dflt := 0; insts := 16
/-- TSN.EVENT, Table 14.9. -/
def Reg.TSN_EVENT : Fld where base := 0x15000028; lo := 0; w := 4; acc := .wc; dflt := 0; insts := 16
/-- TSN.GCL_DUR, Table 14.9. -/
def Reg.TSN_GCL_DUR : Fld where base := 0x15000100; lo := 0; w := 16; acc := .ro; dflt := 0; insts := 16; s1 := 0x4; n1 := 64
/-- TSN.GCL_GATES, Table 14.9. -/
def Reg.TSN_GCL_GATES : Fld where base := 0x15000100; lo := 16; w := 8; acc := .ro; dflt := 0; insts := 16; s1 := 0x4; n1 := 64

/-- Fields of TSN, part 1. -/
def fieldListTSN1 : List Fld :=
  [Reg.TSN_MODE, Reg.TSN_LINK, Reg.TSN_SPEED, Reg.TSN_PVID,
   Reg.TSN_AS_EN, Reg.TSN_AS_ROLE, Reg.TSN_GCL_CYCLE, Reg.TSN_GCL_LEN,
   Reg.TSN_GATE_STATE, Reg.TSN_TX_FRAMES, Reg.TSN_RX_FRAMES, Reg.TSN_RX_ERRORS,
   Reg.TSN_DROPS, Reg.TSN_TC7_LATE, Reg.TSN_TC7_WAIT, Reg.TSN_EVENT,
   Reg.TSN_GCL_DUR, Reg.TSN_GCL_GATES]
/-- The fields of TSN in the order of its object map. -/
def fieldsTSN : List Fld := fieldListTSN1

/-- TSNX.BUF_FREE, Table 14.10. -/
def Reg.TSNX_BUF_FREE : Fld where base := 0x15100000; lo := 0; w := 15; acc := .ro; dflt := 16384
/-- TSNX.BUF_MIN, Table 14.10. -/
def Reg.TSNX_BUF_MIN : Fld where base := 0x15100004; lo := 0; w := 15; acc := .ro; dflt := 16384
/-- TSNX.FDB_USED, Table 14.10. -/
def Reg.TSNX_FDB_USED : Fld where base := 0x15100008; lo := 0; w := 15; acc := .ro; dflt := 0
/-- TSNX.AS_SYNC, Table 14.10. -/
def Reg.TSNX_AS_SYNC : Fld where base := 0x1510000C; lo := 0; w := 1; acc := .ro; dflt := 0
/-- TSNX.AS_OFFSET, Table 14.10. -/
def Reg.TSNX_AS_OFFSET : Fld where base := 0x15100010; lo := 0; w := 32; acc := .ro; dflt := 0
/-- TSNX.AS_LAST, Table 14.10. -/
def Reg.TSNX_AS_LAST : Fld where base := 0x15100014; lo := 0; w := 32; acc := .ro; dflt := 0
/-- TSNX.AGE_TIME, Table 14.10. -/
def Reg.TSNX_AGE_TIME : Fld where base := 0x15100018; lo := 0; w := 16; acc := .rt; dflt := 300; legal := .upTo 10 65535
/-- TSNX.EVENT, Table 14.10. -/
def Reg.TSNX_EVENT : Fld where base := 0x1510001C; lo := 0; w := 4; acc := .wc; dflt := 0

/-- Fields of TSNX, part 1. -/
def fieldListTSNX1 : List Fld :=
  [Reg.TSNX_BUF_FREE, Reg.TSNX_BUF_MIN, Reg.TSNX_FDB_USED, Reg.TSNX_AS_SYNC,
   Reg.TSNX_AS_OFFSET, Reg.TSNX_AS_LAST, Reg.TSNX_AGE_TIME, Reg.TSNX_EVENT]
/-- The fields of TSNX in the order of its object map. -/
def fieldsTSNX : List Fld := fieldListTSNX1

/-- T1S.ROLE, Table 14.11. -/
def Reg.T1S_ROLE : Fld where base := 0x16000000; lo := 0; w := 2; acc := .ro; dflt := 0; dr := .t1sRole; insts := 48
/-- T1S.PLCA_EN, Table 14.11. -/
def Reg.T1S_PLCA_EN : Fld where base := 0x16000000; lo := 8; w := 1; acc := .ro; dflt := 0; dr := .t1sPlca; insts := 48
/-- T1S.NODE_COUNT, Table 14.11. -/
def Reg.T1S_NODE_COUNT : Fld where base := 0x16000000; lo := 16; w := 4; acc := .ro; dflt := 0; insts := 48
/-- T1S.TO_TIMER, Table 14.11. -/
def Reg.T1S_TO_TIMER : Fld where base := 0x16000004; lo := 0; w := 8; acc := .rt; dflt := 32; insts := 48; legal := .upTo 1 255
/-- T1S.BURST_CNT, Table 14.11. -/
def Reg.T1S_BURST_CNT : Fld where base := 0x16000004; lo := 8; w := 8; acc := .rt; dflt := 0; insts := 48
/-- T1S.BURST_TMR, Table 14.11. -/
def Reg.T1S_BURST_TMR : Fld where base := 0x16000004; lo := 16; w := 8; acc := .rt; dflt := 128; insts := 48; legal := .upTo 1 255
/-- T1S.LINK_HOLD, Table 14.11. -/
def Reg.T1S_LINK_HOLD : Fld where base := 0x16000008; lo := 0; w := 16; acc := .rt; dflt := 100; insts := 48; legal := .upTo 10 6000
/-- T1S.NODE_MISS, Table 14.11. -/
def Reg.T1S_NODE_MISS : Fld where base := 0x16000008; lo := 16; w := 16; acc := .rt; dflt := 50; insts := 48; legal := .upTo 5 1000
/-- T1S.LINK, Table 14.11. -/
def Reg.T1S_LINK : Fld where base := 0x1600000C; lo := 0; w := 1; acc := .ro; dflt := 0; insts := 48
/-- T1S.NODES, Table 14.11. -/
def Reg.T1S_NODES : Fld where base := 0x1600000C; lo := 8; w := 8; acc := .ro; dflt := 0; insts := 48
/-- T1S.TX_FRAMES, Table 14.11. -/
def Reg.T1S_TX_FRAMES : Fld where base := 0x16000010; lo := 0; w := 32; acc := .ro; dflt := 0; insts := 48
/-- T1S.RX_FRAMES, Table 14.11. -/
def Reg.T1S_RX_FRAMES : Fld where base := 0x16000014; lo := 0; w := 32; acc := .ro; dflt := 0; insts := 48
/-- T1S.RX_ERRORS, Table 14.11. -/
def Reg.T1S_RX_ERRORS : Fld where base := 0x16000018; lo := 0; w := 32; acc := .ro; dflt := 0; insts := 48
/-- T1S.COLLISIONS, Table 14.11. -/
def Reg.T1S_COLLISIONS : Fld where base := 0x1600001C; lo := 0; w := 32; acc := .ro; dflt := 0; insts := 48
/-- T1S.PLCA_ERR, Table 14.11. -/
def Reg.T1S_PLCA_ERR : Fld where base := 0x16000020; lo := 0; w := 32; acc := .ro; dflt := 0; insts := 48
/-- T1S.EVENT, Table 14.11. -/
def Reg.T1S_EVENT : Fld where base := 0x16000024; lo := 0; w := 4; acc := .wc; dflt := 0; insts := 48

/-- Fields of T1S, part 1. -/
def fieldListT1S1 : List Fld :=
  [Reg.T1S_ROLE, Reg.T1S_PLCA_EN, Reg.T1S_NODE_COUNT, Reg.T1S_TO_TIMER,
   Reg.T1S_BURST_CNT, Reg.T1S_BURST_TMR, Reg.T1S_LINK_HOLD, Reg.T1S_NODE_MISS,
   Reg.T1S_LINK, Reg.T1S_NODES, Reg.T1S_TX_FRAMES, Reg.T1S_RX_FRAMES,
   Reg.T1S_RX_ERRORS, Reg.T1S_COLLISIONS, Reg.T1S_PLCA_ERR, Reg.T1S_EVENT]
/-- The fields of T1S in the order of its object map. -/
def fieldsT1S : List Fld := fieldListT1S1

/-- CAN.MODE, Table 14.12. -/
def Reg.CAN_MODE : Fld where base := 0x17000000; lo := 0; w := 2; acc := .rt; dflt := 0; insts := 8
/-- CAN.FD_EN, Table 14.12. -/
def Reg.CAN_FD_EN : Fld where base := 0x17000000; lo := 8; w := 1; acc := .rt; dflt := 1; insts := 8
/-- CAN.LISTEN_AFTER, Table 14.12. -/
def Reg.CAN_LISTEN_AFTER : Fld where base := 0x17000000; lo := 9; w := 1; acc := .rt; dflt := 0; insts := 8
/-- CAN.NBR, Table 14.12. -/
def Reg.CAN_NBR : Fld where base := 0x17000004; lo := 0; w := 20; acc := .rt; dflt := 500000; insts := 8; legal := .upTo 125000 1000000
/-- CAN.DBR, Table 14.12. -/
def Reg.CAN_DBR : Fld where base := 0x17000008; lo := 0; w := 23; acc := .rt; dflt := 2000000; insts := 8; legal := .upTo 1000000 8000000
/-- CAN.NSP, Table 14.12. -/
def Reg.CAN_NSP : Fld where base := 0x1700000C; lo := 0; w := 10; acc := .rt; dflt := 800; insts := 8; legal := .upTo 500 900
/-- CAN.DSP, Table 14.12. -/
def Reg.CAN_DSP : Fld where base := 0x1700000C; lo := 16; w := 10; acc := .rt; dflt := 750; insts := 8; legal := .upTo 500 900
/-- CAN.TDC_EN, Table 14.12. -/
def Reg.CAN_TDC_EN : Fld where base := 0x1700000C; lo := 31; w := 1; acc := .rt; dflt := 1; insts := 8
/-- CAN.RING_BASE, Table 14.12. -/
def Reg.CAN_RING_BASE : Fld where base := 0x17000010; lo := 0; w := 32; acc := .ro; dflt := 0; insts := 8
/-- CAN.RING_LEN, Table 14.12. -/
def Reg.CAN_RING_LEN : Fld where base := 0x17000014; lo := 0; w := 13; acc := .ro; dflt := 0; insts := 8
/-- CAN.RING_WR, Table 14.12. -/
def Reg.CAN_RING_WR : Fld where base := 0x17000018; lo := 0; w := 13; acc := .ro; dflt := 0; insts := 8
/-- CAN.RING_RD, Table 14.12. -/
def Reg.CAN_RING_RD : Fld where base := 0x17000018; lo := 16; w := 13; acc := .ro; dflt := 0; insts := 8
/-- CAN.RX_FRAMES, Table 14.12. -/
def Reg.CAN_RX_FRAMES : Fld where base := 0x1700001C; lo := 0; w := 32; acc := .ro; dflt := 0; insts := 8
/-- CAN.RING_DROPS, Table 14.12. -/
def Reg.CAN_RING_DROPS : Fld where base := 0x17000020; lo := 0; w := 32; acc := .ro; dflt := 0; insts := 8
/-- CAN.TX_FRAMES, Table 14.12. -/
def Reg.CAN_TX_FRAMES : Fld where base := 0x17000024; lo := 0; w := 32; acc := .ro; dflt := 0; insts := 8
/-- CAN.TX_ABORTS, Table 14.12. -/
def Reg.CAN_TX_ABORTS : Fld where base := 0x17000028; lo := 0; w := 32; acc := .ro; dflt := 0; insts := 8
/-- CAN.TEC, Table 14.12. -/
def Reg.CAN_TEC : Fld where base := 0x1700002C; lo := 0; w := 9; acc := .ro; dflt := 0; insts := 8
/-- CAN.REC, Table 14.12. -/
def Reg.CAN_REC : Fld where base := 0x1700002C; lo := 16; w := 9; acc := .ro; dflt := 0; insts := 8
/-- CAN.BUS_STATE, Table 14.12. -/
def Reg.CAN_BUS_STATE : Fld where base := 0x17000030; lo := 0; w := 2; acc := .ro; dflt := 0; insts := 8
/-- CAN.DETECT_STATE, Table 14.12. -/
def Reg.CAN_DETECT_STATE : Fld where base := 0x17000030; lo := 8; w := 2; acc := .ro; dflt := 0; insts := 8
/-- CAN.DET_NBR, Table 14.12. -/
def Reg.CAN_DET_NBR : Fld where base := 0x17000034; lo := 0; w := 20; acc := .ro; dflt := 0; insts := 8
/-- CAN.DET_DBR, Table 14.12. -/
def Reg.CAN_DET_DBR : Fld where base := 0x17000038; lo := 0; w := 23; acc := .ro; dflt := 0; insts := 8
/-- CAN.RATE_FRAMES, Table 14.12. -/
def Reg.CAN_RATE_FRAMES : Fld where base := 0x1700003C; lo := 0; w := 4; acc := .rt; dflt := 4; insts := 8; legal := .upTo 1 15
/-- CAN.DETECT_DWELL, Table 14.12. -/
def Reg.CAN_DETECT_DWELL : Fld where base := 0x1700003C; lo := 8; w := 8; acc := .rt; dflt := 20; insts := 8; legal := .upTo 1 255
/-- CAN.LONE_LIMIT, Table 14.12. -/
def Reg.CAN_LONE_LIMIT : Fld where base := 0x1700003C; lo := 16; w := 8; acc := .rt; dflt := 16; insts := 8; legal := .upTo 2 255
/-- CAN.LONE_PROBE, Table 14.12. -/
def Reg.CAN_LONE_PROBE : Fld where base := 0x1700003C; lo := 24; w := 8; acc := .rt; dflt := 10; insts := 8; legal := .upTo 1 255
/-- CAN.CAND_NBR, Table 14.12. -/
def Reg.CAN_CAND_NBR : Fld where base := 0x17000040; lo := 0; w := 10; acc := .rt; dflt := 0; insts := 8; s1 := 0x4; n1 := 8; legal := .upToOr 125 1000 0
/-- CAN.CAND_DBR, Table 14.12. -/
def Reg.CAN_CAND_DBR : Fld where base := 0x17000040; lo := 16; w := 7; acc := .rt; dflt := 0; insts := 8; s1 := 0x4; n1 := 8; legal := .upToOr 10 80 0
/-- CAN.TX_TIMEOUT, Table 14.12. -/
def Reg.CAN_TX_TIMEOUT : Fld where base := 0x17000060; lo := 0; w := 16; acc := .rt; dflt := 400; insts := 8; legal := .upTo 1 40000
/-- CAN.BUSOFF_AUTO, Table 14.12. -/
def Reg.CAN_BUSOFF_AUTO : Fld where base := 0x17000060; lo := 16; w := 1; acc := .rt; dflt := 1; insts := 8
/-- CAN.BUSOFF_RESTART, Table 14.12. -/
def Reg.CAN_BUSOFF_RESTART : Fld where base := 0x17000064; lo := 0; w := 1; acc := .ri; dflt := 0; insts := 8
/-- CAN.EVENT, Table 14.12. -/
def Reg.CAN_EVENT : Fld where base := 0x17000068; lo := 0; w := 6; acc := .wc; dflt := 0; insts := 8
/-- CAN.SH_ID, Table 14.12. -/
def Reg.CAN_SH_ID : Fld where base := 0x17000100; lo := 0; w := 29; acc := .ro; dflt := 0; insts := 8; s1 := 0x10; n1 := 64
/-- CAN.SH_IDE, Table 14.12. -/
def Reg.CAN_SH_IDE : Fld where base := 0x17000100; lo := 29; w := 1; acc := .ro; dflt := 0; insts := 8; s1 := 0x10; n1 := 64
/-- CAN.SH_EN, Table 14.12. -/
def Reg.CAN_SH_EN : Fld where base := 0x17000100; lo := 31; w := 1; acc := .ro; dflt := 0; insts := 8; s1 := 0x10; n1 := 64
/-- CAN.SH_SEQ, Table 14.12. -/
def Reg.CAN_SH_SEQ : Fld where base := 0x17000104; lo := 0; w := 32; acc := .ro; dflt := 0; insts := 8; s1 := 0x10; n1 := 64
/-- CAN.SH_AGE, Table 14.12. -/
def Reg.CAN_SH_AGE : Fld where base := 0x17000108; lo := 0; w := 16; acc := .ro; dflt := 65535; insts := 8; s1 := 0x10; n1 := 64
/-- CAN.SH_DLC, Table 14.12. -/
def Reg.CAN_SH_DLC : Fld where base := 0x1700010C; lo := 0; w := 4; acc := .ro; dflt := 0; insts := 8; s1 := 0x10; n1 := 64

/-- Fields of CAN, part 1. -/
def fieldListCAN1 : List Fld :=
  [Reg.CAN_MODE, Reg.CAN_FD_EN, Reg.CAN_LISTEN_AFTER, Reg.CAN_NBR,
   Reg.CAN_DBR, Reg.CAN_NSP, Reg.CAN_DSP, Reg.CAN_TDC_EN,
   Reg.CAN_RING_BASE, Reg.CAN_RING_LEN, Reg.CAN_RING_WR, Reg.CAN_RING_RD,
   Reg.CAN_RX_FRAMES, Reg.CAN_RING_DROPS, Reg.CAN_TX_FRAMES, Reg.CAN_TX_ABORTS,
   Reg.CAN_TEC, Reg.CAN_REC, Reg.CAN_BUS_STATE, Reg.CAN_DETECT_STATE,
   Reg.CAN_DET_NBR, Reg.CAN_DET_DBR, Reg.CAN_RATE_FRAMES, Reg.CAN_DETECT_DWELL]
/-- Fields of CAN, part 2. -/
def fieldListCAN2 : List Fld :=
  [Reg.CAN_LONE_LIMIT, Reg.CAN_LONE_PROBE, Reg.CAN_CAND_NBR, Reg.CAN_CAND_DBR,
   Reg.CAN_TX_TIMEOUT, Reg.CAN_BUSOFF_AUTO, Reg.CAN_BUSOFF_RESTART, Reg.CAN_EVENT,
   Reg.CAN_SH_ID, Reg.CAN_SH_IDE, Reg.CAN_SH_EN, Reg.CAN_SH_SEQ,
   Reg.CAN_SH_AGE, Reg.CAN_SH_DLC]
/-- The fields of CAN in the order of its object map. -/
def fieldsCAN : List Fld := fieldListCAN1 ++ fieldListCAN2

/-- SENT.EN, Table 14.13. -/
def Reg.SENT_EN : Fld where base := 0x18000000; lo := 0; w := 1; acc := .ro; dflt := 0; insts := 16
/-- SENT.FORMAT, Table 14.13. -/
def Reg.SENT_FORMAT : Fld where base := 0x18000000; lo := 8; w := 3; acc := .ro; dflt := 1; insts := 16
/-- SENT.PAUSE, Table 14.13. -/
def Reg.SENT_PAUSE : Fld where base := 0x18000000; lo := 12; w := 1; acc := .ro; dflt := 0; insts := 16
/-- SENT.CRC_MODE, Table 14.13. -/
def Reg.SENT_CRC_MODE : Fld where base := 0x18000000; lo := 13; w := 1; acc := .ro; dflt := 0; insts := 16
/-- SENT.TICK_NS, Table 14.13. -/
def Reg.SENT_TICK_NS : Fld where base := 0x18000004; lo := 0; w := 17; acc := .ro; dflt := 3000; insts := 16
/-- SENT.GAIN1, Table 14.13. -/
def Reg.SENT_GAIN1 : Fld where base := 0x18000008; lo := 0; w := 32; acc := .ro; dflt := 65536; insts := 16
/-- SENT.OFFSET1, Table 14.13. -/
def Reg.SENT_OFFSET1 : Fld where base := 0x1800000C; lo := 0; w := 32; acc := .ro; dflt := 0; insts := 16
/-- SENT.GAIN2, Table 14.13. -/
def Reg.SENT_GAIN2 : Fld where base := 0x18000010; lo := 0; w := 32; acc := .ro; dflt := 65536; insts := 16
/-- SENT.OFFSET2, Table 14.13. -/
def Reg.SENT_OFFSET2 : Fld where base := 0x18000014; lo := 0; w := 32; acc := .ro; dflt := 0; insts := 16
/-- SENT.VALID_LO1, Table 14.13. -/
def Reg.SENT_VALID_LO1 : Fld where base := 0x18000018; lo := 0; w := 16; acc := .ro; dflt := 1; insts := 16
/-- SENT.VALID_HI1, Table 14.13. -/
def Reg.SENT_VALID_HI1 : Fld where base := 0x18000018; lo := 16; w := 16; acc := .ro; dflt := 4088; insts := 16
/-- SENT.VALID_LO2, Table 14.13. -/
def Reg.SENT_VALID_LO2 : Fld where base := 0x1800001C; lo := 0; w := 16; acc := .ro; dflt := 1; insts := 16
/-- SENT.VALID_HI2, Table 14.13. -/
def Reg.SENT_VALID_HI2 : Fld where base := 0x1800001C; lo := 16; w := 16; acc := .ro; dflt := 4088; insts := 16
/-- SENT.TIMEOUT, Table 14.13. -/
def Reg.SENT_TIMEOUT : Fld where base := 0x18000020; lo := 0; w := 10; acc := .rt; dflt := 10; insts := 16; legal := .upTo 1 1000
/-- SENT.VALUE1, Table 14.13. -/
def Reg.SENT_VALUE1 : Fld where base := 0x18000024; lo := 0; w := 32; acc := .ro; dflt := 0; insts := 16
/-- SENT.VALUE2, Table 14.13. -/
def Reg.SENT_VALUE2 : Fld where base := 0x18000028; lo := 0; w := 32; acc := .ro; dflt := 0; insts := 16
/-- SENT.RAW1, Table 14.13. -/
def Reg.SENT_RAW1 : Fld where base := 0x1800002C; lo := 0; w := 16; acc := .ro; dflt := 0; insts := 16
/-- SENT.RAW2, Table 14.13. -/
def Reg.SENT_RAW2 : Fld where base := 0x1800002C; lo := 16; w := 16; acc := .ro; dflt := 0; insts := 16
/-- SENT.STATUS, Table 14.13. -/
def Reg.SENT_STATUS : Fld where base := 0x18000030; lo := 0; w := 4; acc := .ro; dflt := 0; insts := 16
/-- SENT.VALID1, Table 14.13. -/
def Reg.SENT_VALID1 : Fld where base := 0x18000030; lo := 8; w := 1; acc := .ro; dflt := 0; insts := 16
/-- SENT.VALID2, Table 14.13. -/
def Reg.SENT_VALID2 : Fld where base := 0x18000030; lo := 9; w := 1; acc := .ro; dflt := 0; insts := 16
/-- SENT.TICK_MEAS, Table 14.13. -/
def Reg.SENT_TICK_MEAS : Fld where base := 0x18000034; lo := 0; w := 17; acc := .ro; dflt := 0; insts := 16
/-- SENT.FRAMES, Table 14.13. -/
def Reg.SENT_FRAMES : Fld where base := 0x18000038; lo := 0; w := 32; acc := .ro; dflt := 0; insts := 16
/-- SENT.ERRORS, Table 14.13. -/
def Reg.SENT_ERRORS : Fld where base := 0x1800003C; lo := 0; w := 32; acc := .ro; dflt := 0; insts := 16
/-- SENT.SLOW_ID, Table 14.13. -/
def Reg.SENT_SLOW_ID : Fld where base := 0x18000040; lo := 0; w := 8; acc := .ro; dflt := 0; insts := 16
/-- SENT.SLOW_DATA, Table 14.13. -/
def Reg.SENT_SLOW_DATA : Fld where base := 0x18000040; lo := 16; w := 16; acc := .ro; dflt := 0; insts := 16
/-- SENT.EVENT, Table 14.13. -/
def Reg.SENT_EVENT : Fld where base := 0x18000044; lo := 0; w := 4; acc := .wc; dflt := 0; insts := 16

/-- Fields of SENT, part 1. -/
def fieldListSENT1 : List Fld :=
  [Reg.SENT_EN, Reg.SENT_FORMAT, Reg.SENT_PAUSE, Reg.SENT_CRC_MODE,
   Reg.SENT_TICK_NS, Reg.SENT_GAIN1, Reg.SENT_OFFSET1, Reg.SENT_GAIN2,
   Reg.SENT_OFFSET2, Reg.SENT_VALID_LO1, Reg.SENT_VALID_HI1, Reg.SENT_VALID_LO2,
   Reg.SENT_VALID_HI2, Reg.SENT_TIMEOUT, Reg.SENT_VALUE1, Reg.SENT_VALUE2,
   Reg.SENT_RAW1, Reg.SENT_RAW2, Reg.SENT_STATUS, Reg.SENT_VALID1,
   Reg.SENT_VALID2, Reg.SENT_TICK_MEAS, Reg.SENT_FRAMES, Reg.SENT_ERRORS]
/-- Fields of SENT, part 2. -/
def fieldListSENT2 : List Fld :=
  [Reg.SENT_SLOW_ID, Reg.SENT_SLOW_DATA, Reg.SENT_EVENT]
/-- The fields of SENT in the order of its object map. -/
def fieldsSENT : List Fld := fieldListSENT1 ++ fieldListSENT2

/-- CMD.PORT, Table 15.9. -/
def Reg.CMD_PORT : Fld where base := 0x19000000; lo := 0; w := 16; acc := .ro; dflt := 5148
/-- CMD.TLS_KEY, Table 15.9. -/
def Reg.CMD_TLS_KEY : Fld where base := 0x19000004; lo := 0; w := 9; acc := .rt; dflt := 511; legal := .upToOr 0 511 0x1FF
/-- CMD.TXN_STATE, Table 15.9. -/
def Reg.CMD_TXN_STATE : Fld where base := 0x19000008; lo := 0; w := 2; acc := .ro; dflt := 0
/-- CMD.TXN_SCOPE, Table 15.9. -/
def Reg.CMD_TXN_SCOPE : Fld where base := 0x19000008; lo := 8; w := 1; acc := .ro; dflt := 0
/-- CMD.TXN_ISSUER, Table 15.9. -/
def Reg.CMD_TXN_ISSUER : Fld where base := 0x19000008; lo := 16; w := 5; acc := .ro; dflt := 0
/-- CMD.TXN_ID, Table 15.9. -/
def Reg.CMD_TXN_ID : Fld where base := 0x1900000C; lo := 0; w := 32; acc := .ro; dflt := 0
/-- CMD.TXN_FIELDS, Table 15.9. -/
def Reg.CMD_TXN_FIELDS : Fld where base := 0x19000010; lo := 0; w := 10; acc := .ro; dflt := 0
/-- CMD.TXN_AGE, Table 15.9. -/
def Reg.CMD_TXN_AGE : Fld where base := 0x19000014; lo := 0; w := 13; acc := .ro; dflt := 0
/-- CMD.TXN_APPLY, Table 15.9. -/
def Reg.CMD_TXN_APPLY : Fld where base := 0x19000018; lo := 0; w := 32; acc := .ro; dflt := 0
/-- CMD.TXN_RESULT, Table 15.9. -/
def Reg.CMD_TXN_RESULT : Fld where base := 0x1900001C; lo := 0; w := 16; acc := .ro; dflt := 0
/-- CMD.COVE_MARGIN, Table 15.9. -/
def Reg.CMD_COVE_MARGIN : Fld where base := 0x19000020; lo := 0; w := 8; acc := .rt; dflt := 10; legal := .upTo 3 255
/-- CMD.ACCEPTED, Table 15.9. -/
def Reg.CMD_ACCEPTED : Fld where base := 0x19000024; lo := 0; w := 32; acc := .ro; dflt := 0
/-- CMD.REFUSED, Table 15.9. -/
def Reg.CMD_REFUSED : Fld where base := 0x19000028; lo := 0; w := 32; acc := .ro; dflt := 0
/-- CMD.DUPLICATES, Table 15.9. -/
def Reg.CMD_DUPLICATES : Fld where base := 0x1900002C; lo := 0; w := 32; acc := .ro; dflt := 0
/-- CMD.STALE, Table 15.9. -/
def Reg.CMD_STALE : Fld where base := 0x19000030; lo := 0; w := 32; acc := .ro; dflt := 0
/-- CMD.SIG_FAILS, Table 15.9. -/
def Reg.CMD_SIG_FAILS : Fld where base := 0x19000034; lo := 0; w := 32; acc := .ro; dflt := 0
/-- CMD.QUEUE, Table 15.9. -/
def Reg.CMD_QUEUE : Fld where base := 0x19000038; lo := 0; w := 7; acc := .ro; dflt := 0
/-- CMD.SUBS, Table 15.9. -/
def Reg.CMD_SUBS : Fld where base := 0x19000038; lo := 8; w := 4; acc := .ro; dflt := 0
/-- CMD.EVENT_DROPS, Table 15.9. -/
def Reg.CMD_EVENT_DROPS : Fld where base := 0x1900003C; lo := 0; w := 32; acc := .ro; dflt := 0
/-- CMD.EVENT, Table 15.9. -/
def Reg.CMD_EVENT : Fld where base := 0x19000040; lo := 0; w := 6; acc := .wc; dflt := 0
/-- CMD.ISS_ID_LO, Table 15.9. -/
def Reg.CMD_ISS_ID_LO : Fld where base := 0x19000100; lo := 0; w := 32; acc := .ro; dflt := 0; s1 := 0x20; n1 := 32
/-- CMD.ISS_ID_HI, Table 15.9. -/
def Reg.CMD_ISS_ID_HI : Fld where base := 0x19000104; lo := 0; w := 32; acc := .ro; dflt := 0; s1 := 0x20; n1 := 32
/-- CMD.ISS_STATE, Table 15.9. -/
def Reg.CMD_ISS_STATE : Fld where base := 0x19000108; lo := 0; w := 2; acc := .rt; dflt := 0; s1 := 0x20; n1 := 32; legal := .upTo 0 2
/-- CMD.ISS_RIGHTS, Table 15.9. -/
def Reg.CMD_ISS_RIGHTS : Fld where base := 0x19000108; lo := 16; w := 9; acc := .ro; dflt := 0; s1 := 0x20; n1 := 32
/-- CMD.ISS_NOT_AFTER, Table 15.9. -/
def Reg.CMD_ISS_NOT_AFTER : Fld where base := 0x1900010C; lo := 0; w := 32; acc := .ro; dflt := 0; s1 := 0x20; n1 := 32
/-- CMD.ISS_FLOOR_LO, Table 15.9. -/
def Reg.CMD_ISS_FLOOR_LO : Fld where base := 0x19000110; lo := 0; w := 32; acc := .ro; dflt := 0; s1 := 0x20; n1 := 32
/-- CMD.ISS_FLOOR_HI, Table 15.9. -/
def Reg.CMD_ISS_FLOOR_HI : Fld where base := 0x19000114; lo := 0; w := 32; acc := .ro; dflt := 0; s1 := 0x20; n1 := 32
/-- CMD.ISS_HELD, Table 15.9. -/
def Reg.CMD_ISS_HELD : Fld where base := 0x19000118; lo := 0; w := 9; acc := .ro; dflt := 0; s1 := 0x20; n1 := 32
/-- CMD.ISS_COUNT, Table 15.9. -/
def Reg.CMD_ISS_COUNT : Fld where base := 0x1900011C; lo := 0; w := 32; acc := .ro; dflt := 0; s1 := 0x20; n1 := 32

/-- Fields of CMD, part 1. -/
def fieldListCMD1 : List Fld :=
  [Reg.CMD_PORT, Reg.CMD_TLS_KEY, Reg.CMD_TXN_STATE, Reg.CMD_TXN_SCOPE,
   Reg.CMD_TXN_ISSUER, Reg.CMD_TXN_ID, Reg.CMD_TXN_FIELDS, Reg.CMD_TXN_AGE,
   Reg.CMD_TXN_APPLY, Reg.CMD_TXN_RESULT, Reg.CMD_COVE_MARGIN, Reg.CMD_ACCEPTED,
   Reg.CMD_REFUSED, Reg.CMD_DUPLICATES, Reg.CMD_STALE, Reg.CMD_SIG_FAILS,
   Reg.CMD_QUEUE, Reg.CMD_SUBS, Reg.CMD_EVENT_DROPS, Reg.CMD_EVENT,
   Reg.CMD_ISS_ID_LO, Reg.CMD_ISS_ID_HI, Reg.CMD_ISS_STATE, Reg.CMD_ISS_RIGHTS]
/-- Fields of CMD, part 2. -/
def fieldListCMD2 : List Fld :=
  [Reg.CMD_ISS_NOT_AFTER, Reg.CMD_ISS_FLOOR_LO, Reg.CMD_ISS_FLOOR_HI, Reg.CMD_ISS_HELD,
   Reg.CMD_ISS_COUNT]
/-- The fields of CMD in the order of its object map. -/
def fieldsCMD : List Fld := fieldListCMD1 ++ fieldListCMD2

/-- UPD.STATE, Table 16.5. -/
def Reg.UPD_STATE : Fld where base := 0x1A000000; lo := 0; w := 3; acc := .ro; dflt := 0
/-- UPD.TARGET, Table 16.5. -/
def Reg.UPD_TARGET : Fld where base := 0x1A000004; lo := 0; w := 1; acc := .ro; dflt := 0
/-- UPD.BANK_A, Table 16.5. -/
def Reg.UPD_BANK_A : Fld where base := 0x1A000004; lo := 8; w := 3; acc := .ro; dflt := 0
/-- UPD.BANK_B, Table 16.5. -/
def Reg.UPD_BANK_B : Fld where base := 0x1A000004; lo := 16; w := 3; acc := .ro; dflt := 0
/-- UPD.FW_RECEIVED, Table 16.5. -/
def Reg.UPD_FW_RECEIVED : Fld where base := 0x1A000008; lo := 0; w := 25; acc := .ro; dflt := 0
/-- UPD.TT_RECEIVED, Table 16.5. -/
def Reg.UPD_TT_RECEIVED : Fld where base := 0x1A00000C; lo := 0; w := 23; acc := .ro; dflt := 0
/-- UPD.RESULT, Table 16.5. -/
def Reg.UPD_RESULT : Fld where base := 0x1A000010; lo := 0; w := 16; acc := .ro; dflt := 0
/-- UPD.DETAIL, Table 16.5. -/
def Reg.UPD_DETAIL : Fld where base := 0x1A000010; lo := 16; w := 16; acc := .ro; dflt := 0
/-- UPD.LOCK, Table 16.5. -/
def Reg.UPD_LOCK : Fld where base := 0x1A000014; lo := 0; w := 1; acc := .rt; dflt := 0
/-- UPD.ACT_WAIT, Table 16.5. -/
def Reg.UPD_ACT_WAIT : Fld where base := 0x1A000014; lo := 16; w := 16; acc := .rt; dflt := 3000; legal := .upTo 100 60000
/-- UPD.CONFIRM_AFTER, Table 16.5. -/
def Reg.UPD_CONFIRM_AFTER : Fld where base := 0x1A000018; lo := 0; w := 13; acc := .rt; dflt := 100; legal := .upTo 100 6000
/-- UPD.TRIAL_BOOTS, Table 16.5. -/
def Reg.UPD_TRIAL_BOOTS : Fld where base := 0x1A00001C; lo := 0; w := 2; acc := .ro; dflt := 0
/-- UPD.TRIAL_LEFT, Table 16.5. -/
def Reg.UPD_TRIAL_LEFT : Fld where base := 0x1A00001C; lo := 16; w := 16; acc := .ro; dflt := 0
/-- UPD.LAST_PAUSE, Table 16.5. -/
def Reg.UPD_LAST_PAUSE : Fld where base := 0x1A000020; lo := 0; w := 16; acc := .ro; dflt := 0
/-- UPD.STRAND_CAUSE, Table 16.5. -/
def Reg.UPD_STRAND_CAUSE : Fld where base := 0x1A000024; lo := 0; w := 16; acc := .ro; dflt := 0
/-- UPD.CONFIRMED, Table 16.5. -/
def Reg.UPD_CONFIRMED : Fld where base := 0x1A000028; lo := 0; w := 32; acc := .ro; dflt := 0
/-- UPD.FALLBACKS, Table 16.5. -/
def Reg.UPD_FALLBACKS : Fld where base := 0x1A00002C; lo := 0; w := 32; acc := .ro; dflt := 0
/-- UPD.EVENT, Table 16.5. -/
def Reg.UPD_EVENT : Fld where base := 0x1A000030; lo := 0; w := 6; acc := .wc; dflt := 0

/-- Fields of UPD, part 1. -/
def fieldListUPD1 : List Fld :=
  [Reg.UPD_STATE, Reg.UPD_TARGET, Reg.UPD_BANK_A, Reg.UPD_BANK_B,
   Reg.UPD_FW_RECEIVED, Reg.UPD_TT_RECEIVED, Reg.UPD_RESULT, Reg.UPD_DETAIL,
   Reg.UPD_LOCK, Reg.UPD_ACT_WAIT, Reg.UPD_CONFIRM_AFTER, Reg.UPD_TRIAL_BOOTS,
   Reg.UPD_TRIAL_LEFT, Reg.UPD_LAST_PAUSE, Reg.UPD_STRAND_CAUSE, Reg.UPD_CONFIRMED,
   Reg.UPD_FALLBACKS, Reg.UPD_EVENT]
/-- The fields of UPD in the order of its object map. -/
def fieldsUPD : List Fld := fieldListUPD1

/-- THERM.STATE, Table 17.5. -/
def Reg.THERM_STATE : Fld where base := 0x1B000000; lo := 0; w := 2; acc := .ro; dflt := 0
/-- THERM.BAND, Table 17.5. -/
def Reg.THERM_BAND : Fld where base := 0x1B000000; lo := 8; w := 3; acc := .ro; dflt := 1
/-- THERM.TJ_MAX, Table 17.5. -/
def Reg.THERM_TJ_MAX : Fld where base := 0x1B000004; lo := 0; w := 32; acc := .ro; dflt := 0
/-- THERM.TJ_LOGIC, Table 17.5. -/
def Reg.THERM_TJ_LOGIC : Fld where base := 0x1B000008; lo := 0; w := 32; acc := .ro; dflt := 0
/-- THERM.HOT_SENSOR, Table 17.5. -/
def Reg.THERM_HOT_SENSOR : Fld where base := 0x1B00000C; lo := 0; w := 6; acc := .ro; dflt := 0
/-- THERM.VID, Table 17.5. -/
def Reg.THERM_VID : Fld where base := 0x1B000010; lo := 0; w := 6; acc := .ro; dflt := 36
/-- THERM.VC_MARGIN, Table 17.5. -/
def Reg.THERM_VC_MARGIN : Fld where base := 0x1B000010; lo := 8; w := 4; acc := .rt; dflt := 2; legal := .upTo 0 10
/-- THERM.THR_START, Table 17.5. -/
def Reg.THERM_THR_START : Fld where base := 0x1B000014; lo := 0; w := 8; acc := .rt; dflt := 125; legal := .upTo 100 145
/-- THERM.THR_GAIN, Table 17.5. -/
def Reg.THERM_THR_GAIN : Fld where base := 0x1B000014; lo := 8; w := 8; acc := .rt; dflt := 20; legal := .upTo 1 100
/-- THERM.THR_DEMAND, Table 17.5. -/
def Reg.THERM_THR_DEMAND : Fld where base := 0x1B000014; lo := 16; w := 10; acc := .ro; dflt := 0
/-- THERM.SLOPE, Table 17.5. -/
def Reg.THERM_SLOPE : Fld where base := 0x1B000018; lo := 0; w := 32; acc := .ro; dflt := 0
/-- THERM.PRED, Table 17.5. -/
def Reg.THERM_PRED : Fld where base := 0x1B00001C; lo := 0; w := 32; acc := .ro; dflt := 4294967295
/-- THERM.LW_LEAD, Table 17.5. -/
def Reg.THERM_LW_LEAD : Fld where base := 0x1B000020; lo := 0; w := 16; acc := .rt; dflt := 200; legal := .upTo 150 6000
/-- THERM.LW_EXIT, Table 17.5. -/
def Reg.THERM_LW_EXIT : Fld where base := 0x1B000020; lo := 16; w := 8; acc := .rt; dflt := 130; legal := .upTo 100 139
/-- THERM.LW_COUNT, Table 17.5. -/
def Reg.THERM_LW_COUNT : Fld where base := 0x1B000024; lo := 0; w := 32; acc := .ro; dflt := 0
/-- THERM.HARD_COUNT, Table 17.5. -/
def Reg.THERM_HARD_COUNT : Fld where base := 0x1B000028; lo := 0; w := 32; acc := .ro; dflt := 0
/-- THERM.EVENT, Table 17.5. -/
def Reg.THERM_EVENT : Fld where base := 0x1B00002C; lo := 0; w := 5; acc := .wc; dflt := 0
/-- THERM.SNS_TEMP, Table 17.5. -/
def Reg.THERM_SNS_TEMP : Fld where base := 0x1B000100; lo := 0; w := 32; acc := .ro; dflt := 0; s1 := 0x10; n1 := 48
/-- THERM.SNS_STATE, Table 17.5. -/
def Reg.THERM_SNS_STATE : Fld where base := 0x1B000104; lo := 0; w := 2; acc := .ro; dflt := 0; s1 := 0x10; n1 := 48
/-- THERM.SNS_FAST, Table 17.5. -/
def Reg.THERM_SNS_FAST : Fld where base := 0x1B000104; lo := 8; w := 1; acc := .ro; dflt := 0; s1 := 0x10; n1 := 48
/-- THERM.SNS_FAILS, Table 17.5. -/
def Reg.THERM_SNS_FAILS : Fld where base := 0x1B000108; lo := 0; w := 32; acc := .ro; dflt := 0; s1 := 0x10; n1 := 48
/-- THERM.SNS_PEAK, Table 17.5. -/
def Reg.THERM_SNS_PEAK : Fld where base := 0x1B00010C; lo := 0; w := 32; acc := .ro; dflt := 0; s1 := 0x10; n1 := 48

/-- Fields of THERM, part 1. -/
def fieldListTHERM1 : List Fld :=
  [Reg.THERM_STATE, Reg.THERM_BAND, Reg.THERM_TJ_MAX, Reg.THERM_TJ_LOGIC,
   Reg.THERM_HOT_SENSOR, Reg.THERM_VID, Reg.THERM_VC_MARGIN, Reg.THERM_THR_START,
   Reg.THERM_THR_GAIN, Reg.THERM_THR_DEMAND, Reg.THERM_SLOPE, Reg.THERM_PRED,
   Reg.THERM_LW_LEAD, Reg.THERM_LW_EXIT, Reg.THERM_LW_COUNT, Reg.THERM_HARD_COUNT,
   Reg.THERM_EVENT, Reg.THERM_SNS_TEMP, Reg.THERM_SNS_STATE, Reg.THERM_SNS_FAST,
   Reg.THERM_SNS_FAILS, Reg.THERM_SNS_PEAK]
/-- The fields of THERM in the order of its object map. -/
def fieldsTHERM : List Fld := fieldListTHERM1

/-- LEDGE.VLEDGE, Table 17.6. -/
def Reg.LEDGE_VLEDGE : Fld where base := 0x1D000000; lo := 0; w := 12; acc := .ro; dflt := 0
/-- LEDGE.SOURCE, Table 17.6. -/
def Reg.LEDGE_SOURCE : Fld where base := 0x1D000000; lo := 16; w := 1; acc := .ro; dflt := 0
/-- LEDGE.RTC_TRIM, Table 17.6. -/
def Reg.LEDGE_RTC_TRIM : Fld where base := 0x1D000004; lo := 0; w := 16; acc := .rt; dflt := 0; legal := .signed (-400) 400
/-- LEDGE.RTC_LOSS, Table 17.6. -/
def Reg.LEDGE_RTC_LOSS : Fld where base := 0x1D000008; lo := 0; w := 32; acc := .ro; dflt := 0
/-- LEDGE.SUPPLIES, Table 17.6. -/
def Reg.LEDGE_SUPPLIES : Fld where base := 0x1D00000C; lo := 0; w := 6; acc := .ro; dflt := 0
/-- LEDGE.HOLD_CHAN, Table 17.6. -/
def Reg.LEDGE_HOLD_CHAN : Fld where base := 0x1D000010; lo := 0; w := 5; acc := .ro; dflt := 31
/-- LEDGE.HOLD_EN, Table 17.6. -/
def Reg.LEDGE_HOLD_EN : Fld where base := 0x1D000010; lo := 8; w := 1; acc := .ro; dflt := 0
/-- LEDGE.HOLD_MIN, Table 17.6. -/
def Reg.LEDGE_HOLD_MIN : Fld where base := 0x1D000014; lo := 0; w := 16; acc := .ro; dflt := 0
/-- LEDGE.HOLD_V, Table 17.6. -/
def Reg.LEDGE_HOLD_V : Fld where base := 0x1D000014; lo := 16; w := 16; acc := .ro; dflt := 0
/-- LEDGE.RIDE_LAST, Table 17.6. -/
def Reg.LEDGE_RIDE_LAST : Fld where base := 0x1D000018; lo := 0; w := 16; acc := .ro; dflt := 0
/-- LEDGE.HOLD_PASS, Table 17.6. -/
def Reg.LEDGE_HOLD_PASS : Fld where base := 0x1D000018; lo := 16; w := 1; acc := .ro; dflt := 0
/-- LEDGE.EVENT, Table 17.6. -/
def Reg.LEDGE_EVENT : Fld where base := 0x1D00001C; lo := 0; w := 4; acc := .wc; dflt := 0

/-- Fields of LEDGE, part 1. -/
def fieldListLEDGE1 : List Fld :=
  [Reg.LEDGE_VLEDGE, Reg.LEDGE_SOURCE, Reg.LEDGE_RTC_TRIM, Reg.LEDGE_RTC_LOSS,
   Reg.LEDGE_SUPPLIES, Reg.LEDGE_HOLD_CHAN, Reg.LEDGE_HOLD_EN, Reg.LEDGE_HOLD_MIN,
   Reg.LEDGE_HOLD_V, Reg.LEDGE_RIDE_LAST, Reg.LEDGE_HOLD_PASS, Reg.LEDGE_EVENT]
/-- The fields of LEDGE in the order of its object map. -/
def fieldsLEDGE : List Fld := fieldListLEDGE1

/-- BIST.REQ, Table 17.7. -/
def Reg.BIST_REQ : Fld where base := 0x1C000000; lo := 0; w := 14; acc := .ri; dflt := 0
/-- BIST.ROLL_EN, Table 17.7. -/
def Reg.BIST_ROLL_EN : Fld where base := 0x1C000004; lo := 0; w := 1; acc := .rt; dflt := 0
/-- BIST.FAIL_LATCH, Table 17.7. -/
def Reg.BIST_FAIL_LATCH : Fld where base := 0x1C000004; lo := 8; w := 1; acc := .ro; dflt := 0
/-- BIST.ROLL_FAIL, Table 17.7. -/
def Reg.BIST_ROLL_FAIL : Fld where base := 0x1C000004; lo := 9; w := 1; acc := .ro; dflt := 0
/-- BIST.ROLL_TIME, Table 17.7. -/
def Reg.BIST_ROLL_TIME : Fld where base := 0x1C000008; lo := 0; w := 32; acc := .ro; dflt := 0
/-- BIST.ROLL_PASSES, Table 17.7. -/
def Reg.BIST_ROLL_PASSES : Fld where base := 0x1C00000C; lo := 0; w := 32; acc := .ro; dflt := 0
/-- BIST.LAST_TIDE, Table 17.7. -/
def Reg.BIST_LAST_TIDE : Fld where base := 0x1C000010; lo := 0; w := 32; acc := .ro; dflt := 0
/-- BIST.EVENT, Table 17.7. -/
def Reg.BIST_EVENT : Fld where base := 0x1C000014; lo := 0; w := 4; acc := .wc; dflt := 0
/-- BIST.SIG, Table 17.7. -/
def Reg.BIST_SIG : Fld where base := 0x1C000100; lo := 0; w := 32; acc := .ro; dflt := 0; s1 := 0x20; n1 := 14; s2 := 0x4; n2 := 4
/-- BIST.RESULT, Table 17.7. -/
def Reg.BIST_RESULT : Fld where base := 0x1C000110; lo := 0; w := 2; acc := .ro; dflt := 0; s1 := 0x20; n1 := 14
/-- BIST.BAD_WORDS, Table 17.7. -/
def Reg.BIST_BAD_WORDS : Fld where base := 0x1C000114; lo := 0; w := 32; acc := .ro; dflt := 0; s1 := 0x20; n1 := 14

/-- Fields of BIST, part 1. -/
def fieldListBIST1 : List Fld :=
  [Reg.BIST_REQ, Reg.BIST_ROLL_EN, Reg.BIST_FAIL_LATCH, Reg.BIST_ROLL_FAIL,
   Reg.BIST_ROLL_TIME, Reg.BIST_ROLL_PASSES, Reg.BIST_LAST_TIDE, Reg.BIST_EVENT,
   Reg.BIST_SIG, Reg.BIST_RESULT, Reg.BIST_BAD_WORDS]
/-- The fields of BIST in the order of its object map. -/
def fieldsBIST : List Fld := fieldListBIST1

end Sys2Proof.Machine
end

