-- ==== Sys2Proof/Machine/Map.lean ====
section
/-! DEFINITION. The master block table (R454, Table 15.8): the fields of each block and its range error. -/
namespace Sys2Proof.Machine

/-- The fields of a block (R454). -/
def blockFields : Nat → List Fld
  | 0x01 => fieldsDEV
  | 0x02 => fieldsTIDE
  | 0x03 => fieldsCHAIN
  | 0x04 => fieldsALLOC
  | 0x05 => fieldsMTX
  | 0x06 => fieldsCAB
  | 0x07 => fieldsSESS ++ fieldsSESSX
  | 0x08 => fieldsLOOP
  | 0x09 => fieldsCOOL ++ fieldsCOOLC
  | 0x0A => fieldsGD
  | 0x0B => fieldsLS ++ fieldsLSX
  | 0x0C => fieldsMET
  | 0x0D => fieldsMPT
  | 0x0E => fieldsBILL ++ fieldsBILLP
  | 0x0F => fieldsPROF
  | 0x10 => fieldsPREPAY
  | 0x11 => fieldsTAMP ++ fieldsTAMPX
  | 0x12 => fieldsSAFE
  | 0x13 => fieldsPAIR
  | 0x14 => fieldsKEY
  | 0x15 => fieldsTSN ++ fieldsTSNX
  | 0x16 => fieldsT1S
  | 0x17 => fieldsCAN
  | 0x18 => fieldsSENT
  | 0x19 => fieldsCMD
  | 0x1A => fieldsUPD
  | 0x1B => fieldsTHERM
  | 0x1C => fieldsBIST
  | 0x1D => fieldsLEDGE
  | 0x1E => fieldsOTP
  | _ => []

/-- The range error of a block (Table 15.8). -/
def rangeError : Nat → Nat
  | 0x01 => 0x0304
  | 0x02 => 0x0207
  | 0x03 => 0x0304
  | 0x04 => 0x0402
  | 0x05 => 0x0508
  | 0x06 => 0x0508
  | 0x07 => 0x0712
  | 0x08 => 0x0801
  | 0x09 => 0x0901
  | 0x0A => 0x0A01
  | 0x0B => 0x0B01
  | 0x0C => 0x0C01
  | 0x0D => 0x0D01
  | 0x0E => 0x0E01
  | 0x0F => 0x0F01
  | 0x10 => 0x1009
  | 0x11 => 0x1101
  | 0x12 => 0x1202
  | 0x13 => 0x1301
  | 0x14 => 0x1401
  | 0x15 => 0x1501
  | 0x16 => 0x1601
  | 0x17 => 0x1701
  | 0x18 => 0x1801
  | 0x19 => 0x1913
  | 0x1A => 0x1A01
  | 0x1B => 0x1B01
  | 0x1C => 0x1C02
  | 0x1D => 0x1D01
  | 0x1E => 0x1E01
  | _ => 0x1912

end Sys2Proof.Machine
end

