-- ==== Sys2Proof/Machine/State.lean ====
section
/-! DEFINITION. The state of the block: the register file of the object maps, the fabric memories, what the spec gives
the machine beyond its object maps, everything driven outward, and the queue of waiting commands. -/
namespace Sys2Proof.Machine

/-- Reasons a command stops the machine with a fault. -/
inductive Fault where
  /-- Raised by no command: every failure the spec describes is an error code or a next state of its own. Safe. -/
  | unreached
  deriving DecidableEq, Repr

/-- Reasons a command has no meaning. -/
inductive Refusal where
  /-- Raised only by an arm of the dispatch whose command has no meaning yet. Safe. -/
  | notModelled (mnemonic : String)
  deriving DecidableEq, Repr

/-- Where the logic die stands (Table 2.4, Table 2.7). -/
inductive Phase where
  /-- Held in reset. -/
  | reset
  /-- A start held by EBB_N before RUN (R51). -/
  | held
  /-- Step 7. -/
  | join
  /-- Step 8. -/
  | run
  /-- Strand mode (R472). -/
  | strand
  /-- Retired start (Table 2.7). -/
  | retired
  /-- Failure exit 0x0101: halt. -/
  | halt
  deriving DecidableEq, Repr

/-- What the device drives outward, in the order in which it does. -/
inductive Out where
  /-- An error that the device reports and that neither a field nor a reply carries: its code and what it concerns. -/
  | report (code idx : Nat)
  /-- A fabric response: requester, tag, fault code, data. -/
  | fabric (req tag fault : Nat) (data : List Byte)
  /-- The end event of a DMA transfer to its partition (Table 1.6). -/
  | dmaEnd (part chan : Nat)
  /-- A chain frame on a link, from its header to its CRC (R426). -/
  | chain (link : Nat) (frame : List Byte)
  /-- A MIRROR frame on a link (R371). -/
  | mirror (link : Nat) (m : Mirror)
  /-- A reply to a request of a TLS connection (Table 15.2). -/
  | reply (conn id serial result : Nat) (data : List Nat) (apply : Option Nat) (dup : Bool) (detail : Option Nat)
  /-- A telemetry or event message to a subscription. -/
  | message (conn : Nat) (words : List Nat)
  /-- A response of the vehicle protocol on a connector: message and its values. -/
  | v2g (conn : Nat) (msg : String) (vals : List Int)
  /-- A frame of a field link: link kind, port, words. -/
  | link (kind : String) (port : Nat) (words : List Nat)
  /-- A setpoint frame to a cabinet (R137). -/
  | setpoint (cab : Nat) (words : List Int)
  /-- A pin or output driven to a level. -/
  | pin (name : String) (idx : Nat) (level : Bool)
  /-- A record handed to a reader. -/
  | bytes (name : String) (data : List Byte)
  deriving DecidableEq, Repr

/-! ## Fabric -/

/-- An outstanding fabric transaction (R17 to R20). -/
structure Txn where
  r : FabReq
  fault : Nat
  data : List Byte
  deriving DecidableEq, Repr

/-- The run of a slot that is due: its end wave (absolute), and how far it is. -/
structure SlotRun where
  /-- Absolute number of the wave in which the slot ends. -/
  endWave : Nat
  started : Bool
  done : Bool
  /-- Throttle pause applied in its span so far, in ticks (R39). -/
  paused : Nat
  deriving DecidableEq, Repr

/-- What a DMA channel took from its descriptor when it began it (R33). -/
structure DmaI where
  src : Nat := 0
  dst : Nat := 0
  length : Nat := 0
  deriving DecidableEq, Repr

/-- Fabric state beyond the object map. -/
structure FabricI where
  flight : List Txn := []
  /-- Requests whose acknowledge is withheld, oldest first (R19). -/
  stalled : List FabReq := []
  /-- Due slots by slot index. -/
  slots : Tab SlotRun := []
  /-- Tides of the latest class S breaches (R38). -/
  sBreaches : List Nat := []
  /-- Waves since the present scrub pass began are counted in tides (R22). -/
  scrubTides : Nat := 0
  /-- Tides since the present rolling self-test pass began (R493). -/
  rollTides : Nat := 0
  /-- Resources in their released state (R46). -/
  released : List Nat := []
  /-- Transfers begun, by DMA channel. -/
  dma : Tab DmaI := []
  /-- Largest pause and the demand of the present wave; SHED of the present tide (Table 1.9). -/
  pause : Nat := 0
  demand : Nat := 0
  shed : Nat := 0
  deriving DecidableEq, Repr

/-! ## Tide store, OTP -/

/-- A bank descriptor (Table 2.3). -/
structure BankDesc where
  state : Nat := 0
  fwLength : Nat := 0
  ttLength : Nat := 0
  fwSvn : Nat := 0
  fwDigest : Nat := 0
  ttDigest : Nat := 0
  deriving DecidableEq, Repr

/-- The content of a header copy of the tide store (Table 2.3). -/
structure Header where
  seq : Nat := 0
  /-- ACTIVE_BANK: false = A, true = B. -/
  active : Bool := false
  trialBoots : Nat := 0
  a : BankDesc := {}
  b : BankDesc := {}
  deriving DecidableEq, Repr

/-- The tide store (Table 2.2). -/
structure TideStore where
  /-- The programmed bytes of the two header copies; the rest of a copy reads 0xFF (R54). -/
  h0 : List Byte := []
  h1 : List Byte := []
  fwA : Option FwImage := none
  ttA : Option TtImage := none
  fwB : Option FwImage := none
  ttB : Option TtImage := none
  /-- Bytes programmed into the flash, by offset; erased bytes read 0xFF. -/
  flash : List Host.Cell := []
  deriving DecidableEq, Repr

/-- One runtime settings generation in MRAM (R60, R468). -/
structure SettingsGen where
  seq : Nat
  writer : Nat
  tide : Nat
  rtc : Nat
  regs : Tab (BitVec 32)
  deriving DecidableEq, Repr

/-- Start and update state beyond the object maps. -/
structure StartI where
  /-- Image loaded at step 6. -/
  image : Option TtImage := none
  fw : Option FwImage := none
  /-- The two settings generations. -/
  gen0 : Option SettingsGen := none
  gen1 : Option SettingsGen := none
  /-- Levels sampled at the release of reset, kept for a resumed start. -/
  last : Option StartIn := none
  /-- Cause of the reset the die is held in or coming out of. -/
  cause : Nat := 1
  /-- Tides since reset release, and tides spent in JOIN and RUN. -/
  sinceRelease : Nat := 0
  joinTides : Nat := 0
  runTides : Nat := 0
  /-- RUN begins at the next tide boundary; that boundary has passed. -/
  runNext : Bool := false
  runOpen : Bool := false
  /-- A reset is ordered: cause. It waits for the shutdown record (R335). -/
  ordered : Option Nat := none
  /-- Its record is taken after the last sample of the wave of the order (R262). -/
  shutDue : Bool := false
  /-- The settings in force: every field that an applied write or commit has set, by key (R60, R468). -/
  settings : Tab (BitVec 32) := []
  /-- The slot of the generation in use, and that there is one. -/
  genSlot : Bool := false
  genRead : Bool := false
  /-- The update copies the running firmware (R458). -/
  fwCopy : Bool := false
  /-- Cause of a fallback that the next start reports (R467), and tides from X to the reset (R464). -/
  fallback : Option Nat := none
  pause : Option Nat := none
  /-- The self-tests that ROM runs before step 1 (R492), in MRAM. -/
  bist : Nat := 0
  /-- Tide at which a pending activation was accepted; tide X at which it began. -/
  actFrom : Option Nat := none
  actX : Option Nat := none
  /-- An OTP generation was programmed or retired since the last start (R461). -/
  otpChanged : Bool := false
  /-- The last hold-up test failed (R461). -/
  holdupFailed : Bool := false
  deriving DecidableEq, Repr

/-! ## Chain -/

/-- A frame that waits in the send queue of a chain link (R428): its type (Table 14.6), its bytes on the line, and the frame. -/
structure ChainTx where
  link : Nat
  type : Nat
  size : Nat
  frame : Out
  deriving DecidableEq, Repr

/-- Chain state beyond the object map. -/
structure ChainI where
  /-- Candidate upstream link, and the wave in which it was taken. -/
  cand : Option Nat := none
  candWave : Nat := 0
  /-- A JOIN is outstanding. -/
  joinOut : Bool := false
  /-- Links on which a beacon arrived in this tide. -/
  seen : List Nat := []
  /-- Latest beacon of each link, and the own tide number in which it arrived. -/
  last : Tab Beacon := []
  lastAt : Tab Nat := []
  /-- Consecutive missed beacons per link, and the tide of the latest miss. -/
  miss : Tab Nat := []
  missAt : Nat := 0
  /-- Tides listened without an acceptable beacon (R69). -/
  waited : Nat := 0
  /-- Orphan at the next boundary (R69, R70); the upstream was lost. -/
  orphanDue : Bool := false
  lostUp : Bool := false
  /-- The own cove is formed (R77). -/
  formed : Bool := false
  /-- Admitted since the last boundary: renumber there (R73). -/
  admitted : Bool := false
  /-- Last eight delay measurements per link in 2.5 ns (R430), and links held down. -/
  delays : Tab (List Int) := []
  heldDown : List Nat := []
  /-- Serials of admitted children by link. -/
  childId : Tab Nat := []
  /-- Trim of the timebase in ppm, and phase steps taken, in ticks (R430). -/
  trim : Int := 0
  phase : Int := 0
  /-- PROXY requests in hand: message number, hops the proxy itself travelled (R76). -/
  proxies : Tab Nat := []
  /-- Requests of TLS connections relayed into the chain: message number, connection (R446). -/
  relays : Tab Nat := []
  /-- Frames that wait for their links, in the order in which they were queued (R428). -/
  queue : List ChainTx := []
  /-- By link: how far into the present wave it is sending, in byte times of 4 ns (R425). -/
  clock : Tab Nat := []
  /-- MSG_ID of the next message (R426). -/
  msgId : Nat := 0
  /-- A candidate was taken in RUN: JOIN leaves at the end of its wave (R65, R66). -/
  joinDue : Bool := false
  deriving DecidableEq, Repr

/-! ## Allocation -/

/-- A demand curve: breakpoints (level, kW) (R86). -/
abbrev Curve := List (Nat × Int)

/-- What a parent keeps for a child position (R104 to R108). -/
structure ChildI where
  /-- Latest valid record, and the one received in this tide. -/
  cur : Option CurveRec := none
  fresh : Option CurveRec := none
  /-- Last grant sent, and tides since. -/
  lastGrant : Int := 0
  sinceGrant : Nat := 0
  deriving DecidableEq, Repr

/-- Allocation state beyond the object map. -/
structure AllocI where
  children : Tab ChildI := []
  /-- Last grant received (none: never granted), and one received in this tide. -/
  grant : Option Int := none
  fresh : Option Int := none
  /-- Consecutive tides on the asserting side, and on the released side, per limit input (R97). -/
  onSide : Tab Nat := []
  offSide : Tab Nat := []
  /-- The allocation work of the tide breached its fence (R112). -/
  late : Bool := false
  /-- ALLOCATED values of the connectors and grants of the children in the previous tide. -/
  prevAlloc : List Nat := []
  prevGrant : List Nat := []
  /-- The GRANT records and the CURVE record of the tide wait to be sent. -/
  grantsDue : Bool := false
  curveDue : Bool := false
  deriving DecidableEq, Repr

/-! ## Matrix and cabinets -/

/-- A move in progress beyond its object map (R130). -/
structure MoveI where
  /-- Target connector: of a bus move, or the connector of the bus a cabinet move goes to. -/
  conn : Option Nat := none
  /-- Destination: bus of a cabinet move, connector of a bus move. -/
  dest : Option Nat := none
  /-- Absolute wave at which the first phase begins. -/
  start : Nat := 0
  /-- Waves in the present phase, and consecutive waves in which its condition has held. -/
  waves : Nat := 0
  ok : Nat := 0
  /-- Slot of the cabinet move a bus move waits for. -/
  waitFor : Option Nat := none
  deriving DecidableEq, Repr

/-- A cabinet beyond its object map (R137 to R141, R516). -/
structure CabI where
  /-- SEQ of the last setpoint frame, and the last eight sent, newest first. -/
  seq : Nat := 0
  sent : List Nat := []
  /-- Consecutive waves without a valid status frame; one arrived in this wave. -/
  miss : Nat := 0
  got : Bool := false
  /-- Consecutive valid status frames at or below ZERO_I. -/
  zero : Nat := 0
  /-- The device itself has put the cabinet in fault. -/
  devFault : Bool := false
  /-- A lost cabinet shares in the division until this absolute wave, with this rating. -/
  hold : Nat := 0
  heldR : Nat := 0
  shareOut : Bool := false
  /-- The bus it stood on when it was lost; the groups of its bus that were cut while it stood there (R134). -/
  heldBus : Nat := 0xFF
  cutGroups : BitVec 16 := 0
  /-- Its last move ended since the last boundary. -/
  moved : Bool := false
  deriving DecidableEq, Repr

/-- Matrix state beyond the object map. -/
structure MatrixI where
  moves : Tab MoveI := []
  cabs : Tab CabI := []
  /-- Connectors whose session asks for a path, and whose path is to be released, ascending. -/
  paths : List Nat := []
  releases : List Nat := []
  /-- Consecutive waves for which a contactor has read open. -/
  open_ : Tab Nat := []
  /-- Groups that read cut, and groups whose weld check is outstanding (R134, R135). -/
  cut : BitVec 16 := 0
  check : BitVec 16 := 0
  deriving DecidableEq, Repr

/-! ## Sessions -/

/-- What the vehicle last sent (R161): currents in 0.1 A, powers in kW. -/
structure VehI where
  targetI : Int := 0
  maxChargeI : Nat := 0
  maxChargeP : Nat := 0
  maxDischargeI : Option Nat := none
  maxDischargeP : Option Nat := none
  deriving DecidableEq, Repr

/-- A session record (Table 5.8). -/
structure SessRec where
  connector : Nat
  flags : BitVec 8
  no : Nat
  startTime : Nat
  endTime : Nat := 0
  startTz : Int
  endTz : Int := 0
  startSync : Nat
  endSync : Nat := 0
  endReason : Nat := 0
  startImport : Nat
  startExport : Nat
  endImport : Nat := 0
  endExport : Nat := 0
  authSrc : Nat
  ident : List Byte
  lrVersion : Nat := 0
  peakI : Nat := 0
  evseId : List Byte
  fwSvn : Nat := 0
  keySlot : Nat := 0
  signature : List Byte := []
  lrDigest : Nat := 0
  deriving DecidableEq, Repr

/-- A connector's session beyond its object map (chapter 5). -/
structure ConnI where
  veh : VehI := {}
  /-- Vehicle link up; TLS connection up since its ClientHello; application protocol agreed. -/
  link : Bool := false
  tls : Bool := false
  app : Bool := false
  /-- The V2G session is open, its identifier, and whether it was suspended by SessionStopReq Pause. -/
  v2g : Bool := false
  sid : Nat := 0
  suspended : Bool := false
  /-- A paused session that ends because another SessionID arrived accepts none. -/
  quiet : Nat := 0
  /-- Authorisation: the answered setup offered PnC, EIM; the mode the vehicle chose; a held host grant; PnC passed;
  the identifier of the source. -/
  chosenPnc : Option Bool := none
  grant : Bool := false
  pncOk : Bool := false
  ident : List Byte := []
  token : Option Nat := none
  /-- Its prepayment record is complete: it has taken effect (R300). -/
  tokenDone : Bool := false
  /-- A record slot is reserved. -/
  reserved : Bool := false
  /-- Number of the open record. -/
  record : Option Nat := none
  /-- Consecutive tides: lock reads locked, proximity reads disconnected, voltage below and at or above 60 V. -/
  locked : Nat := 0
  proxGone : Nat := 0
  below : Nat := 0
  above : Nat := 0
  /-- Passing insulation tides, and whether the check has passed. -/
  iso : Nat := 0
  isoPass : Bool := false
  /-- Consecutive waves: voltage match, current at or below ZERO_I. -/
  match_ : Nat := 0
  matchOk : Bool := false
  zero : Nat := 0
  /-- END_REASON is set; the stop is a host stop. -/
  stopped : Bool := false
  hostStop : Bool := false
  /-- Wave and rank at which END_REASON was set (R159). -/
  stopWave : Nat := 0
  stopRank : Nat := 0
  /-- Direction that waits for its zero tide (R162). -/
  newDir : Option Nat := none
  /-- Largest |I_CMD| of the session. -/
  peak : Nat := 0
  /-- Voltage limit sent to the cabinets, 0.1 V. -/
  vLimit : Nat := 0
  /-- Tides in PAUSE with the path attached. -/
  held : Nat := 0
  /-- A paused session has been resumed by its SessionSetupReq (R157). -/
  resumed : Bool := false
  /-- The EIM AuthorizationReq has arrived and waits for its source. -/
  asked : Bool := false
  deriving DecidableEq, Repr

/-- Session state beyond the object map. -/
structure SessionI where
  conns : Tab ConnI := []
  /-- Session records held in the legal store, ascending by number. -/
  recs : List SessRec := []
  /-- Closed records that wait for their signature. -/
  unsigned : List Nat := []
  nextNo : Nat := 1
  deriving DecidableEq, Repr

/-! ## Drives and load switches -/

/-- A protected output beyond its object map (R212). The timers are the power die's own (R202): their expiry arrives as a
command. -/
structure OutI where
  /-- A retry is pending behind a thermal hold; a fault of the sample that set the hold, not yet taken: code and phase. -/
  retry : Bool := false
  fresh : Option (Nat × Nat) := none
  /-- Thermal conditions that hold, by code. -/
  hot : List Nat := []
  /-- The supply of a load-switch channel is low. -/
  low : Bool := false
  /-- Waves into the present PWM period of a channel, and the duty that the next period takes (R219). -/
  phase : Nat := 0
  duty : Option Nat := none
  /-- A fault recorded by the power die that the logic die has not read (R220). -/
  unread : Bool := false
  deriving DecidableEq, Repr

/-- A fraction of natural numbers, in lowest terms. -/
structure Frac where
  num : Nat := 0
  den : Nat := 1
  deriving DecidableEq, Repr

/-- A bridge beyond its object map (R203 to R206): output frequency in 0.1 Hz and angle in turns, exact; the present direction;
gates off for want of commands; the temperature band that the next PWM period takes. -/
structure BridgeI where
  f : Frac := {}
  theta : Frac := {}
  dir : Bool := false
  linkOff : Bool := false
  band : Nat := 1
  deriving DecidableEq, Repr

/-- Drive state beyond the object maps. -/
structure DriveI where
  ls : Tab OutI := []
  gd : Tab OutI := []
  bridges : Tab BridgeI := []
  /-- Power-die resets that the logic die has not read (R217). -/
  resets : Nat := 0
  /-- VLS_A (bit 0) and VLS_B (bit 1) have come up since the power die lost both; it has lost both. -/
  fed : BitVec 2 := 0
  down : Bool := false
  /-- VDRV has fallen below 8.5 V and not risen above 9.0 V (Table 7.1). -/
  vdrvLow : Bool := false
  deriving DecidableEq, Repr

/-! ## Safety -/

/-- Filter state of a SIN input (R339, R340). -/
structure SinI where
  /-- Consecutive equal unblanked samples of the value in `val`. -/
  val : Bool := false
  count : Nat := 0
  /-- The input read low in a wave of the present pulse. -/
  pulseLow : Bool := false
  deriving DecidableEq, Repr

/-- State of a function entry beyond its object map (R341, R342). -/
structure FnI where
  /-- Consecutive tides beyond, and within, the threshold (SF3). -/
  beyond : Nat := 0
  within : Nat := 0
  /-- AUX code outside the plausibility range. -/
  implausible : Bool := false
  /-- Waves for which the two channels have differed. -/
  differ : Nat := 0
  /-- Input fault 0x07 of the entry is present; it ends when both channels read high together. -/
  inputFault : Bool := false
  /-- A guard block of the group in this wave (SF5). -/
  guardEvent : Bool := false
  deriving DecidableEq, Repr

/-- A copy of a safety PDU that waits for its twin (R349). -/
structure CopyI where
  seq : Nat
  tide : Nat
  wave : Nat
  data : BitVec 64
  rest : Nat
  groupB : Bool
  at_ : Nat
  deriving DecidableEq, Repr

/-- State of a safe-data connection beyond its object map. -/
structure CnI where
  copy : Option CopyI := none
  lastTide : Nat := 0
  lastWave : Nat := 0
  delivered : Bool := false
  deriving DecidableEq, Repr

/-- Safety state beyond the object map: latches and the cut island. -/
structure SafetyI where
  /-- Latched causes: key cause × 4096 + index, value the channel mask. -/
  latched : Tab (BitVec 16) := []
  /-- Absolute wave of the latest latching. -/
  latchWave : Option Nat := none
  /-- The keys latched in that wave. -/
  latchNow : List Nat := []
  sins : Tab SinI := []
  fns : Tab FnI := []
  cns : Tab CnI := []
  /-- Waves for which SAFE_ACK has read high, filtered. -/
  ackHeld : Nat := 0
  /-- Readback counters per channel: high while off, low while on (R338). -/
  stuck : Tab Nat := []
  low : Tab Nat := []
  /-- Cut island: internal faults it latches, bit = code − 0x20. -/
  island : BitVec 6 := 0
  /-- The answer of the present wave-0 frame. -/
  answer : Option (BitVec 32) := none
  /-- The per-tide checks of the tide all passed. -/
  checksOk : Bool := true
  /-- Consecutive waves in which a link frame arrived (up to 4), and whether one arrived in this wave. -/
  frames : Nat := 0
  gotFrame : Bool := false
  /-- Consecutive waves without a link frame, and a tide has passed for which an answer is due (R335, R336). -/
  noFrame : Nat := 0
  hbDue : Bool := false
  /-- Producer sequence: safe-data bits of the own function entries are derived. The stored confirmation. -/
  confirmed : Option (BitVec 32) := none
  /-- A committed CONFIRM has been applied (R355). -/
  confirmDue : Bool := false
  /-- Tides since the last dark test. -/
  sinceDark : Nat := 0
  deriving DecidableEq, Repr

/-! ## Pair -/

/-- What a lighthouse keeps of one pair (R366, R80): the last record of each unit (0 home, 1 twin), the links they arrived
on, the units heard in this tide, missed tides, the named unit, the unit it grants, and tides heard starting. -/
structure LhPos where
  health : Tab HealthRec := []
  links : Tab Nat := []
  now : List Nat := []
  miss : Nat := 0
  flood : Nat := 0xFF
  grant : Option Nat := none
  starting : Tab Nat := []
  deriving DecidableEq, Repr

/-- Pair state beyond the object map. -/
structure PairI where
  /-- LIGHT: one arrived in this tide; one arrived in the previous tide (R365); the latest. -/
  lightNow : Bool := false
  lightLast : Bool := false
  light : Option LightRec := none
  /-- A mirror arrived in this tide; consecutive tides with a mirror, and that count when mirrors stopped; the latest. -/
  mirrorNow : Bool := false
  mirrorRun : Nat := 0
  mirrorRunBefore : Nat := 0
  mirror : Option Mirror := none
  /-- The partner's latest HEALTH record; one arrived in this tide. -/
  partner : Option HealthRec := none
  partnerNow : Bool := false
  /-- A grant or a yield notice was received: the cause code of LAST_CAUSE (R369). -/
  claimDue : Option Nat := none
  /-- A yield notice preceded the drop of the partner's FLOOD_OUT. -/
  noticed : Bool := false
  /-- Waves since the yield; waves since FLOOD_IN was asserted. -/
  yieldWaves : Nat := 0
  floodInWaves : Nat := 0
  /-- A yield is requested at the next boundary, with its cause. -/
  yieldDue : Option Nat := none
  /-- Pairs for which this device is the lighthouse, by pair identity. -/
  lh : Tab LhPos := []
  /-- Waves since FLOOD_IN was deasserted without a notice, for LAST_GAP. -/
  gap : Nat := 0
  /-- Sessions paused by a switch-over: tides awaiting resumption, by connector (R373). -/
  resume : Tab Nat := []
  deriving DecidableEq, Repr

/-! ## Metrology and billing -/

/-- A modulator input (R227, R228): integrators, differentiators, samples since its clock started, consecutive clipped
and unclipped samples, and the corrected samples of the last waves, newest first. -/
structure InI where
  i1 : BitVec 32 := 0
  i2 : BitVec 32 := 0
  i3 : BitVec 32 := 0
  c1 : BitVec 32 := 0
  c2 : BitVec 32 := 0
  c3 : BitVec 32 := 0
  seen : Nat := 0
  clips : Nat := 0
  good : Nat := 0
  /-- The latest sample is valid; it is overrange. -/
  valid : Bool := false
  overrange : Bool := false
  x : Int := 0
  xc : List Int := []
  deriving DecidableEq, Repr

/-- A DC point beyond its object map (R236). -/
structure DcI where
  cmp : Nat := 0
  diff : Int := 0
  low : Nat := 0
  beyond : Nat := 0
  within : Nat := 0
  splice : Bool := false
  deriving DecidableEq, Repr

/-- A line cycle of an AC point: its samples (voltages L1 to L3, currents L1 to L3, neutral, the base values of the three
currents, and 1 for an invalid sample), whether it closed without a crossing, and the latest interval between interpolated
crossings as a fraction. -/
structure Cycle where
  ys : List (List Int) := []
  noCross : Bool := false
  span : Option (Nat × Nat) := none
  deriving DecidableEq, Repr

/-- An AC point beyond its object map (R239 to R245). -/
structure AcI where
  cur : Cycle := {}
  /-- Cycles that have closed and wait for LINE_CYCLE_END, oldest first. -/
  closed : List Cycle := []
  /-- Reference phase, and whether its voltage has fallen below −5 % since the last crossing. -/
  ref : Option Nat := none
  below : Bool := false
  /-- A crossing came too early: the cycle closes at 800 samples. -/
  forced : Bool := false
  /-- Samples since the last crossing, and its interpolated place before its sample, as a fraction of a sample. -/
  since : Option (Nat × Nat × Nat) := none
  /-- The interval between the last two crossings in samples, as a fraction. -/
  period : Option (Nat × Nat) := none
  /-- RMS voltage per phase of the last cycle in mV, and κ per phase (R232). -/
  uRms : List Nat := [0, 0, 0]
  kappa : List Nat := [0, 0, 0]
  /-- Sum of the net powers and count of the valid samples of the tide (R245). -/
  sumP : Int := 0
  count : Nat := 0
  /-- The tide before had a valid sample: P_TIDE is valid. -/
  tideOk : Bool := false
  beyond : Nat := 0
  within : Nat := 0
  neutral : Bool := false
  deriving DecidableEq, Repr

/-- A pulse output (R255): level, and waves since it last changed. -/
structure PulseI where
  high : Bool := false
  since : Nat := 0
  deriving DecidableEq, Repr

/-- Kinds of MRAM record writes, by their order of precedence (R328). -/
inductive WriteKind where
  | ebb | shutdown | lowWater | checkpoint | boundary | other
  deriving DecidableEq, Repr

/-- A boundary record (Table 10.2) with the steps still to be done, and what those steps take beside the record. -/
structure BndRec where
  plan : Nat
  adj : Nat
  seq : Nat
  tide : Nat
  rtcOld : Nat
  rtcNew : Nat
  rateOld : Nat
  rateNew : Nat
  mode : Nat
  ivStatus : Nat
  ivEnd : Nat
  periodEnd : Nat
  /-- ACC at the close and IV_FLAGS, by key point × 16 + register and by point. -/
  acc : Tab Nat
  flags : Tab Nat
  /-- The journal slot, the marks written in it so far, and STEP_DONE of the last of them. -/
  slot : Nat
  marks : Nat
  done : Nat := 3
  /-- Times in ms at which the interval and the sub-interval close; a step or a gap splits the sub-interval. -/
  closeAt : Nat
  subAt : Nat
  subSplit : Bool
  /-- The no-data span from the close: its end, and whether a time step caused it. -/
  gap : Option Nat
  stepGap : Bool
  /-- Ends of the periods that step 6 closes. -/
  ends : List Nat
  /-- Start of the interval and the sub-interval that step 8 opens, and the mode it opens them in. -/
  startNew : Nat
  subNew : Nat
  modeNew : Nat
  /-- Day type and season that step 7 shows. -/
  dayType : Nat
  season : Nat
  /-- The interval that step 8 opens starts before HWM (R280). -/
  repeated : Bool
  deriving DecidableEq, Repr

/-- The prepayment record (R305): base and marks of the window, balance, and per connector the credit, its source, and
the IMP_DC reading up to which it is charged. -/
structure PrepRec where
  base : Nat := 0
  map : List Nat := []
  balance : Nat := 0
  credit : List Nat := []
  src : List Nat := []
  charged : Tab Nat := []
  deriving DecidableEq, Repr

/-- What an MRAM record write stores (R328): bytes at an address; a boundary record (Table 10.2); the prepayment record with the
tokens that take effect with it, by connector (R300); a settings generation and its slot; the fields of a tamper class. -/
inductive StoreRec where
  | bytes (addr : Nat) (bs : List Byte)
  | boundary (q : BndRec)
  | prep (tokens : List (Nat × Nat))
  | settings (slot : Bool) (g : SettingsGen)
  | tamper (c : Nat)
  deriving DecidableEq, Repr

/-- An MRAM record write (R328): its precedence, what it stores, and the absolute wave in which it was asked for. -/
structure MWrite where
  kind : WriteKind
  what : StoreRec
  asked : Nat
  deriving DecidableEq, Repr

/-- Metrology state beyond the object map. -/
structure MeterI where
  ins : Tab InI := []
  dc : Tab DcI := []
  ac : Tab AcI := []
  pulses : Tab PulseI := []
  /-- SEQUENCE of the last record asked for, and the greatest of a complete record. -/
  seq : Nat := 0
  seqDone : Nat := 0
  /-- Absolute wave in which the ebb warning was latched; its source; snapshots taken; waves EBB_N has read high. -/
  ebb : Option Nat := none
  ebbSource : Nat := 0
  snaps : Nat := 0
  /-- An ebb snapshot follows the last sample of the present wave. -/
  snapDue : Bool := false
  /-- SEQUENCE of ebb record 1 of the last warning until it is complete, and the wave of the assertion. -/
  firstEbb : Option (Nat × Nat) := none
  highFor : Nat := 0
  /-- Checkpoints resume at the next boundary (Table 8.8). -/
  resume : Bool := false
  /-- The record write in progress, and those that wait. -/
  writing : Option MWrite := none
  waiting : List MWrite := []
  /-- Latest METER record of each child link, and tides since. -/
  child : Tab MeterRec := []
  childAge : Tab Nat := []
  deriving DecidableEq, Repr

/-- What a slot of a billing record carries beside its content (R292, R322): SEQUENCE, BTIDE, BSTEP and which of its two slots
holds it. -/
structure RecHead where
  seq : Nat
  btide : Nat
  bstep : Nat
  slot : Nat
  deriving DecidableEq, Repr

/-- Billing state beyond the object maps, kept in the legal store. -/
structure BillI where
  /-- Intervals and a period are open. -/
  open_ : Bool := false
  ivStart : Nat := 0
  ivEnd : Nat := 0
  subStart : Nat := 0
  subEnd : Nat := 0
  /-- Demand mode of the open window. -/
  mode : Nat := 0
  /-- Opening readings of the open interval, and the readings at the last sub-interval boundaries, newest first. -/
  openRead : Tab Nat := []
  subs : List (Tab Nat) := []
  /-- The window holds a split or no-data interval. -/
  spoilt : Bool := false
  /-- SEQUENCE of the last billing record, and the MARK_SEQ of the mark in force. -/
  seq : Nat := 0
  /-- Boundary records whose steps are not done, oldest first; the journal slot of the newest. -/
  journal : List BndRec := []
  slot : Nat := 1
  /-- The heads of the billing records of Table 9.3: 0 demand, 1 open period, 2 interval-open, 3 period history, 4 prepayment,
  16 + c tamper class c. -/
  heads : Tab RecHead := []
  /-- The tamper records as the legal store holds them: the read-only fields of a class in the order of Table 9.11. -/
  tampers : Tab (List Nat) := []
  /-- What the ledge domain keeps of a TAMP input while the firmware does not run (R295): count, first and last time. -/
  ledge : Tab (Nat × Nat × Nat) := []
  /-- Slew amount not yet applied, in ns. -/
  slewNs : Nat := 0
  /-- HWM before the time of the last tide was counted (R280). -/
  hwmWas : Nat := 0
  /-- RTC at the moment the SET write was accepted, and a SET_GO write is pending (R271). -/
  setAt : Nat := 0
  /-- Token sessions: IMP_DC reading charged up to, by connector (R304). -/
  charged : Tab Nat := []
  /-- The prepayment record last written. -/
  prep : PrepRec := {}
  /-- Keypad entries: digits so far, and tides since the last key, by connector (R301). -/
  keys : Tab (List Nat) := []
  keyAge : Tab Nat := []
  /-- Entries submitted in the present wave, by connector (R301). -/
  entries : Tab (List Nat) := []
  /-- Connectors whose keypad is locked (R302). -/
  locked : List Nat := []
  deriving DecidableEq, Repr

/-! ## Key vault and OTP -/

/-- A key as the vault holds it (Table 13.10), with its material as a number and its public key. -/
structure KeyRec where
  slot : Nat
  type : Nat
  usage : Nat
  limit : Nat
  survive : Bool
  ledge : Bool
  anchor : Bool
  state : Nat := 1
  origin : Nat
  count : Nat
  parent : Nat := 511
  depth : Nat := 0
  cause : Nat := 0
  tag : Nat
  parentTag : Nat := 0
  created : Nat
  uses : Nat := 0
  mat : Nat := 0
  pub : List Byte := []
  deriving DecidableEq, Repr

/-- A vault store area (R391, R393): its MEAS_TAG, its keys, whether it holds a hand-over blob, and the
revocation note beside the blob. The spec gives no layout of an entry's content. -/
structure Area where
  meas : Option Nat := none
  keys : List KeyRec := []
  blob : Bool := false
  notes : List Nat := []
  /-- The ledge-bound part cannot be read any more (R394). -/
  ledgeLost : Bool := false
  deriving DecidableEq, Repr

/-- A vault operation accepted and not yet delivered (R381): its slot, the material and tag of the key it was accepted with, the
session record it signs if it signs one, whether it has failed, and whether it took its key's counter to 0. -/
structure VaultOp where
  slot : Nat
  mat : Nat := 0
  tag : Nat := 0
  record : Option Nat
  /-- The digest it signs. -/
  digest : Nat := 0
  failed : Bool := false
  last : Bool := false
  /-- The fence aborted it, and it has not started again (R35). -/
  aborted : Bool := false
  deriving DecidableEq, Repr

/-- Vault state beyond the object map. -/
structure VaultI where
  /-- Material and public key of each slot. -/
  mat : Tab Nat := []
  pub : Tab (List Byte) := []
  /-- Slots whose key became invalid or erased since the last tide boundary (R383). -/
  gone : List Nat := []
  nextTag : Nat := 1
  denyDue : Option (List Nat) := none
  area0 : Area := {}
  area1 : Area := {}
  ops : List VaultOp := []
  /-- Signatures delivered for session records, by number; empty = none was delivered (R332). -/
  signed : Tab (List Byte) := []
  /-- Ledge share, device root secret, attestation secrets by OWNER generation. -/
  share : Nat := 0
  drs : Nat := 0
  att : Tab Nat := []
  /-- Boot measurement of the previous start (Table 13.4). -/
  lastM : Option Nat := none
  /-- Internal keys of slots 1 and 7: service root (R389). -/
  svc : Nat := 0
  deriving DecidableEq, Repr

/-- OTP programming in progress: block (1–5), generation, bytes of the generation, and a sealed secret. -/
structure OtpProg where
  block : Nat
  gen : Nat
  bytes : List Byte
  sealedMat : Option Nat
  deriving DecidableEq, Repr

/-- OTP state beyond the object map. -/
structure OtpI where
  prog : Option OtpProg := none
  /-- Active generation of each block since the last start (R397). -/
  active : Tab Nat := []
  /-- A life-cycle change in progress: its target and the serial of the command. -/
  change : Option (Nat × Nat) := none
  deriving DecidableEq, Repr

/-! ## Commands -/

/-- One identifier an issuer has used: identifier, RESULT, APPLY_TIDE (R444). -/
structure WindowEntry where
  id : Nat
  result : Nat
  apply : Option Nat
  deriving DecidableEq, Repr

/-- A request waiting in the queue of 64 (R447): issuer, identifier, operation. -/
structure Queued where
  kid : BitVec 64
  id : Nat
  op : Nat
  deriving DecidableEq, Repr

/-- A value waiting for a boundary: the field's word address, lowest bit, and its value. -/
structure PendingField where
  addr : Nat
  lo : Nat
  value : Nat
  deriving DecidableEq, Repr

/-- A staged field, with its target device when it is not this one (R452). -/
structure Staged where
  f : PendingField
  target : Option ChainAddr
  deriving DecidableEq, Repr

/-- A subscription (R453). -/
structure Sub where
  num : Nat
  conn : Nat
  period : Nat
  ranges : List (Nat × Nat)
  blocks : BitVec 32
  deriving DecidableEq, Repr

/-- A message that waits for its connection. -/
structure Msg where
  conn : Nat
  words : List Nat
  deriving DecidableEq, Repr

/-- A target of a cove-wide commit (R452). -/
structure CoveTarget where
  addr : ChainAddr
  serial : BitVec 128
  ready : Bool
  acked : Bool
  error : Nat
  deriving DecidableEq, Repr

/-- Command service state beyond the object map. -/
structure CommandI where
  queue : List Queued := []
  /-- Windows by issuer entry: identifiers held, ascending. -/
  windows : Tab (List WindowEntry) := []
  /-- Accepted RI writes, in order of acceptance. -/
  ri : List PendingField := []
  staged : List Staged := []
  /-- The transaction was opened by a PREPARE (R452). -/
  prepared : Bool := false
  /-- Tide at which a cove-wide transaction is to be applied; none: the next boundary. -/
  applyAt : Option Nat := none
  /-- The COMMIT that a cove head has yet to answer, and its issuer entry. -/
  coveReply : Option (Env × Nat) := none
  coveTargets : List CoveTarget := []
  coveN : Nat := 0
  subs : List Sub := []
  msgs : List Msg := []
  overflow : Bool := false
  nextTxn : Nat := 1
  deriving DecidableEq, Repr

/-- Levels of pins that no object map shows. -/
structure Pins where
  /-- REFCLK runs. -/
  refclk : Bool := false
  /-- EBB_N asserted. -/
  ebb : Bool := false
  /-- RESET_N asserted. -/
  resetN : Bool := false
  /-- A monitored supply is out of range, or a hard thermal shutdown holds the die. -/
  supplyOut : Bool := false
  hotHold : Bool := false
  deriving DecidableEq, Repr

/-! ## Loops and cable cooling -/

/-- The inputs an evaluation latched (R173): the measured value, none while invalid; the reference; the feed-forward
value; and whether the evaluation is shed. -/
structure LoopIn where
  y : Option Int
  r : Int
  ff : Int
  shed : Bool
  deriving DecidableEq, Repr

/-- A row of a capture: tide and wave, and the four signals. -/
structure CapRow where
  tide : Nat
  wave : Nat
  vals : List (BitVec 32)
  deriving DecidableEq, Repr

/-- A loop instance beyond its object map (R176 to R191). -/
structure LoopI where
  latched : Option LoopIn := none
  /-- MODE was written at a boundary; the mode the first evaluation takes. -/
  wrote : Bool := false
  turn : Option Nat := none
  /-- A restart is due; gains changed; u_prev is OUT_INIT. -/
  restart : Bool := false
  gain : Bool := false
  uInit : Bool := true
  dqPrev : BitVec 32 := 0
  anchor : Int := 0
  /-- I_eff at the last evaluation (R179). -/
  lim : Int := 0
  /-- MANUAL was entered without a measured value: the plant model is set at the next evaluation (R183). -/
  entry : Bool := false
  /-- Plant model: y0, u0 and the output history, newest first. -/
  y0 : BitVec 32 := 0
  u0 : Int := 0
  hist : List Int := []
  /-- Consecutive invalid evaluations. -/
  bad : Nat := 0
  /-- Supervision counts, whether the combined condition is true, and the trip that is due with its cause. -/
  plaus : Nat := 0
  follow : Nat := 0
  sup : Bool := false
  supDue : Option Nat := none
  /-- Injection: sample counter, phase, shift register. -/
  k : Nat := 0
  phi : BitVec 32 := 0
  prbs : Nat := 0
  /-- Capture: the bank held, evaluations since the last sample, rows kept while a ring, newest first. -/
  bank : Option Nat := none
  skip : Nat := 0
  ring : List CapRow := []
  deriving DecidableEq, Repr

/-- A cable model beyond its object map (R192 to R196). -/
structure CableI where
  tc : BitVec 32 := 0
  tw : BitVec 32 := 0
  tj : BitVec 32 := 0
  deriving DecidableEq, Repr

/-- Loop and cooling state beyond the object maps. -/
structure LoopsI where
  loops : Tab LoopI := []
  cables : Tab CableI := []
  /-- Circuits whose pump loop was in control, and whose fan loop was tripped, at the last boundary. -/
  pumpOk : List Nat := []
  fanTrip : List Nat := []
  /-- The invalid inputs of each cable as last seen, and the cables whose headroom the next boundary sets to 0 (R195). -/
  sensor : Tab Nat := []
  zeroDue : List Nat := []
  deriving DecidableEq, Repr

/-! ## Links -/

/-- A learned forwarding entry (R408): VLAN, address, port, and the wave with which the tide began in which it was last seen. -/
structure FdbEntry where
  vid : Nat
  mac : Nat
  port : Nat
  seen : Nat
  deriving DecidableEq, Repr

/-- A frame queued at an egress port of the switch (R409 to R412): class, addresses, VLAN, length, when it was queued
(absolute wave and tick), whether it has been counted late, and what follows the addresses and the tag. -/
structure TsnQ where
  port : Nat
  cls : Nat
  dst : Nat
  src : Nat
  vid : Nat
  len : Nat
  wave : Nat
  tick : Nat
  late : Bool := false
  data : List Byte := []
  deriving DecidableEq, Repr

/-- Domain 0 of 802.1AS (R413, R414): slave port, tides since its last valid Sync, mapping reported, offset in ns and its
largest magnitude in the tide. -/
structure AsI where
  port : Option Nat := none
  age : Nat := 0
  mapping : Bool := false
  offset : Int := 0
  worst : Nat := 0
  deriving DecidableEq, Repr

/-- A mailbox frame with the absolute wave in which it was queued, and its consecutive acknowledge errors. -/
structure CanTx where
  box : CanBox
  wave : Nat
  fails : Nat := 0
  deriving DecidableEq, Repr

/-- A CAN controller beyond its object map (R420 to R424). -/
structure CanI where
  boxes : List CanTx := []
  /-- Tides since the last probe. -/
  probe : Nat := 0
  /-- After bus-off: 128 × 11 recessive bits have passed; a restart is requested. -/
  recovered : Bool := false
  restart : Bool := false
  /-- Rate detection: candidate, tides there, good frames in a row, one of them with BRS. -/
  cand : Nat := 0
  dwell : Nat := 0
  run : Nat := 0
  brs : Bool := false
  /-- Ring entries not read; a frame was dropped before the next entry. -/
  fill : Nat := 0
  dropped : Bool := false
  deriving DecidableEq, Repr

/-- A SENT input beyond its object map: tick of the previous frame, absolute wave of the last valid one. -/
structure SentI where
  tick : Option Nat := none
  last : Nat := 0
  deriving DecidableEq, Repr

/-- Link state beyond the object maps. -/
structure LinksI where
  fdb : List FdbEntry := []
  tsn : List TsnQ := []
  /-- Present entry of the gate control lists. -/
  gate : Tab Nat := []
  as : AsI := {}
  /-- Vehicle links: tides since the last valid frame. -/
  vehicle : Tab Nat := []
  /-- Peripheral nodes: tides since the last valid frame, by port × 16 + node. -/
  nodes : Tab Nat := []
  /-- SEQ of the last accepted KEY frame, by connector (R418). -/
  keySeq : Tab Nat := []
  can : Tab CanI := []
  /-- Data of the shadow buffers, by controller × 64 + shadow. -/
  shadows : Tab (List Byte) := []
  sent : Tab SentI := []
  deriving DecidableEq, Repr

/-! ## Temperature (R478 to R486) -/

/-- A managed sensor: its last conversion and whether that was good, good conversions in a row since it failed, tides in a
row more than 10 K from every limit, and whether it was the hottest logic-die sensor at its last good conversion. -/
structure SensorI where
  last : Option Int := none
  good : Nat := 0
  calm : Nat := 0
  hottest : Bool := false
  deriving DecidableEq, Repr

/-- Thermal state beyond the object map: the sensors; TJ_MAX of the last tides, newest first; consecutive tides below the
exit threshold of the present state; a band rise whose parameters are still to be switched, with the absolute wave in which
they are; low water begins at the next boundary; its save record has been written; tides since the last store test, and
whether the store test and the ride-through test last passed. -/
structure ThermI where
  sensors : Tab SensorI := []
  history : List Int := []
  cool : Nat := 0
  /-- TJ_MAX has stood at that threshold or above in the present tide. -/
  warm : Bool := false
  rise : Option (Nat × Nat) := none
  lowDue : Bool := false
  saved : Bool := false
  holdAge : Nat := 0
  storeOk : Bool := true
  rideOk : Bool := true
  deriving DecidableEq, Repr

/-! ## The whole -/

/-- The state of the block. -/
structure State where
  /-- The register file: every field of an object map that differs from its default, by key (R8, R10). -/
  regs : Tab (BitVec 32) := []
  /-- Near SRAM, far SRAM and MRAM bytes that are not zero, by fabric address (R17). -/
  mem : List Host.Cell := []
  /-- Everything driven outward, oldest first. -/
  out : List Out := []
  /-- The model's own counter of free values: it is no state of the spec. -/
  free : Nat := 0
  /-- The model's own count of the waves passed, by which it measures spans of waves: it is no state of the spec. -/
  waves : Nat := 0
  phase : Phase := .reset
  pins : Pins := {}
  fabric : FabricI := {}
  store : TideStore := {}
  start : StartI := {}
  chain : ChainI := {}
  alloc : AllocI := {}
  safety : SafetyI := {}
  matrix : MatrixI := {}
  session : SessionI := {}
  drive : DriveI := {}
  /-- The latest samples. -/
  inp : WaveIn := {}
  pair : PairI := {}
  command : CommandI := {}
  vault : VaultI := {}
  meter : MeterI := {}
  bill : BillI := {}
  otp : OtpI := {}
  loop : LoopsI := {}
  links : LinksI := {}
  therm : ThermI := {}
  /-- Commands that wait, first in, first out. -/
  pending : List Instr := []
  deriving DecidableEq, Repr

/-- The block right after reset: the logic die held in reset, OTP blank, memories and tables empty, every field of an
object map at its default. -/
def State.reset : State := {}

end Sys2Proof.Machine
end

