-- ==== Sys2Proof/Machine/Ops.lean ====
section
/-! DEFINITION. The named operations over registers, memory, time and outputs that every meaning uses. -/
namespace Sys2Proof.Machine

/-! ## Registers -/

/-- Read a field of the register file (R10: the default where nothing set it). -/
def regGet (t : Tab (BitVec 32)) (f : Fld) (n i j : Nat) : Nat :=
  match Tab.find t (f.key n i j) with
  | some v => v.toNat
  | none => f.default n

/-- Write a field, keeping the register file canonical: a field at its default is not listed. -/
def regSet (t : Tab (BitVec 32)) (f : Fld) (v n i j : Nat) : Tab (BitVec 32) :=
  let x := v % 2 ^ f.w
  if x = f.default n then Tab.del t (f.key n i j) else Tab.put t (f.key n i j) (BitVec.ofNat 32 x)

/-- The value of a field. -/
def State.r (s : State) (f : Fld) (n : Nat := 0) (i : Nat := 0) (j : Nat := 0) : Nat := regGet s.regs f n i j

/-- The value of a field as a two's-complement integer. -/
def State.ri (s : State) (f : Fld) (n : Nat := 0) (i : Nat := 0) (j : Nat := 0) : Int := signedOf f.w (s.r f n i j)

/-- A one-bit field. -/
def State.rb (s : State) (f : Fld) (n : Nat := 0) (i : Nat := 0) (j : Nat := 0) : Bool := decide (s.r f n i j ≠ 0)

/-- Write a field; the value is taken modulo the field's width. -/
def State.w (s : State) (f : Fld) (v : Nat) (n : Nat := 0) (i : Nat := 0) (j : Nat := 0) : State :=
  { s with regs := regSet s.regs f v n i j }

/-- Write a two's-complement value. -/
def State.wi (s : State) (f : Fld) (v : Int) (n : Nat := 0) (i : Nat := 0) (j : Nat := 0) : State :=
  s.w f (unsignedOf f.w v) n i j

/-- Write a one-bit field. -/
def State.wb (s : State) (f : Fld) (v : Bool) (n : Nat := 0) (i : Nat := 0) (j : Nat := 0) : State :=
  s.w f v.toNat n i j

/-- Add to a counter, which wraps. -/
def State.add (s : State) (f : Fld) (d : Nat) (n : Nat := 0) (i : Nat := 0) (j : Nat := 0) : State :=
  s.w f (s.r f n i j + d) n i j

/-- Count one in a counter, which wraps. -/
def State.inc (s : State) (f : Fld) (n : Nat := 0) (i : Nat := 0) (j : Nat := 0) : State := s.add f 1 n i j

/-- Count one in a saturating counter. -/
def State.incSat (s : State) (f : Fld) (n : Nat := 0) (i : Nat := 0) (j : Nat := 0) : State :=
  s.w f (min (s.r f n i j + 1) (2 ^ f.w - 1)) n i j

/-- Take one off a counter that stops at 0. -/
def State.dec (s : State) (f : Fld) (n : Nat := 0) (i : Nat := 0) (j : Nat := 0) : State :=
  s.w f (s.r f n i j - 1) n i j

/-- A 64-bit value held in two words. -/
def State.r64 (s : State) (lo hi : Fld) (n : Nat := 0) (i : Nat := 0) (j : Nat := 0) : Nat :=
  s.r hi n i j * 4294967296 + s.r lo n i j

/-- Write a 64-bit value into two words. -/
def State.w64 (s : State) (lo hi : Fld) (v : Nat) (n : Nat := 0) (i : Nat := 0) (j : Nat := 0) : State :=
  (s.w lo (v % 4294967296) n i j).w hi (v / 4294967296 % 4294967296) n i j

/-- A 128-bit value held in the four words of a repeated field, least significant first. -/
def State.r128 (s : State) (f : Fld) (n : Nat := 0) : Nat :=
  s.r f n 0 + s.r f n 1 * 2 ^ 32 + s.r f n 2 * 2 ^ 64 + s.r f n 3 * 2 ^ 96

/-- Bit of a value. -/
def bit (v k : Nat) : Bool := v.testBit k

/-- Set or clear a bit of a value. -/
def setBit (v k : Nat) (b : Bool) : Nat := if v.testBit k = b then v else v ^^^ (2 ^ k)

/-- A bit of a field. -/
def State.rbit (s : State) (f : Fld) (k : Nat) (n : Nat := 0) (i : Nat := 0) (j : Nat := 0) : Bool := bit (s.r f n i j) k

/-- Set or clear a bit of a field. -/
def State.wbit (s : State) (f : Fld) (k : Nat) (b : Bool) (n : Nat := 0) (i : Nat := 0) (j : Nat := 0) : State :=
  s.w f (setBit (s.r f n i j) k b) n i j

/-! ## Updates of the parts of the state -/

/-- Update the part `fabric`. -/
def State.modFabric (s : State) (g : FabricI → FabricI) : State := { s with fabric := g s.fabric }
/-- Update the part `store`. -/
def State.modStore (s : State) (g : TideStore → TideStore) : State := { s with store := g s.store }
/-- Update the part `start`. -/
def State.modStart (s : State) (g : StartI → StartI) : State := { s with start := g s.start }
/-- Update the part `chain`. -/
def State.modChain (s : State) (g : ChainI → ChainI) : State := { s with chain := g s.chain }
/-- Update the part `alloc`. -/
def State.modAlloc (s : State) (g : AllocI → AllocI) : State := { s with alloc := g s.alloc }
/-- Update the part `safety`. -/
def State.modSafety (s : State) (g : SafetyI → SafetyI) : State := { s with safety := g s.safety }
/-- Update the part `matrix`. -/
def State.modMatrix (s : State) (g : MatrixI → MatrixI) : State := { s with matrix := g s.matrix }
/-- Update the part `session`. -/
def State.modSession (s : State) (g : SessionI → SessionI) : State := { s with session := g s.session }
/-- Update the part `drive`. -/
def State.modDrive (s : State) (g : DriveI → DriveI) : State := { s with drive := g s.drive }
/-- Update the part `pair`. -/
def State.modPair (s : State) (g : PairI → PairI) : State := { s with pair := g s.pair }
/-- Update the part `command`. -/
def State.modCommand (s : State) (g : CommandI → CommandI) : State := { s with command := g s.command }
/-- Update the part `vault`. -/
def State.modVault (s : State) (g : VaultI → VaultI) : State := { s with vault := g s.vault }
/-- Update the part `otp`. -/
def State.modOtp (s : State) (g : OtpI → OtpI) : State := { s with otp := g s.otp }
/-- Update the part `meter`. -/
def State.modMeter (s : State) (g : MeterI → MeterI) : State := { s with meter := g s.meter }
/-- Update the part `bill`. -/
def State.modBill (s : State) (g : BillI → BillI) : State := { s with bill := g s.bill }
/-- Update the part `loop`. -/
def State.modLoop (s : State) (g : LoopsI → LoopsI) : State := { s with loop := g s.loop }
/-- Update the part `links`. -/
def State.modLinks (s : State) (g : LinksI → LinksI) : State := { s with links := g s.links }
/-- Update the part `therm`. -/
def State.modTherm (s : State) (g : ThermI → ThermI) : State := { s with therm := g s.therm }
/-- Update the part `pins`. -/
def State.modPins (s : State) (g : Pins → Pins) : State := { s with pins := g s.pins }

/-! ## Loops over indices -/

/-- Apply a step for every index below `k`, in ascending order. -/
def State.each (s : State) : Nat → (Nat → State → State) → State
  | 0, _ => s
  | k + 1, f => f k (State.each s k f)

/-- Apply a step for every element of a list, in order. -/
def State.over {α : Type} (s : State) (l : List α) (f : α → State → State) : State :=
  l.foldl (fun s a => f a s) s

/-- Apply a step when a condition holds. -/
def State.when (s : State) (c : Bool) (f : State → State) : State := if c then f s else s

/-! ## Memory -/

/-- The byte at an address; an unlisted byte reads 0x00. -/
def memRead : List Host.Cell → Nat → Byte
  | [], _ => 0
  | (a', b) :: m, a => if a = a' then b else memRead m a

/-- Remove the byte at an address. -/
def memDel : List Host.Cell → Nat → List Host.Cell
  | [], _ => []
  | (a', b) :: m, a => if a = a' then memDel m a else (a', b) :: memDel m a

/-- Insert a nonzero byte at its place. -/
def memIns : List Host.Cell → Nat → Byte → List Host.Cell
  | [], a, b => [(a, b)]
  | (a', b') :: m, a, b =>
    if a = a' then (a, b) :: m
    else if a < a' then (a, b) :: (a', b') :: m
    else (a', b') :: memIns m a b

/-- Write a byte, keeping addresses rising and no listed byte zero. -/
def memWrite (m : List Host.Cell) (a : Nat) (b : Byte) : List Host.Cell :=
  if b = 0 then memDel m a else memIns m a b

/-- Write bytes from an address upward. -/
def memWriteAll : List Host.Cell → Nat → List Byte → List Host.Cell
  | m, _, [] => m
  | m, a, b :: bs => memWriteAll (memWrite m a b) (a + 1) bs

/-- The bytes from an address upward. -/
def memReadAll (m : List Host.Cell) (a : Nat) : Nat → List Byte
  | 0 => []
  | k + 1 => memRead m a :: memReadAll m (a + 1) k

/-- The canonical form of a memory: addresses strictly rising, no listed byte zero. -/
def Memory.wf : List Host.Cell → Bool
  | [] => true
  | [(_, b)] => decide (b ≠ 0)
  | (a, b) :: (a', b') :: m => decide (b ≠ 0) && decide (a < a') && Memory.wf ((a', b') :: m)

/-- Little-endian bytes of a value (R7). -/
def leBytes : Nat → Nat → List Byte
  | 0, _ => []
  | k + 1, v => BitVec.ofNat 8 v :: leBytes k (v / 256)

/-- The value of little-endian bytes. -/
def ofLe : List Byte → Nat
  | [] => 0
  | b :: bs => b.toNat + 256 * ofLe bs

/-- Write bytes to the fabric memory. -/
def State.mwrite (s : State) (a : Nat) (bs : List Byte) : State := { s with mem := memWriteAll s.mem a bs }

/-- Read bytes of the fabric memory. -/
def State.mread (s : State) (a k : Nat) : List Byte := memReadAll s.mem a k

/-- A little-endian word of the fabric memory. -/
def State.mword (s : State) (a k : Nat) : Nat := ofLe (s.mread a k)

/-! ## CRC (R337 and the CRC-32C of the records) -/

/-- One byte of a reflected CRC-32 with the reversed polynomial `p`, bit by bit. -/
def crcBitsR (p : BitVec 32) : Nat → BitVec 32 → BitVec 32
  | 0, c => c
  | k + 1, c => crcBitsR p k (if c.getLsbD 0 then (c >>> 1) ^^^ p else c >>> 1)

/-- CRC-32C (Castagnoli): reflected, initial value and final exclusive-or all ones. -/
def crc32c (bs : List Byte) : BitVec 32 :=
  (bs.foldl (fun c b => crcBitsR 0x82F63B78#32 8 (c ^^^ b.setWidth 32)) 0xFFFFFFFF#32) ^^^ 0xFFFFFFFF#32

/-- One byte of a non-reflected CRC-32, bit by bit. -/
def crcBitsN (p : BitVec 32) : Nat → BitVec 32 → BitVec 32
  | 0, c => c
  | k + 1, c => crcBitsN p k (if c.getLsbD 31 then (c <<< 1) ^^^ p else c <<< 1)

/-- CRC-32/Koopman with the parameters of R337. -/
def crcKoopman (bs : List Byte) : BitVec 32 :=
  (bs.foldl (fun c b => crcBitsN 0x741B8CD7#32 8 (c ^^^ BitVec.shiftLeft (b.setWidth 32) 24)) 0xFFFFFFFF#32) ^^^ 0xFFFFFFFF#32

/-! ## Time -/

/-- The tide number (R14). -/
def State.tide (s : State) : Nat := s.r64 Reg.TIDE_NUMBER_LO Reg.TIDE_NUMBER_HI

/-- The wave index (R13). -/
def State.wave (s : State) : Nat := s.r Reg.TIDE_WAVE

/-- The number of the present wave, counted from power-on and apart from the tide numbering, which may jump (R73). -/
def State.now (s : State) : Nat := s.waves

/-- The wave with which the present tide began, in the count of `now`. -/
def State.tideStart (s : State) : Nat := s.waves - s.wave

/-- Tides from a mark to the present tide. -/
def State.tidesSince (s : State) (m : Nat) : Nat := (s.tideStart - m) / 400

/-- The device runs: step 8 of Table 2.4. -/
def State.running (s : State) : Bool := decide (s.phase = .run)

/-- The firmware runs: from step 6 on, in JOIN and RUN. -/
def State.alive (s : State) : Bool := decide (s.phase = .run ∨ s.phase = .join)

/-- The timebase passes a wave boundary: REFCLK runs, and the logic die is past its start (R13, R16). -/
def State.clocked (s : State) : Bool :=
  s.pins.refclk && decide (s.phase = .join ∨ s.phase = .run ∨ s.phase = .strand ∨ s.phase = .retired)

/-! ## Outputs and free values -/

/-- Drive something outward. -/
def State.emit (s : State) (o : Out) : State := { s with out := s.out ++ [o] }

/-- A fresh free word. -/
def State.freeWord (s : State) : BitVec 32 × State := (Config.freeWord s.free, { s with free := s.free + 1 })

/-- A fresh free block. -/
def State.freeBlock (s : State) : BitVec 384 × State := (Config.freeBlock s.free, { s with free := s.free + 1 })

/-- An ECDSA P-384 signature by a private scalar over a digest: 96 bytes, r ‖ s. -/
def State.signBy (s : State) (mat digest : Nat) : List Byte × State :=
  (leBytes 96 (Config.p384Sign mat digest s.free).toNat, { s with free := s.free + 1 })

/-- A signature by the key of a vault slot. -/
def State.signWith (s : State) (slot digest : Nat) : List Byte × State := s.signBy (Tab.getD s.vault.mat slot 0) digest

/-- Resource identifier of Table 1.8. -/
def resId (kind idx : Nat) : Nat := kind * 0x1000000 + idx

end Sys2Proof.Machine
end

