-- ==== Sys2Proof/Machine/Header.lean ====
section
/-! DEFINITION. The tide store header (R53, R54, Table 2.3): its bytes, the copy in use, and what a read of the tide store
shows. -/
namespace Sys2Proof.Machine
set_option cleanup.letToHave false

/-- A bank descriptor as its 112 bytes. -/
def descBytes (d : BankDesc) : List Byte :=
  leBytes 1 d.state ++ leBytes 3 0 ++ leBytes 4 d.fwLength ++ leBytes 4 d.ttLength ++ leBytes 4 d.fwSvn ++ leBytes 48 d.fwDigest ++
    leBytes 48 d.ttDigest

/-- Bytes 0 to 251 of a header copy. -/
def headerBody (h : Header) : List Byte :=
  leBytes 4 0x45444954 ++ leBytes 2 1 ++ leBytes 2 0 ++ leBytes 4 h.seq ++ leBytes 1 h.active.toNat ++ leBytes 1 h.trialBoots ++
    leBytes 2 0 ++ descBytes h.a ++ descBytes h.b ++ leBytes 12 0

/-- The 256 defined bytes of a header copy (Table 2.3). -/
def headerBytes (h : Header) : List Byte := headerBody h ++ leBytes 4 (crc32c (headerBody h)).toNat

/-- The little-endian value of `n` bytes from byte `k`. -/
def bytesAt (l : List Byte) (k n : Nat) : Nat := ofLe ((l.drop k).take n)

/-- The descriptor that begins at byte `k`. -/
def descParse (l : List Byte) (k : Nat) : BankDesc :=
  { state := bytesAt l k 1, fwLength := bytesAt l (k + 4) 4, ttLength := bytesAt l (k + 8) 4, fwSvn := bytesAt l (k + 12) 4
    fwDigest := bytesAt l (k + 16) 48, ttDigest := bytesAt l (k + 64) 48 }

/-- A header copy, when its MAGIC matches and its CRC-32C over bytes 0 to 251 is CRC (R54). -/
def headerParse (l : List Byte) : Option Header :=
  if bytesAt l 0 4 = 0x45444954 ∧ bytesAt l 252 4 = (crc32c (l.take 252)).toNat then
    some { seq := bytesAt l 8 4, active := decide (bytesAt l 12 1 = 1), trialBoots := bytesAt l 13 1, a := descParse l 16, b := descParse l 128 }
  else none

/-- The copy in use is copy 0 (R54): it alone qualifies, or copy 1 has no higher SEQUENCE. -/
def State.headerIs0 (s : State) : Bool :=
  match headerParse s.store.h0, headerParse s.store.h1 with
  | some x, some y => decide (y.seq ≤ x.seq)
  | some _, none => true
  | none, _ => false

/-- The header in use; none where neither copy qualifies. -/
def State.header (s : State) : Option Header := headerParse (if s.headerIs0 then s.store.h0 else s.store.h1)

/-- The header in use, of a store that has one. -/
def State.headerNow (s : State) : Header := s.header.getD {}

/-- Descriptor of bank B (true) or A. -/
def Header.bank (h : Header) (b : Bool) : BankDesc := if b then h.b else h.a

/-- Change the descriptor of a bank. -/
def Header.setBank (h : Header) (b : Bool) (g : BankDesc → BankDesc) : Header :=
  if b then { h with b := g h.b } else { h with a := g h.a }

/-- Show the header in the map (Table 16.5). -/
def State.headerShow (s : State) : State :=
  let h := s.headerNow
  ((s.w Reg.UPD_BANK_A h.a.state).w Reg.UPD_BANK_B h.b.state).w Reg.UPD_TRIAL_BOOTS h.trialBoots

/-- Program the copy that is not in use. -/
def State.headerPut (s : State) (l : List Byte) : State :=
  (s.modStore (fun x => if s.headerIs0 then { x with h1 := l } else { x with h0 := l })).headerShow

/-- Write the header: the copy that is not in use takes the change, with SEQUENCE increased. -/
def State.headerWrite (s : State) (g : Header → Header) : State :=
  let h := s.headerNow
  s.headerPut (headerBytes { g h with seq := (h.seq + 1) % 4294967296 })

/-- A header write whose copy does not read back as written (R463): no copy that qualifies stands there. -/
def State.headerTorn (s : State) : State := s.headerPut []

/-- Set the STATE of a bank in the header. -/
def State.bankState (s : State) (b : Bool) (st : Nat) : State := s.headerWrite (fun h => h.setBank b (fun d => { d with state := st }))

/-- The byte at an offset of the tide store (Table 2.2): the header copies, the banks' bytes, and 0xFF where nothing is
programmed. -/
def TideStore.read (x : TideStore) (off : Nat) : Byte :=
  if off < 0x1000 then x.h0.getD off 0xFF
  else if off < 0x2000 then x.h1.getD (off - 0x1000) 0xFF
  else match x.flash.find? (fun c => decide (c.1 = off)) with
    | some c => c.2
    | none => 0xFF

end Sys2Proof.Machine
end

