-- ==== Sys2Proof/Machine/Flags.lean ====
section
/-! DEFINITION. Event flags: the EVENT fields (R12, WC) and the messages that a set bit sends (R453); the send queue of the
chain links (R426 to R428). -/
namespace Sys2Proof.Machine

/-! ## Chain frames (R426 to R428) -/

/-- A resource has no owner: it is in its released state (R46), and a write to it is refused (R44). -/
def State.isReleased (s : State) (rid : Nat) : Bool := s.fabric.released.contains rid

/-- Send priority of a frame type (Table 14.6). -/
def chainPriority (type : Nat) : Nat :=
  match type with
  | 0x01 => 1
  | 0x02 | 0x03 => 2
  | 0x11 => 3
  | 0x10 => 4
  | 0x20 | 0x21 | 0x23 => 5
  | 0x04 | 0x05 | 0x06 => 6
  | 0x22 => 7
  | 0x12 => 8
  | 0x30 | 0x31 | 0x32 | 0x33 => 9
  | _ => 10

/-- A chain frame between its delimiters (R426): header of Table 14.5, payload, CRC-32C over both. -/
def chainFrame (type ctrl path id frag last : Nat) (payload : List Byte) : List Byte :=
  let body := leBytes 1 type ++ leBytes 1 ctrl ++ leBytes 2 payload.length ++ leBytes 8 path ++ leBytes 2 id ++ leBytes 1 frag ++
    leBytes 1 last ++ payload
  body ++ leBytes 4 (crc32c body).toNat

/-- Queue a frame on a link (R428). A link without an owner sends nothing (R46). -/
def State.chainQueue (s : State) (l type size : Nat) (o : Out) : State :=
  if s.isReleased (resId 0x0E l) then s
  else { s with chain := { s.chain with queue := s.chain.queue ++ [⟨l, type, size, o⟩] } }

/-- The fragments of a payload: 4,096 bytes each, one at least. -/
def chainParts : Nat → List Byte → List (List Byte)
  | 0, l => [l]
  | k + 1, l => if l.length ≤ 4096 then [l] else l.take 4096 :: chainParts k (l.drop 4096)

/-- Queue a message on a link (R426): one frame, or up to 256 fragments with one MSG_ID. -/
def State.chainMessage (s : State) (l type ctrl path id : Nat) (payload : List Byte) : State :=
  let parts := chainParts 255 payload
  parts.zipIdx.foldl (fun s p => s.chainQueue l type (p.1.length + 22)
    (.chain l (chainFrame type ctrl path id p.2 (parts.length - 1) p.1))) s

/-- Queue a message of this device on a link, with its next message number. -/
def State.chainSend (s : State) (l type ctrl path : Nat) (payload : List Byte) : State :=
  ({ s with chain := { s.chain with msgId := (s.chain.msgId + 1) % 65536 } }).chainMessage l type ctrl path s.chain.msgId payload

/-- CONTROL of a message to the parent: UP = 1, HOPS = 0 (R74). -/
def ctrlUp : Nat := 0x80

/-! ## Messages and event flags -/

/-- Queue a message to a connection: 1,024 entries, further messages are dropped and counted (R453). -/
def State.queueMsg (s : State) (m : Msg) : State :=
  if s.command.msgs.length < 1024 then
    { s with command := { s.command with msgs := s.command.msgs ++ [m] } }
  else
    ({ s with command := { s.command with overflow := true } }).inc Reg.CMD_EVENT_DROPS

/-- Payload of an EVENT frame. DESIGN CHOICE: the spec names what it carries and no layout: the tide, the field's address, the
bits newly set. -/
def eventBytes (tide addr bits : Nat) : List Byte := leBytes 8 tide ++ leBytes 4 addr ++ leBytes 4 bits

/-- The messages that newly set event bits send to the subscriptions that watch the block. A member without a
subscription sends the event upward in an EVENT frame (R453). -/
def State.announce (s : State) (addr bits : Nat) : State :=
  let s := s.over (s.command.subs.filter (fun b => b.blocks.getLsbD (addr / 0x1000000)))
    (fun b s => s.queueMsg { conn := b.conn, words := [s.tide, addr, bits] })
  if s.r Reg.CHAIN_STATE = 2 then
    s.chainSend (s.r Reg.CHAIN_UPSTREAM) 0x33 ctrlUp 0 (eventBytes s.tide addr bits)
  else s

/-- Set bits of an EVENT field; the bits newly set are announced. -/
def State.evMask (s : State) (f : Fld) (mask : Nat) (n : Nat := 0) (i : Nat := 0) : State :=
  let old := s.r f n i
  let fresh := (mask &&& (old ^^^ (2 ^ f.w - 1))) % 2 ^ f.w
  if fresh = 0 then s else (s.w f (old ||| fresh) n i).announce (f.addr n i 0) fresh

/-- Set one bit of an EVENT field. -/
def State.ev (s : State) (f : Fld) (k : Nat) (n : Nat := 0) (i : Nat := 0) : State := s.evMask f (2 ^ k) n i

end Sys2Proof.Machine
end

