-- ==== Sys2Proof/Machine/Shared.lean ====
section
/-! DEFINITION. Operations that several chapters share: latching a safety cause, cutting outputs, the pair claim,
the contactors that count as closed. -/
namespace Sys2Proof.Machine

/-- The image loaded at step 6, when one is. -/
def State.decl (s : State) : Decl := (s.start.image.map (·.decl)).getD {}

/-- Life-cycle state SERVICE (R334, Table 2.7). -/
def State.service (s : State) : Bool := decide (s.r Reg.DEV_LIFECYCLE = 3)

/-- The unit holds the dialogues of its connectors. -/
def State.dialogues (s : State) : Bool := s.running && decide (s.r Reg.PAIR_ROLE ≠ 3)

/-! ## Latched causes (R352) -/

/-- Key of a latched cause with its entry, connection or channel. -/
def causeKey (cause idx : Nat) : Nat := cause * 4096 + idx

/-- The lowest latched cause on a channel. -/
def lowestCause (t : Tab (BitVec 16)) (c : Nat) : Option Nat :=
  (t.find? (fun p => p.2.getLsbD c)).map (fun p => p.1 / 4096)

/-- The channels that some latched cause holds. -/
def lockedMask (t : Tab (BitVec 16)) : BitVec 16 := t.foldl (fun m p => m ||| p.2) 0

/-- A paired channel of a unit without the claim (R363): 0 = not restricted, 1 = held as it is, 2 = held off. The partner's claim
takes 1 wave to hold the channel off; with no unit claiming, a SOUT channel holds only while the unit yields, and is cut otherwise. -/
def State.pairHold (s : State) (paired sout : Bool) : Nat :=
  if s.r Reg.PAIR_ROLE = 0 ∨ !paired ∨ s.rb Reg.PAIR_CLAIM then 0
  else if s.rb Reg.PAIR_FLOOD_IN ∧ 1 ≤ s.pair.floodInWaves then 2
  else if !sout ∨ s.r Reg.PAIR_ROLE = 4 ∨ s.rb Reg.PAIR_FLOOD_IN then 1
  else 2

/-- The contactors the image declares, ascending. -/
def State.contactors (s : State) : List Nat :=
  (List.range 256).filter (fun k => decide (s.r Reg.MTX_CT_KIND 0 k ≠ 0))

/-- Channels in use: those that a function entry or a safe-data connection cuts, or that supply a coil group. -/
def State.soutUsed (s : State) : Nat :=
  let fns := (List.range 64).foldl (fun v f => v ||| s.r Reg.SAFE_FN_CUT 0 f) 0
  let cns := (List.range 32).foldl (fun v k => v ||| s.r Reg.SAFE_CN_CUT 0 k) fns
  s.contactors.foldl (fun v k => setBit v (s.r Reg.MTX_CT_GROUP 0 k) true) cns

/-- A SOUT channel may be enabled (R46, R334, R363): one that is in use (Table 11.8) and has an owner. -/
def State.soutAllowed (s : State) (c : Nat) : Bool :=
  let hold := s.pairHold (s.rbit Reg.PAIR_PAIRED_SOUT c) true
  bit s.soutUsed c && !s.isReleased (resId 1 c) && s.running && s.rb Reg.SAFE_COMMISSIONED && s.service && !(lockedMask s.safety.latched).getLsbD c &&
    (decide (hold = 0) || (decide (hold = 1) && s.rbit Reg.SAFE_ENABLED c))

/-- Refresh what the object map shows of the channels: CH_CAUSE, CH_STATE and LOCKED. -/
def State.safeRefresh (s : State) : State :=
  let lm := lockedMask s.safety.latched
  let used := s.soutUsed
  (s.w Reg.SAFE_LOCKED lm.toNat).each 16 (fun c s =>
    let s := s.w Reg.SAFE_CH_CAUSE ((lowestCause s.safety.latched c).getD 0) 0 c
    s.w Reg.SAFE_CH_STATE (if !bit used c then 0 else if lm.getLsbD c then 3 else if s.rbit Reg.SAFE_ENABLED c then 1 else 2) 0 c)

/-- Event bit of a latched cause. -/
def causeEvent (cause : Nat) : Option Nat :=
  if 0x20 ≤ cause then some 1 else if cause = 7 then some 2 else if cause = 8 then some 3
  else if 1 ≤ cause ∧ cause ≤ 6 then some 0 else none

/-- Latch a cause on channels (R352). -/
def State.safeLatch (s : State) (cause idx : Nat) (mask : BitVec 16) : State :=
  if mask = 0 then s
  else
    let k := causeKey cause idx
    let sf := s.safety
    let again := decide (sf.latchWave = some s.now)
    let s := { s with safety := { sf with
      latched := Tab.put sf.latched k (mask ||| Tab.getD sf.latched k 0), latchWave := some s.now
      latchNow := if again then k :: sf.latchNow else [k] } }
    let s := if again && decide (s.r Reg.SAFE_LAST_CAUSE ≤ cause) then s
      else (s.w Reg.SAFE_LAST_CAUSE cause).w Reg.SAFE_LAST_INDEX idx
    let s := s.when (!again) (fun s => s.inc Reg.SAFE_CUTS)
    let s := match causeEvent cause with
      | some b => s.ev Reg.SAFE_EVENT b
      | none => s
    s.safeRefresh

/-- Latch an internal fault: every channel, on the cut island and in the die's record (R351). -/
def State.safeInternal (s : State) (code : Nat) : State :=
  let b := code - 0x20
  let s := { s with safety := { s.safety with island := s.safety.island ||| BitVec.ofNat 6 (2 ^ b) } }
  (s.wbit Reg.SAFE_INT_FAULT b true).safeLatch code 0 0xFFFF

/-- Switch the SOUT channels to a mask: pins, cut counts and ENABLED. -/
def State.soutDrive (s : State) (on : Nat) : State :=
  let old := s.r Reg.SAFE_ENABLED
  let s := s.each 16 (fun c s =>
    if bit old c = bit on c then s
    else (s.emit (.pin "SOUT" c (bit on c))).when (!bit on c) (fun s => s.inc Reg.SAFE_CH_CUTS 0 c))
  (s.w Reg.SAFE_ENABLED on).safeRefresh

/-- FLOOD_OUT and the claim (R361): a unit holds the claim while its FLOOD_OUT is asserted and either it is home or
FLOOD_IN is deasserted. -/
def State.refreshClaim (s : State) : State :=
  s.wb Reg.PAIR_CLAIM (s.rb Reg.PAIR_FLOOD_OUT && (decide (s.r Reg.PAIR_UNIT = 0) || !s.rb Reg.PAIR_FLOOD_IN))

/-- Drive FLOOD_OUT. While both FLOOD_OUT signals are asserted, PAIR.EVENT bit 4 is set (R362). -/
def State.floodOut (s : State) (v : Bool) : State :=
  let s := if s.rb Reg.PAIR_FLOOD_OUT = v then s else s.emit (.pin "FLOOD_OUT" 0 v)
  ((s.wb Reg.PAIR_FLOOD_OUT v).when (v && s.rb Reg.PAIR_FLOOD_IN) (fun s => s.ev Reg.PAIR_EVENT 4)).refreshClaim

/-- The cut island cuts every channel (R335); for causes 0x12, 0x13 and 0x20 it also withdraws FLOOD_OUT (R361). -/
def State.islandCut (s : State) (cause : Nat) : State :=
  let s := if 0x20 ≤ cause then s.safeInternal cause else s.safeLatch cause 0 0xFFFF
  let s := s.soutDrive 0
  if cause = 0x12 ∨ cause = 0x13 ∨ cause = 0x20 then s.floodOut false else s

/-! ## The queues of the TSN switch (R409, R412) -/

/-- A port forwards: not disabled, link up, owned; the internal port 16 always does. -/
def State.tsnUp (s : State) (p : Nat) : Bool :=
  decide (p = 16) || (decide (s.r Reg.TSN_MODE p ≠ 0) && s.rb Reg.TSN_LINK p && !s.isReleased (resId 0x0B p))

/-- Cells of a frame (R409). -/
def cells (len : Nat) : Nat := (len + 255) / 256

/-- Cells used by the queued frames that satisfy a test. -/
def cellsUsed (l : List TsnQ) (f : TsnQ → Bool) : Nat := (l.filter f).foldl (fun v q => v + cells q.len) 0

/-- Enabled egress ports. -/
def State.tsnEnabled (s : State) : Nat := ((List.range 16).filter (fun p => decide (s.r Reg.TSN_MODE p ≠ 0))).length

/-- The pool of a frame has room: 256 reserved cells of the port for class 7, the shared cells for the rest (R409). -/
def State.tsnRoom (s : State) (p cls len : Nat) : Bool :=
  if cls = 7 then decide (cellsUsed s.links.tsn (fun q => decide (q.port = p ∧ q.cls = 7)) + cells len ≤ 256)
  else decide (cellsUsed s.links.tsn (fun q => decide (q.cls ≠ 7)) + cells len ≤ 16384 - 256 * s.tsnEnabled)

/-- Show the free cells. -/
def State.tsnCells (s : State) : State :=
  let free := 16384 - cellsUsed s.links.tsn (fun _ => true)
  (s.w Reg.TSNX_BUF_FREE free).w Reg.TSNX_BUF_MIN (min free (s.r Reg.TSNX_BUF_MIN))

/-- Queue a frame at an egress port, or drop it (FRAME_DROP, R409). DESIGN CHOICE: a frame for several ports takes cells at each. -/
def State.tsnQueue (s : State) (q : TsnQ) : State :=
  if q.port = 16 then s.emit (.link "HOST" 16 ([q.dst, q.src, q.vid, q.len] ++ q.data.map BitVec.toNat))
  else if s.tsnRoom q.port q.cls q.len then (s.modLinks (fun x => { x with tsn := x.tsn ++ [q] })).tsnCells
  else
    let s := (s.inc Reg.TSN_DROPS q.port).ev Reg.TSN_EVENT 1 q.port
    if q.cls = 7 then s else s.ev Reg.TSNX_EVENT 2

/-- A frame of the device itself, 64 bytes with its padding, at the start of this wave (R412): on a port that is down it is
lost. -/
def State.tsnOwn (s : State) (port cls vid dst : Nat) (data : List Byte) : State :=
  if s.tsnUp port then
    s.tsnQueue { port := port, cls := cls, dst := dst, src := Config.ownMac.toNat, vid := vid, len := 64, wave := s.now, tick := 0, data := data }
  else s

/-- EtherType 0x88B5 of setpoint, status, safety and peripheral frames, first byte first. -/
def etherType : List Byte := [0x88, 0xB5]

/-! ## Contactors (R122) -/

/-- The mirror source of a contactor cannot be read: an input fault of its SIN, or a lost cabinet. -/
def State.ctUnreadable (s : State) (k : Nat) : Bool :=
  if s.r Reg.MTX_CT_SEL_KIND 0 k = 2 then decide (s.r Reg.CAB_STATE (s.r Reg.MTX_CT_SEL_INDEX 0 k) = 4)
  else s.rb Reg.SAFE_SIN_FAULT 0 (s.r Reg.MTX_CT_MIRROR_SIN 0 k)

/-- A contactor counts as possibly closed (R122). -/
def State.ctMaybeClosed (s : State) (k : Nat) : Bool :=
  s.rb Reg.MTX_CT_CMD 0 k || s.rb Reg.MTX_CT_MIRROR 0 k || s.ctUnreadable k

/-- A contactor is marked welded. -/
def State.ctWelded (s : State) (k : Nat) : Bool := decide (s.r Reg.MTX_CT_STATE 0 k = 4)

/-- A contactor is marked faulty. -/
def State.ctFaulty (s : State) (k : Nat) : Bool := decide (s.r Reg.MTX_CT_STATE 0 k = 5)

/-- A field lies at a key. -/
def Fld.isAt (f : Fld) (k : Nat) : Bool := decide (f.lo = k % 32) && (f.locate (k / 32)).isSome

/-! ## Load switch commands (R212, R217 to R219) -/

/-- Settings that the power die holds itself and goes by while the logic die is in reset (R217, R220): what a channel does, its
frequency and duty, the thresholds and times of the protections. A start takes them anew in step 6. -/
def driveParams : List Fld :=
  [Reg.LS_FUNCTION, Reg.LS_DRIVE_MODE, Reg.LS_PWM_FREQ, Reg.LS_DUTY, Reg.LS_OC_TRIP, Reg.LS_OC_FILT, Reg.LS_DT_LIMIT, Reg.LS_OL_THRESH,
   Reg.LS_OL_FILT, Reg.LS_RETRY_WAIT, Reg.LS_RETRY_MAX, Reg.GD_SHUNT_OC, Reg.GD_DESAT_V, Reg.GD_VBS_UV, Reg.GD_RETRY_WAIT,
   Reg.GD_RETRY_MAX, Reg.GD_TSD, Reg.GD_TSD_HYST]

/-- The state an on command gives an active channel. -/
def State.lsOnState (s : State) (c : Nat) : Nat := if s.r Reg.LS_DRIVE_MODE c = 1 then 2 else 1

/-- Latch a command on the power die: an active channel follows it; an off command drops a pending retry. A channel without an
owner is not turned on (R44). A power die without supply takes no command. A channel whose supply is low stays off (0x15). A paired
channel of a unit without the claim keeps its state, or is held off (R363). -/
def State.lsCommand (s : State) (c : Nat) (on : Bool) : State :=
  let st := s.r Reg.LS_STATE c
  if on && s.isReleased (resId 4 c) then s.inc Reg.TIDE_OWN_REFUSED
  else if s.drive.down then s
  else if s.pairHold (s.rbit Reg.PAIR_PAIRED_LS c) false = 1 then s
  else
  let on := on && decide (s.pairHold (s.rbit Reg.PAIR_PAIRED_LS c) false = 0)
  let s := s.wb Reg.LS_LATCHED on c
  if on then
    if st ≠ 0 then s
    else if (Tab.getD s.drive.ls c {}).low then s.w Reg.LS_STATE 6 c
    else
      let s := s.modDrive (fun d => { d with ls := Tab.upd d.ls c {} (fun x => { x with phase := 0 }) })
      (s.w Reg.LS_STATE (s.lsOnState c) c).emit (.pin "LS" c true)
  else
    let s := s.modDrive (fun d => { d with ls := Tab.upd d.ls c {} (fun x => { x with retry := false, fresh := none }) })
    if st = 5 ∨ st = 6 ∨ st = 0 then s else (s.w Reg.LS_STATE 0 c).emit (.pin "LS" c false)

/-! ## Contactors of a group and of a connector -/

/-- The contactors of a coil group. -/
def State.groupContactors (s : State) (g : Nat) : List Nat :=
  s.contactors.filter (fun k => decide (s.r Reg.MTX_CT_GROUP 0 k = g))

/-- The bus-connector contactors of a connector. -/
def State.connContactors (s : State) (n : Nat) : List Nat :=
  s.contactors.filter (fun k => decide (s.r Reg.MTX_CT_KIND 0 k = 2 ∧ s.r Reg.MTX_CT_TO 0 k = n))


/-! ## Interval flags (R251, R252) -/

/-- Update an open session record of a connector. -/
def State.modRecord (s : State) (n : Nat) (g : SessRec → SessRec) : State :=
  s.modSession (fun x => { x with recs := x.recs.map (fun q => if q.connector = n ∧ q.flags.getLsbD 6 then g q else q) })

/-- An event that sets BREACH on a point: the interval flag, and bit 4 of the connector's open session record. -/
def State.breach (s : State) (p : Nat) : State :=
  let s := s.wbit Reg.MPT_IV_FLAGS 0 true p
  if 8 ≤ p then s.modRecord (p - 8) (fun q => { q with flags := q.flags ||| 0x10 }) else s

/-! ## MRAM record writes (R328) -/

/-- Order of precedence of a record write. -/
def WriteKind.rank : WriteKind → Nat
  | .ebb => 1
  | .shutdown => 1
  | .lowWater => 2
  | .checkpoint => 3
  | .boundary => 4
  | .other => 5

/-- The next write of those that wait: the lowest rank, the oldest of it. -/
def nextWrite (l : List MWrite) : Option MWrite :=
  l.foldl (fun x w => match x with
    | none => some w
    | some y => if w.kind.rank < y.kind.rank then some w else some y) none

/-- Start the next write when none is in progress. -/
def State.startWrite (s : State) : State :=
  match s.meter.writing, nextWrite s.meter.waiting with
  | none, some w => s.modMeter (fun m => { m with writing := some w, waiting := m.waiting.erase w })
  | _, _ => s

/-- Ask for an MRAM record write. -/
def State.queueRec (s : State) (kind : WriteKind) (r : StoreRec) : State :=
  (s.modMeter (fun m => { m with waiting := m.waiting ++ [⟨kind, r, s.now⟩] })).startWrite

/-- Ask for a write of bytes. -/
def State.queueWrite (s : State) (kind : WriteKind) (addr : Nat) (bytes : List Byte) : State := s.queueRec kind (.bytes addr bytes)

/-- The record writes in progress and waiting. -/
def State.writesAsked (s : State) : List MWrite := s.meter.waiting ++ (match s.meter.writing with | some w => [w] | none => [])

/-- A settings generation is complete and in use. -/
def State.settingsDone (s : State) (slot : Bool) (g : SettingsGen) : State :=
  let s := s.modStart (fun x => if slot then { x with gen1 := some g, genSlot := slot, genRead := true } else { x with gen0 := some g, genSlot := slot, genRead := true })
  s.w Reg.DEV_SETTINGS_GEN g.seq

/-- A billing record is complete (R292, R322): the next SEQUENCE of the series, in the slot that does not hold the record's
newest. BSTEP is 0 outside the steps 4 to 8. -/
def State.billRecord (s : State) (rec btide bstep : Nat) : State :=
  s.modBill (fun b => { b with
    seq := b.seq + 1
    heads := Tab.put b.heads rec ⟨b.seq + 1, btide % 4294967296, bstep, match Tab.find b.heads rec with | some h => 1 - h.slot | none => 0⟩ })

end Sys2Proof.Machine
end

