-- ==== Sys2Proof/Machine/SafetyFn.lean ====
section
/-! DEFINITION. Safety functions (chapter 11): inputs, test pulses, function entries, safe data, the cut island,
lock-out, acknowledgement and commissioning. -/
namespace Sys2Proof.Machine

set_option cleanup.letToHave false

/-! ## Inputs and test pulses (R339, R340) -/

/-- Waves since the present pulse of a source began, while the pulse or its blanking lasts. -/
def State.pulseOffset (s : State) (t : Nat) : Option Nat :=
  let start := s.r Reg.SAFE_TP_WAVE 0 t
  let width := s.r Reg.SAFE_TP_WIDTH 0 t
  let period := max 1 (s.r Reg.SAFE_TP_PERIOD 0 t)
  let here := s.wave - start
  let before := s.wave + 400 - start
  if start ≤ s.wave ∧ s.tide % period = 0 ∧ here < width + 2 then some here
  else if 1 ≤ s.tide ∧ (s.tide - 1) % period = 0 ∧ before < width + 2 then some before
  else none

/-- A test-pulse source drives in this wave (TEST_PULSE). -/
def State.pulseDrive (s : State) (t : Nat) : State :=
  match s.pulseOffset t with
  | some o =>
    if s.isReleased (resId 3 t) then s
    else if o = 0 then s.emit (.pin "TP" t false)
    else if o = s.r Reg.SAFE_TP_WIDTH 0 t then s.emit (.pin "TP" t true) else s
  | none => s

/-- Test sources named by some input. -/
def State.pulseSources (s : State) : List Nat :=
  (List.range 8).filter (fun t => (List.range 32).any (fun i => decide (s.r Reg.SAFE_SIN_TP 0 i = t)))

/-- One sample of an input: filter, blanking and the test-pulse check. -/
def State.sinSample (s : State) (i : Nat) (raw : Bool) : State :=
  let x := Tab.getD s.safety.sins i {}
  let s := s.wb Reg.SAFE_SIN_RAW raw 0 i
  let tp := s.r Reg.SAFE_SIN_TP 0 i
  let width := s.r Reg.SAFE_TP_WIDTH 0 tp
  let off := if tp < 8 then s.pulseOffset tp else none
  match off with
  | some o =>
    if o < width then
      let low := (if o = 0 then false else x.pulseLow) || !raw
      let s := { s with safety := { s.safety with sins := Tab.put s.safety.sins i { x with pulseLow := low } } }
      if o + 1 = width then
        let s := s.inc Reg.SAFE_SIN_PULSES 0 i
        if low then s.wb Reg.SAFE_SIN_FAULT false 0 i
        else if s.rb Reg.SAFE_SIN_FAULT 0 i then s
        else ((s.wb Reg.SAFE_SIN_FAULT true 0 i).inc Reg.SAFE_SIN_FAULTS 0 i)
      else s
    else s
  | none =>
    let y := if x.count ≠ 0 ∧ x.val = raw then { x with count := min 40 (x.count + 1) } else { x with val := raw, count := 1 }
    { s with safety := { s.safety with sins := Tab.put s.safety.sins i y } }

/-- The filtered state of an input would change (SIN_FILTER_CHANGE is due). -/
def State.sinDue (s : State) (i : Nat) : Bool :=
  let x := Tab.getD s.safety.sins i {}
  decide (s.r Reg.SAFE_SIN_FILT 0 i ≤ x.count) && decide (x.val ≠ s.rb Reg.SAFE_SIN_STATE 0 i)

/-! ## Function entries (R341 to R345) -/

/-- A source reads a demand: a SIN low, a safe-data bit 0, a weld mark in a coil group (R342). -/
def State.srcDemand (s : State) (src : Nat) : Bool :=
  match src / 4096 with
  | 1 => !s.rb Reg.SAFE_SIN_STATE 0 (src % 32)
  | 3 =>
    let k := src / 64 % 32
    !bit (s.r64 Reg.SAFE_CN_DATA_LO Reg.SAFE_CN_DATA_HI 0 k) (src % 64)
  | 4 => (s.groupContactors (src % 16)).any s.ctWelded
  | _ => false

/-- A second source that is named reads a demand. -/
def State.srcDemandB (s : State) (f : Nat) : Bool :=
  let b := s.r Reg.SAFE_FN_SRC_B 0 f
  decide (b ≠ 0) && s.srcDemand b

/-- The condition of an entry is present (Table 11.1), input faults apart. -/
def State.fnCondition (s : State) (f : Nat) : Bool :=
  let x := Tab.getD s.safety.fns f {}
  let a := s.r Reg.SAFE_FN_SRC_A 0 f
  match s.r Reg.SAFE_FN_TYPE 0 f with
  | 1 | 2 => s.srcDemand a || s.srcDemandB f
  | 3 =>
    let filt := s.r Reg.SAFE_FN_FILT 0 f
    decide (filt ≤ x.beyond) || (decide (s.r Reg.SAFE_FN_STATE 0 f = 1) && decide (x.within < filt))
  | 4 => (s.srcDemand a || s.srcDemandB f) && (s.connContactors (s.r Reg.SAFE_FN_CONN 0 f)).any s.ctMaybeClosed
  | 5 => s.srcDemand a || s.srcDemandB f || x.guardEvent
  | _ => false

/-- A source names an input with an input fault. -/
def State.srcFault (s : State) (src : Nat) : Bool := decide (src / 4096 = 1) && s.rb Reg.SAFE_SIN_FAULT 0 (src % 32)

/-- An input fault 0x07 of the entry is present (R340, R341, SF3 plausibility). -/
def State.fnFault (s : State) (f : Nat) : Bool :=
  let x := Tab.getD s.safety.fns f {}
  s.srcFault (s.r Reg.SAFE_FN_SRC_A 0 f) || s.srcFault (s.r Reg.SAFE_FN_SRC_B 0 f) || x.inputFault || x.implausible

/-- An entry trips with a cause (R345, FUNCTION_TRIP). -/
def State.fnTrip (s : State) (f cause : Nat) : State :=
  let s := s.safeLatch cause f (BitVec.ofNat 16 (s.r Reg.SAFE_FN_CUT 0 f))
  let s := s.w Reg.SAFE_FN_CAUSE cause 0 f
  (s.inc Reg.SAFE_FN_TRIPS 0 f).w Reg.SAFE_FN_LAST (s.tide % 4294967296) 0 f

/-- The latches of an entry stand. -/
def State.fnLatched (s : State) (f : Nat) : Bool :=
  (Tab.find s.safety.latched (causeKey (s.r Reg.SAFE_FN_TYPE 0 f) f)).isSome ||
    (Tab.find s.safety.latched (causeKey 7 f)).isSome

/-- Evaluate one entry: a condition that becomes present trips it, one that goes leaves it latched. -/
def State.fnEval (s : State) (f : Nat) : State :=
  let ty := s.r Reg.SAFE_FN_TYPE 0 f
  if ty = 0 ∨ !s.alive then s
  else
    let st := s.r Reg.SAFE_FN_STATE 0 f
    let cond := s.fnCondition f
    let flt := s.fnFault f
    let newCond := cond && (decide (st ≠ 1) || (Tab.find s.safety.latched (causeKey ty f)).isNone)
    let newFlt := flt && (decide (st ≠ 1) || (Tab.find s.safety.latched (causeKey 7 f)).isNone)
    let s := if cond || flt then s.w Reg.SAFE_FN_STATE 1 0 f
      else if st = 1 then s.w Reg.SAFE_FN_STATE (if s.fnLatched f then 2 else 0) 0 f else s
    let s := s.when newFlt (fun s => s.fnTrip f 7)
    s.when newCond (fun s => s.fnTrip f ty)

/-- Evaluate every entry that a predicate names, ascending. -/
def State.fnEvalWhere (s : State) (p : State → Nat → Bool) : State :=
  s.each 64 (fun f s => if p s f then s.fnEval f else s)

/-- The guard blocked a select of a contactor of the group: its SF5 entries see the event (R122, R342). -/
def State.sf5Guard (s : State) (g : Nat) : State :=
  s.each 64 (fun f s =>
    if s.r Reg.SAFE_FN_TYPE 0 f = 5 ∧ (s.r Reg.SAFE_FN_SRC_A 0 f = 0x4000 + g ∨ s.r Reg.SAFE_FN_SRC_B 0 f = 0x4000 + g) then
      let put (s : State) (v : Bool) : State :=
        { s with safety := { s.safety with fns := Tab.upd s.safety.fns f {} (fun x => { x with guardEvent := v }) } }
      let s := (put s true).fnEval f
      (put s false).fnEval f
    else s)

/-- A contactor of the group was marked welded: evaluate the SF5 entries. -/
def State.sf5Weld (s : State) : State := s.fnEvalWhere (fun s f => decide (s.r Reg.SAFE_FN_TYPE 0 f = 5))

/-- Waves for which the two SIN channels of an SF1 or SF2 entry have differed (R341). -/
def State.fnDiffer (s : State) (f : Nat) : State :=
  let ty := s.r Reg.SAFE_FN_TYPE 0 f
  let a := s.r Reg.SAFE_FN_SRC_A 0 f
  let b := s.r Reg.SAFE_FN_SRC_B 0 f
  if (ty = 1 ∨ ty = 2) ∧ a / 4096 = 1 ∧ b / 4096 = 1 then
    let va := s.rb Reg.SAFE_SIN_STATE 0 (a % 32)
    let vb := s.rb Reg.SAFE_SIN_STATE 0 (b % 32)
    { s with safety := { s.safety with fns := Tab.upd s.safety.fns f {} (fun x =>
      { x with differ := if va = vb then 0 else x.differ + 1, inputFault := x.inputFault && !(va && vb) }) } }
  else s

/-- The AUX reading of an SF3 entry in a tide (R342). An implausible code is gone after FN_FILT tides within the threshold and the
plausibility range (Table 11.1). -/
def State.fnAux (s : State) (codes : List Nat) (f : Nat) : State :=
  if s.r Reg.SAFE_FN_TYPE 0 f = 3 then
    let code := codes.getD (s.r Reg.SAFE_FN_SRC_A 0 f % 32) 0
    let th := s.r Reg.SAFE_FN_THRESH 0 f
    let beyond := if s.rb Reg.SAFE_FN_POL 0 f then decide (th < code) else decide (code < th)
    let bad := decide (code < s.r Reg.SAFE_FN_PL_LO 0 f) || decide (s.r Reg.SAFE_FN_PL_HI 0 f < code)
    { s with safety := { s.safety with fns := Tab.upd s.safety.fns f {} (fun x =>
      { x with
        beyond := if beyond then x.beyond + 1 else 0
        within := if beyond || bad then 0 else x.within + 1
        implausible := bad || (x.implausible && (beyond || decide (x.within + 1 < s.r Reg.SAFE_FN_FILT 0 f))) }) } }
  else s

/-! ## Safe data (R347 to R350) -/

/-- Bit f of the data a producer sends: entry f is neither tripped nor latched. -/
def State.producerData (s : State) : Nat :=
  (List.range 64).foldl (fun v f => if s.r Reg.SAFE_FN_STATE 0 f = 0 then v + 2 ^ f else v) 0

/-- Bytes 0–27 of a safety PDU (Table 11.3). -/
def pduHead (conn source seq tide wave data : Nat) : List Byte :=
  leBytes 1 0x51 ++ leBytes 1 conn ++ leBytes 2 0 ++ leBytes 4 source ++ leBytes 4 seq ++ leBytes 4 tide ++
    leBytes 2 wave ++ leBytes 2 0 ++ leBytes 8 data

/-- The check of a PDU: CRC-32/Koopman over the connection key and bytes 0–27. -/
def pduCrc (key : BitVec 32) (head : List Byte) : BitVec 32 := crcKoopman (leBytes 4 key.toNat ++ head)

/-- The connection key of a connection. -/
def State.cnKey (s : State) (k : Nat) : BitVec 32 :=
  ((s.decl.cnKeys.find? (fun p => decide (p.1 = k))).map Prod.snd).getD 0

/-- VLAN and destination address of a connection's PDUs. -/
def State.cnAddr (s : State) (k : Nat) : Nat × Nat := ((s.decl.cnAddr.find? (fun q => decide (q.1 = k))).map Prod.snd).getD (0, 0)

/-- The producers send identical PDUs on both network groups, in traffic class 7 (SAFETY_PDU_SEND, R412). -/
def State.pduSend (s : State) (k : Nat) : State :=
  let period := max 1 (s.r Reg.SAFE_CN_PERIOD 0 k)
  if s.r Reg.SAFE_CN_ROLE 0 k = 2 ∧ s.wave % period = 0 then
    let seq := (s.r Reg.SAFE_CN_SEQ 0 k + 1) % 4294967296
    let s := s.w Reg.SAFE_CN_SEQ seq 0 k
    let head := pduHead k (s.r Reg.SAFE_CN_SOURCE 0 k) seq (s.tide % 4294967296) s.wave s.producerData
    let body := etherType ++ head ++ leBytes 4 (pduCrc (s.cnKey k) head).toNat
    let (vid, dst) := s.cnAddr k
    (s.tsnOwn (s.r Reg.SAFE_CN_PORT_A 0 k) 7 vid dst body).tsnOwn (s.r Reg.SAFE_CN_PORT_B 0 k) 7 vid dst body
  else s

/-- One wave of a consumer: its age, and a copy whose twin has not come within 2 waves (R349, R350). -/
def State.cnWave (s : State) (k : Nat) : State :=
  if s.r Reg.SAFE_CN_ROLE 0 k = 1 then
    let s := s.incSat Reg.SAFE_CN_AGE 0 k
    let x := Tab.getD s.safety.cns k {}
    match x.copy with
    | some c =>
      if c.at_ + 2 < s.now then
        let s := { s with safety := { s.safety with cns := Tab.put s.safety.cns k { x with copy := none } } }
        s.inc Reg.SAFE_CN_MISS 0 k
      else s
    | none => s
  else s

/-- A SAFETY_PDU_RECEIVE of a connection: one copy on a network group. -/
def State.pduReceive (s : State) (k : Nat) (groupB : Bool) (pdu : List Byte) : State :=
  if s.r Reg.SAFE_CN_ROLE 0 k ≠ 1 then s
  else
    let x := Tab.getD s.safety.cns k {}
    let fld (o n : Nat) : Nat := ofLe ((pdu.drop o).take n)
    let seq := fld 8 4
    let tide := fld 12 4
    let wave := fld 16 2
    let data := fld 20 8
    let ahead := (seq + 4294967296 - s.r Reg.SAFE_CN_SEQ 0 k) % 4294967296
    -- tide numbers are compared in their 32 bits, as SEQ is (DEDUCED)
    let past := (tide + 4294967296 - x.lastTide) % 4294967296
    let later := decide ((1 ≤ past ∧ past < 2147483648) ∨ (past = 0 ∧ x.lastWave < wave))
    let good := decide (pdu.length = 32) && decide (fld 0 1 = 0x51) &&
      decide ((pduCrc (s.cnKey k) (pdu.take 28)).toNat = fld 28 4) &&
      decide (fld 4 4 = s.r Reg.SAFE_CN_SOURCE 0 k) && decide (fld 1 1 = k) &&
      (!x.delivered || (decide (1 ≤ ahead) && decide (ahead < 2147483648) && later))
    if !good then s.inc Reg.SAFE_CN_BAD 0 k
    else
      let mine : CopyI := { seq := seq, tide := tide, wave := wave, data := BitVec.ofNat 64 data, rest := fld 0 28, groupB := groupB, at_ := s.now }
      let put (s : State) (x : CnI) : State := { s with safety := { s.safety with cns := Tab.put s.safety.cns k x } }
      match x.copy with
      | some c =>
        if c.seq = seq ∧ c.groupB ≠ groupB ∧ s.now ≤ c.at_ + 2 then
          if c.rest = mine.rest then
            let s := put s { copy := none, lastTide := tide, lastWave := wave, delivered := true }
            let s := (s.w Reg.SAFE_CN_SEQ seq 0 k).w64 Reg.SAFE_CN_DATA_LO Reg.SAFE_CN_DATA_HI data 0 k
            ((s.w Reg.SAFE_CN_AGE 0 0 k).w Reg.SAFE_CN_STATE 1 0 k).inc Reg.SAFE_CN_DELIVERED 0 k
          else ((put s { x with copy := none }).inc Reg.SAFE_CN_DIFF 0 k).ev Reg.SAFE_EVENT 6
        else (put s { x with copy := some mine }).inc Reg.SAFE_CN_MISS 0 k
      | none => put s { x with copy := some mine }

/-! ## The waves and tides of the safety task -/

/-- The test-pulse sources as a wave begins (TEST_PULSE). -/
def State.pulsesWave (s : State) : State := s.over s.pulseSources (fun t s => s.pulseDrive t)

/-- The wave of the inputs: samples, discrepancies, the acknowledgement input (SIN_SAMPLE). -/
def State.safetyWave (s : State) (sin : BitVec 32) : State :=
  let s := s.each 32 (fun i s => s.sinSample i (sin.getLsbD i))
  let s := s.each 64 (fun f s => s.fnDiffer f)
  let ack := s.r Reg.SAFE_ACK_SIN
  let high := s.rb Reg.SAFE_SIN_STATE 0 ack
  let s := { s with safety := { s.safety with ackHeld := if high then s.safety.ackHeld + 1 else 0 } }
  let s := if high then (if s.r Reg.SAFE_ACK_STATE = 2 then s else s.w Reg.SAFE_ACK_STATE 1) else s.w Reg.SAFE_ACK_STATE 0
  let s := s.each 32 (fun k s => s.cnWave k)
  s.fnEvalWhere (fun s f => decide (s.r Reg.SAFE_FN_TYPE 0 f = 4 ∨ s.r Reg.SAFE_FN_TYPE 0 f = 5) || s.fnFault f)

/-- The readbacks of a wave (R338): voltage in 0.1 V and current in mA of each channel. -/
def State.readbackWave (s : State) (volts amps : List Nat) : State :=
  s.each 16 (fun c s =>
    let v := volts.getD c 0
    let i := amps.getD c 0
    let s := ((s.w Reg.SAFE_CH_V v 0 c).w Reg.SAFE_CH_I i 0 c).wbit Reg.SAFE_READBACK c (decide (30 < v))
    let on := s.rbit Reg.SAFE_ENABLED c
    let stuck := !on && decide (30 < v)
    let low := on && (decide (v < 30) || decide (600 < i))
    { s with safety := { s.safety with
      stuck := Tab.upd s.safety.stuck c 0 (fun k => if stuck then k + 1 else 0)
      low := Tab.upd s.safety.low c 0 (fun k => if low then k + 1 else 0) } })

/-- The heartbeat answer that stands in the wave-0 frame (R336, HEARTBEAT_ANSWER). -/
def State.heartbeat (s : State) : State :=
  let bad := !s.safety.checksOk
  let sig := if bad then Config.sigExp ^^^ (Config.freeWord s.free ||| 1#32) else Config.sigExp
  let a := crcKoopman (leBytes 4 (s.r Reg.SAFE_HB_CHALLENGE) ++ leBytes 4 sig.toNat)
  { s with free := if bad then s.free + 1 else s.free, safety := { s.safety with answer := some a, checksOk := true } }

/-- The per-tide readings of SF3 entries and of the dark-test interval. -/
def State.safetyTide (s : State) (aux : List Nat) (paramOk : Bool) : State :=
  let s := s.each 64 (fun f s => s.fnAux aux f)
  let s := s.fnEvalWhere (fun s f => decide (s.r Reg.SAFE_FN_TYPE 0 f = 3 ∧ s.r Reg.SAFE_FN_STATE 0 f = 1))
  let s := { s with safety := { s.safety with sinceDark := s.safety.sinceDark + 1 } }
  if s.tide % 100 = 0 ∧ !paramOk then s.safeInternal 0x23 else s

/-- What RUN does for the safety functions (R350, R352). -/
def State.safetyRun (s : State) : State :=
  let s := s.each 32 (fun k s => (s.w Reg.SAFE_CN_AGE 0 0 k).w Reg.SAFE_CN_STATE 0 0 k)
  s.safeLatch 0x10 0 0xFFFF

/-! ## Acknowledgement (R353) -/

/-- The condition of a latched cause is gone at an acknowledgement. -/
def State.causeGone (s : State) (cause idx : Nat) : Bool :=
  if 1 ≤ cause ∧ cause ≤ 5 then !s.fnCondition idx
  else if cause = 6 then decide (s.r Reg.SAFE_CN_STATE 0 idx = 1)
  else if cause = 7 then !s.fnFault idx
  else if cause = 8 ∨ cause = 0x10 ∨ cause = 0x11 then true
  else if cause = 9 then
    !s.ctFaulty idx && decide (s.r Reg.LS_STATE (s.r Reg.MTX_CT_SEL_INDEX 0 idx) ≠ 5)
  else if cause = 0x12 then decide (4 ≤ s.safety.frames)
  else if cause = 0x13 then !s.pins.resetN && s.start.ordered.isNone
  else false

/-- Clear the causes whose condition is gone; a cause that latched in this wave stays (Table 11.5). -/
def State.ackClear (s : State) : State :=
  let now := if s.safety.latchWave = some s.now then s.safety.latchNow else []
  let keep := s.safety.latched.filter (fun p => now.contains p.1 || !s.causeGone (p.1 / 4096) (p.1 % 4096))
  let left := keep.any (fun p => decide (p.1 / 4096 < 0x20))
  let s := { s with safety := { s.safety with latched := keep } }
  let s := s.each 64 (fun f s => if s.r Reg.SAFE_FN_STATE 0 f = 2 ∧ !s.fnLatched f then s.w Reg.SAFE_FN_STATE 0 0 f else s)
  let s := (s.inc Reg.SAFE_ACKS).ev Reg.SAFE_EVENT 4
  let s := if left then (s.inc Reg.SAFE_ACK_REJECTS).ev Reg.SAFE_EVENT 5 else s
  s.safeRefresh

/-! ## The commands -/

/-- The check of the heartbeat answer in the first frame of wave 0 (R336), and the challenge of the tide that begins. -/
def State.heartbeatCheck (s : State) : State :=
  let want := crcKoopman (leBytes 4 (s.r Reg.SAFE_HB_CHALLENGE) ++ leBytes 4 Config.sigExp.toNat)
  let ok := !s.safety.hbDue || decide (s.safety.answer = some want)
  let s := { s with safety := { s.safety with answer := none } }
  let s := if ok then s else (s.inc Reg.SAFE_HB_FAILS).islandCut 0x20
  ({ s with free := s.free + 1 }).w Reg.SAFE_HB_CHALLENGE (Config.freeWord s.free).toNat

/-- LINK_FRAME_RECEIVE (R335, R336): the cut island takes the frame of the wave, checks the heartbeat in wave 0 and
acts on the commanded cuts and enables. `spacingOk` is the island's own measure of the frame spacing over the tide. DESIGN
CHOICE: the first answer is due in the tide after the first whole tide of a start. -/
def execLinkFrameReceive (spacingOk : Bool) (s : State) : Host.Outcome State Fault Refusal :=
  if !s.alive then .next s
  else
    let first := !s.safety.gotFrame
    let s := { s with safety := { s.safety with
      gotFrame := true, noFrame := 0, frames := if first then min 4 (s.safety.frames + 1) else s.safety.frames } }
    let s := if s.wave = 0 ∧ first then s.heartbeatCheck else s
    let s := if spacingOk then s else s.safeInternal 0x24
    let on := (List.range 16).foldl (fun v c => if s.soutAllowed c then v + 2 ^ c else v) 0
    let cut := s.r Reg.SAFE_ENABLED &&& (lockedMask s.safety.latched).toNat
    let s := if cut = 0 then s
      else ({ s with free := s.free + 1 }).w Reg.SAFE_REACT_MAX
        (max (s.r Reg.SAFE_REACT_MAX) ((Config.freeWord s.free).toNat % 65536))
    .next (s.soutDrive on)

/-- LINK_FRAME_LOSS (R335): four waves without a frame, by the cut island's own oscillator; a die that does not run sends none. -/
def execLinkFrameLoss (s : State) : Host.Outcome State Fault Refusal :=
  if s.alive ∧ s.safety.noFrame < 4 then .next s
  else .next ({ s with safety := { s.safety with frames := 0 } }.islandCut 0x12)

/-- SOUT_READBACK_FAULT (R338): a readback inconsistent with the command for 2 waves. -/
def execSoutReadbackFault (c : Fin 16) (s : State) : Host.Outcome State Fault Refusal :=
  let s := if 2 ≤ Tab.getD s.safety.stuck c.val 0 then s.safeInternal 0x22 else s
  if 2 ≤ Tab.getD s.safety.low c.val 0 then
    let s := s.safeLatch 8 c.val (BitVec.ofNat 16 (2 ^ c.val))
    .next (s.soutDrive (setBit (s.r Reg.SAFE_ENABLED) c.val false))
  else .next s

/-- DARK_TEST (R338): each enabled channel turns its two switches off in turn; `failed` names the channels whose
readback did not fall. -/
def execDarkTest (failed : BitVec 16) (s : State) : Host.Outcome State Fault Refusal :=
  if s.alive && decide (s.r Reg.SAFE_OUT_TEST ≤ s.safety.sinceDark) then
    let s := { s with safety := { s.safety with sinceDark := 0 } }
    let on := s.r Reg.SAFE_ENABLED
    let s := s.each 16 (fun c s => if bit on c ∧ !failed.getLsbD c then s.inc Reg.SAFE_CH_TESTS 0 c else s)
    .next (if (BitVec.ofNat 16 on &&& failed) = 0 then s else s.safeInternal 0x22)
  else .next s

/-- SIN_FILTER_CHANGE (R339): SIN_FILT equal samples change the filtered state, and the entries are evaluated. -/
def execSinFilterChange (i : Fin 32) (s : State) : Host.Outcome State Fault Refusal :=
  if s.sinDue i.val then
    let s := s.wb Reg.SAFE_SIN_STATE (Tab.getD s.safety.sins i.val {}).val 0 i.val
    .next (s.fnEvalWhere (fun s f => decide (s.r Reg.SAFE_FN_TYPE 0 f ≠ 3)))
  else .next s

/-- DUAL_DISCREPANCY (R341): the two channels of a dual input have differed for longer than FN_DISC. -/
def execDualDiscrepancy (f : Fin 64) (s : State) : Host.Outcome State Fault Refusal :=
  if s.r Reg.SAFE_FN_DISC 0 f.val * 40 < (Tab.getD s.safety.fns f.val {}).differ then
    let s := { s with safety := { s.safety with fns := Tab.upd s.safety.fns f.val {} (fun x => { x with inputFault := true }) } }
    .next (s.fnEval f.val)
  else .next s

/-- SF3_FILTER_EXPIRY (R342): the AUX reading of an entry has lain beyond FN_THRESH for FN_FILT tides, or outside the
plausibility range. -/
def execSf3FilterExpiry (f : Fin 64) (s : State) : Host.Outcome State Fault Refusal :=
  if s.r Reg.SAFE_FN_TYPE 0 f.val = 3 then .next (s.fnEval f.val) else .next s

/-- SAFETY_PDU_RECEIVE (R349). -/
def execSafetyPduReceive (k : Fin 32) (groupB : Bool) (pdu : List Byte) (s : State) : Host.Outcome State Fault Refusal :=
  if s.alive then
    .next ((s.pduReceive k.val groupB pdu).fnEvalWhere (fun s f =>
      decide (s.r Reg.SAFE_FN_SRC_A 0 f / 4096 = 3 ∨ s.r Reg.SAFE_FN_SRC_B 0 f / 4096 = 3)))
  else .next s

/-- SAFE_DATA_WATCHDOG (R350): CN_AGE has reached CN_WDOG × 40 waves. -/
def execSafeDataWatchdog (k : Fin 32) (s : State) : Host.Outcome State Fault Refusal :=
  if s.running ∧ s.r Reg.SAFE_CN_ROLE 0 k.val = 1 ∧ s.r Reg.SAFE_CN_STATE 0 k.val ≠ 2 ∧
      s.r Reg.SAFE_CN_WDOG 0 k.val * 40 ≤ s.r Reg.SAFE_CN_AGE 0 k.val then
    let s := (s.w Reg.SAFE_CN_STATE 2 0 k.val).inc Reg.SAFE_CN_EXPIRES 0 k.val
    .next (s.safeLatch 6 k.val (BitVec.ofNat 16 (s.r Reg.SAFE_CN_CUT 0 k.val)))
  else .next s

/-- SAFE_ACK_RELEASE (R353): SAFE_ACK has read high for 50 to 300 tides and now reads low. -/
def execSafeAckRelease (s : State) : Host.Outcome State Fault Refusal :=
  if s.running ∧ !s.rb Reg.SAFE_SIN_STATE 0 (s.r Reg.SAFE_ACK_SIN) ∧ 20000 ≤ s.safety.ackHeld ∧
      s.safety.ackHeld ≤ 120000 ∧ s.r Reg.SAFE_ACK_STATE ≠ 2 then
    let s := s.fnEvalWhere (fun s f => decide (s.r Reg.SAFE_FN_TYPE 0 f ≠ 0))
    let s := s.ackClear
    .next ({ s with safety := { s.safety with ackHeld := 0 } }.w Reg.SAFE_ACK_STATE 0)
  else .next s

/-- ACK_HELD_TOO_LONG (R353): a press over 300 tides does nothing and sets ACK_STATE 0x2 until the input reads low. -/
def execAckHeldTooLong (s : State) : Host.Outcome State Fault Refusal :=
  if 120000 < s.safety.ackHeld then .next (s.w Reg.SAFE_ACK_STATE 2) else .next s

/-- SAFE_CONFIRM (R355): a committed CONFIRM equal to CHECK_VALUE, once applied, commissions the safety parameters. -/
def execSafeConfirm (s : State) : Host.Outcome State Fault Refusal :=
  if s.running ∧ s.safety.confirmDue = true ∧ s.r Reg.SAFE_CONFIRM = s.r Reg.SAFE_CHECK_VALUE then
    let s := { s with safety := { s.safety with confirmDue := false, confirmed := some (BitVec.ofNat 32 (s.r Reg.SAFE_CONFIRM)) } }
    let s := s.w Reg.SAFE_CONF_TIME (s.r64 Reg.BILL_RTC_LO Reg.BILL_RTC_HI / 1000)
    let s := (s.wb Reg.SAFE_COMMISSIONED true).ev Reg.SAFE_EVENT 7
    .next (s.wbit Reg.DEV_INHIBIT 2 false)
  else .next s

end Sys2Proof.Machine
end

