-- ==== Sys2Proof/Machine/Fabric.lean ====
section
/-! DEFINITION. The fabric, partitions, DMA, slots, the wave fence, throttling and resource ownership (chapter 1). -/
namespace Sys2Proof.Machine

set_option cleanup.letToHave false

/-! ## Addresses and regions (R17, R27, R28) -/

/-- An address of the map of Table 1.1 that holds memory or a window. -/
def addrMapped (a : Nat) : Bool :=
  decide (a < 0x3000000) || (decide (0x4000000 ≤ a) && decide (a < 0x6000000)) ||
    (decide (0x8000000 ≤ a) && decide (a < 0xC000000)) || (decide (0x10000000 ≤ a) && decide (a < 0x14000000))

/-- The bytes lie in one range of the map. -/
def spanMapped (a len : Nat) : Bool := addrMapped a && addrMapped (a + len - 1) && decide (a / 0x1000000 ≤ (a + len - 1) / 0x1000000)

/-- An address of near SRAM, far SRAM or MRAM. -/
def addrMemory (a : Nat) : Bool := decide (a < 0x3000000) || (decide (0x4000000 ≤ a) && decide (a < 0x6000000))

/-- First byte and last byte of a region descriptor. -/
def State.regionBase (s : State) (p d : Nat) : Nat := s.r Reg.TIDE_REG_BASE 0 p d * 64
/-- Last byte of a region descriptor. -/
def State.regionLimit (s : State) (p d : Nat) : Nat := s.r Reg.TIDE_REG_LIMIT 0 p d * 64 + 63

/-- The lowest-numbered VALID descriptor that contains the bytes (R28). -/
def State.regionOf (s : State) (p a len : Nat) : Option Nat :=
  (List.range 32).find? (fun d => s.rb Reg.TIDE_REG_VALID 0 p d && decide (s.regionBase p d ≤ a) &&
    decide (a + len - 1 ≤ s.regionLimit p d))

/-- The descriptors of a partition grant every right of the mask: [0] READ, [1] WRITE, [2] EXEC, [3] DMA. -/
def State.regionGrants (s : State) (p a len mask : Nat) : Bool :=
  match s.regionOf p a len with
  | some d => decide (s.r Reg.TIDE_REG_RIGHTS 0 p d &&& mask = mask)
  | none => false

/-- The entry of the ownership map that names a resource: an unused entry is not listed in the register file. -/
def State.ownEntry (s : State) (rid : Nat) : Option Nat :=
  let first := Reg.TIDE_OWN_ID.key 0 0 0
  (s.regs.find? (fun p => decide (first ≤ p.1 ∧ p.1 < Reg.TIDE_OWN_ID.key 0 4096 0 ∧ (p.1 - first) % 256 = 0 ∧ p.2.toNat = rid))).map
    (fun p => (p.1 - first) / 256)

/-- A partition owns a resource (R42, R44). -/
def State.owns (s : State) (p rid : Nat) : Bool :=
  match s.ownEntry rid with
  | some i => s.rb Reg.TIDE_OWN_OWNED 0 i && decide (s.r Reg.TIDE_OWN_PART 0 i = p)
  | none => false

/-! ## Consequences of a breach or fault (Table 1.5) -/

/-- The breach flag of every enabled point that a partition serves (Table 1.5, R251). -/
def State.breachPoints (s : State) (part : Nat) : State :=
  s.over ((List.range 40).filter (fun p => decide (s.r Reg.MPT_KIND p ≠ 0 ∧ s.r Reg.MPT_PARTITION p = part))) (fun p s => s.breach p)

/-- The class consequence of a breach or a region fault of a partition. -/
def State.classConsequence (s : State) (part : Nat) : State :=
  match s.r Reg.TIDE_PART_CLASS 0 part with
  | 0 => s.safeLatch 0x11 0 0xFFFF
  | 1 => s.breachPoints part
  | _ => s

/-- A refused task access (R29): the slot ends, the fault is counted, the class consequence follows. -/
def State.regionFault (s : State) (part : Nat) (slot : Option Nat) : State :=
  let s := match slot with
    | some i => s.modFabric (fun f => { f with
        slots := Tab.upd f.slots i ⟨s.now, true, true, 0⟩ (fun x => { x with done := true }) })
    | none => s
  let s := (s.inc Reg.TIDE_PART_FAULT 0 part).inc Reg.TIDE_FAULT_COUNT
  (s.ev Reg.TIDE_PART_EVENT 1 0 part).classConsequence part

/-! ## Transactions (R17 to R21) -/

/-- Transactions a requester has outstanding. -/
def State.outstanding (s : State) (req : Nat) : Nat := (s.fabric.flight.filter (fun t => decide (t.r.req.val = req))).length

/-- A requester is at its credit limit (R19). -/
def State.atLimit (s : State) (req : Nat) : Bool := decide (s.r Reg.TIDE_CREDIT 0 req ≤ s.outstanding req)

/-- The fault code a request meets: address map, ownership, region descriptors (R17, R28, R44). DESIGN CHOICE: where several
apply to one access the spec gives no order; the address map is asked first (0x05), then ownership (0x07), then the region
descriptors (0x01 or 0x02). -/
def State.accessFault (s : State) (q : FabReq) : Nat :=
  let a := q.addr.toNat
  if !spanMapped a (max 1 q.len) then 5
  else
    match q.part with
    | none => 0
    | some p =>
      if q.res.any (fun rid => !s.owns p.val rid) then 7
      else
        let right := match q.kind with | .read => 1 | .write => 2 | .exec => 4
        if s.regionGrants p.val a (max 1 q.len) right then 0 else if q.kind = .read then 1 else 2

/-- The bytes an access reads. A peripheral window's contents are not given by the spec: a free value. -/
def State.fabricRead (s : State) (a len : Nat) : List Byte :=
  if addrMemory a then s.mread a len
  else if 0x10000000 ≤ a then (List.range len).map (fun k => s.store.read (a + k - 0x10000000))
  else (List.range len).map (fun k => (Config.freeWord (s.free + k)).setWidth 8)

/-- Issue a request: it is checked, takes its place in the order of its requester, and becomes outstanding (R20). DESIGN
CHOICES, where the spec gives no result: a permitted write to a peripheral window or to the tide store read window completes
with fault 0x00 and changes nothing; a write takes effect here, so its bytes stay stored when its read-modify-write later
completes with fault 0x04. -/
def State.issue (s : State) (q : FabReq) : State :=
  let f := s.accessFault q
  let a := q.addr.toNat
  let data := if f = 0 ∧ q.kind ≠ .write then s.fabricRead a q.len else []
  let s := if f = 0 ∧ q.kind ≠ .write ∧ !addrMemory a then { s with free := s.free + q.len } else s
  let s := if f = 0 ∧ q.kind = .write ∧ addrMemory a then s.mwrite a (q.data.take q.len) else s
  let s := s.modFabric (fun x => { x with flight := x.flight ++ [⟨q, f, data⟩] })
  let k := s.fabric.flight.length
  let s := (s.w Reg.TIDE_INFLIGHT k).w Reg.TIDE_PEAK (max (s.r Reg.TIDE_PEAK) k)
  if f = 7 then s.inc Reg.TIDE_OWN_REFUSED
  else if f = 1 ∨ f = 2 then
    match q.part with
    | some p => s.regionFault p.val q.slot
    | none => s
  else s

/-- FABRIC_REQUEST (R17, R19): issued, or its acknowledge withheld at the credit limit. -/
def execFabricRequest (q : FabReq) (s : State) : Host.Outcome State Fault Refusal :=
  if !s.alive then .next s
  else if s.atLimit q.req.val || s.fabric.stalled.any (fun x => decide (x.req = q.req)) then
    .next ((s.modFabric (fun f => { f with stalled := f.stalled ++ [q] })).inc Reg.TIDE_STALL_COUNT)
  else .next (s.issue q)

/-- STALLED_REQUEST_ISSUE (R19): the oldest withheld request of a requester is acknowledged and issued once one of its
transactions has completed. -/
def execStalledRequestIssue (req : Fin 32) (s : State) : Host.Outcome State Fault Refusal :=
  match s.fabric.stalled.find? (fun x => decide (x.req = req)) with
  | some q =>
    if s.atLimit req.val then .next s
    else .next ((s.modFabric (fun f => { f with stalled := f.stalled.erase q })).issue q)
  | none => .next s

/-- Count the outcome of an error correction (R21, R22). -/
def State.eccCount (s : State) : Ecc → State
  | .clean => s
  | .corrected n => s.add Reg.TIDE_SCRUB_CORR n
  | .uncorrectable => s.inc Reg.TIDE_SCRUB_UNCORR
  | .recordCrc => s

/-- An address of MRAM. -/
def addrMram (a : Nat) : Bool := decide (0x4000000 ≤ a) && decide (a < 0x6000000)

/-- The read of these bytes met an error it cannot correct: a detected 3-bit error, or the CRC-32C mismatch of an MRAM
record (R21). -/
def eccBadRead (e : Ecc) (a : Nat) : Bool := decide (e = .uncorrectable) || (decide (e = .recordCrc) && addrMram a)

/-- An uncorrectable error in a region of a class S partition is the internal fault MEM_S (Table 11.4). -/
def State.memFault (s : State) (a len : Nat) : State :=
  if (List.range 64).any (fun p => s.rb Reg.TIDE_PART_VALID 0 p && decide (s.r Reg.TIDE_PART_CLASS 0 p = 0) &&
      (s.regionOf p a (max 1 len)).isSome) then s.safeInternal 0x25 else s

/-- An address of the tide store read window. -/
def addrTideStore (a : Nat) : Bool := !addrMemory a && decide (0x10000000 ≤ a)

/-- FABRIC_RESPONSE (R20, R21): a transaction completes and its tagged response returns. DEDUCED: a read of the tide store, which the
ebb warning stops (R484), stays outstanding while it is latched. -/
def execFabricResponse (tag : BitVec 8) (ecc : Ecc) (s : State) : Host.Outcome State Fault Refusal :=
  match s.fabric.flight.find? (fun t => decide (t.r.tag = tag)) with
  | none => .next s
  | some t =>
    if s.meter.ebb.isSome ∧ addrTideStore t.r.addr.toNat ∧ t.r.kind ≠ .write then .next s
    else
    let s := { s with fabric := { s.fabric with flight := s.fabric.flight.erase t } }
    let s := s.w Reg.TIDE_INFLIGHT s.fabric.flight.length
    let s := if t.fault = 0 then s.eccCount ecc else s
    let a := t.r.addr.toNat
    let write := decide (t.r.kind = .write)
    let bad := decide (t.fault = 0) && (if write then decide (ecc = .uncorrectable) else eccBadRead ecc a)
    let fault := if bad then (if write then 4 else 3) else t.fault
    let s := if bad then s.memFault a t.r.len else s
    .next (s.emit (.fabric t.r.req.val tag.toNat fault (if fault = 0 then t.data else [])))

/-! ## DMA (R30 to R34) -/

/-- STATUS word of a descriptor (Table 1.6). -/
def dmaStatus (st fault : Nat) : Nat := st + fault * 256

/-- Write back DONE and STATUS, and keep the channel's copies. -/
def State.dmaBack (s : State) (c done st fault : Nat) : State :=
  let d := s.r Reg.TIDE_DMA_DESC 0 c
  let s := (s.mwrite (d + 12) (leBytes 4 done)).mwrite (d + 20) (leBytes 4 (dmaStatus st fault))
  ((s.w Reg.TIDE_DMA_STATE st 0 c).w Reg.TIDE_DMA_FAULT fault 0 c).w Reg.TIDE_DMA_DONE done 0 c

/-- A DMA fault (R32): DONE, STATE, FAULT and FAULT_ADDR are written back and the chain stops. -/
def State.dmaFault (s : State) (c done fault addr : Nat) : State :=
  let d := s.r Reg.TIDE_DMA_DESC 0 c
  let p := s.r Reg.TIDE_DMA_OWNER 0 c
  let s := (s.dmaBack c done 3 fault).mwrite (d + 28) (leBytes 4 addr)
  let s := (s.inc Reg.TIDE_PART_FAULT 0 p).inc Reg.TIDE_FAULT_COUNT
  (s.ev Reg.TIDE_PART_EVENT 2 0 p).classConsequence p

/-- A descriptor is complete: STATE done, and the end event its CTRL asks for. -/
def State.dmaDone (s : State) (c done : Nat) : State :=
  let s := s.dmaBack c done 2 0
  if bit (s.mword (s.r Reg.TIDE_DMA_DESC 0 c + 16) 4) 1 then s.emit (.dmaEnd (s.r Reg.TIDE_DMA_OWNER 0 c) c) else s

/-- A descriptor is refused with fault 0x06: misaligned, LENGTH out of range, or a reserved CTRL bit. -/
def State.descBad (s : State) (d : Nat) : Bool :=
  decide (d % 32 ≠ 0) || decide (0x1000000 ≤ d) || decide (s.mword (d + 8) 4 < 1) || decide (16777216 < s.mword (d + 8) 4) ||
    decide (4 ≤ s.mword (d + 16) 4)

/-- Begin the descriptor at an address. Its SRC, DST and LENGTH are taken as it holds them now (R33). A descriptor already
complete (R33) ends at once, and the channel goes on to the next of its chain; `k` bounds the chain, which comes round after
as many descriptors as near SRAM holds. A misaligned descriptor faults without a write-back into it. DESIGN CHOICE: a
descriptor refused with 0x06 has no faulting beat, and FAULT_ADDR takes the address of the descriptor. -/
def State.dmaChain (c : Nat) : Nat → Nat → Bool → State → State
  | 0, _, _, s => s
  | k + 1, d, restart, s =>
    let s := s.w Reg.TIDE_DMA_DESC d 0 c
    if s.descBad d then
      let p := s.r Reg.TIDE_DMA_OWNER 0 c
      if d % 32 ≠ 0 ∨ 0x1000000 ≤ d then
        let s := (s.w Reg.TIDE_DMA_STATE 3 0 c).w Reg.TIDE_DMA_FAULT 6 0 c
        let s := (s.inc Reg.TIDE_PART_FAULT 0 p).inc Reg.TIDE_FAULT_COUNT
        (s.ev Reg.TIDE_PART_EVENT 2 0 p).classConsequence p
      else s.dmaFault c (s.mword (d + 12) 4) 6 d
    else
      let length := s.mword (d + 8) 4
      let s := s.modFabric (fun f => { f with dma := Tab.put f.dma c ⟨s.mword d 4, s.mword (d + 4) 4, length⟩ })
      let done := if restart || bit (s.mword (d + 16) 4) 0 then s.mword (d + 12) 4 else 0
      if done < length then s.dmaBack c done 1 0
      else
        let s := s.dmaDone c done
        let nxt := s.mword (d + 24) 4
        if nxt = 0 then s else State.dmaChain c k nxt false s

/-- Descriptors that near SRAM holds. -/
def dmaLimit : Nat := 524288

/-- Begin the descriptor at an address, on a channel. -/
def State.dmaBegin (s : State) (c d : Nat) (restart : Bool) : State := State.dmaChain c dmaLimit d restart s

/-- DMA_START (R30, R44): a task starts a channel on a chain of descriptors. A partition that does not own the channel
is refused with fault code 0x07. -/
def execDmaStart (c : Fin 64) (desc : BitVec 32) (part : Fin 64) (s : State) : Host.Outcome State Fault Refusal :=
  if !s.alive then .next s
  else if !(s.rb Reg.TIDE_DMA_OWNED 0 c.val && decide (s.r Reg.TIDE_DMA_OWNER 0 c.val = part.val)) then
    .next ((s.inc Reg.TIDE_OWN_REFUSED).emit (.fabric 30 c.val 7 []))
  else .next (s.dmaBegin c.val desc.toNat false)

/-- DMA_RESTART (R33): a faulted or paused descriptor restarts with the values it now holds. -/
def execDmaRestart (c : Fin 64) (part : Fin 64) (s : State) : Host.Outcome State Fault Refusal :=
  if !s.alive then .next s
  else if !(s.rb Reg.TIDE_DMA_OWNED 0 c.val && decide (s.r Reg.TIDE_DMA_OWNER 0 c.val = part.val)) then
    .next ((s.inc Reg.TIDE_OWN_REFUSED).emit (.fabric 30 c.val 7 []))
  else if s.r Reg.TIDE_DMA_STATE 0 c.val = 3 ∨ s.r Reg.TIDE_DMA_STATE 0 c.val = 4 then
    .next (s.dmaBegin c.val (s.r Reg.TIDE_DMA_DESC 0 c.val) true)
  else .next s

/-- The length of the next beat: at most 64 bytes, not across a 64-byte boundary of the destination (R31). -/
def beatLength (dst remaining : Nat) : Nat := min remaining (64 - dst % 64)

/-- The end of a transfer (Table 1.6): STATE done, the end event, and the next descriptor of the chain. -/
def State.dmaEnd (s : State) (c done : Nat) : State :=
  let s := s.dmaDone c done
  let nxt := s.mword (s.r Reg.TIDE_DMA_DESC 0 c + 24) 4
  if nxt = 0 then s else s.dmaBegin c nxt false

/-- The fault a beat meets and the address it names, if any (R28, R32). -/
def State.beatFault (s : State) (p src dst len : Nat) (ecc : BeatEcc) : Option (Nat × Nat) :=
  if !spanMapped src len then some (5, src)
  else if !s.regionGrants p src len 9 then some (1, src)
  else if eccBadRead ecc.src src then some (3, src)
  else if !spanMapped dst len then some (5, dst)
  else if !s.regionGrants p dst len 10 then some (2, dst)
  else if ecc.dst = .uncorrectable then some (4, dst)
  else none

/-- A slot of a DMA channel is running (R34). -/
def State.dmaSlot (s : State) (c : Nat) : Bool :=
  (s.decl.slots.zipIdx).any (fun p => decide (p.1.engine = 64 + c) &&
    (match Tab.find s.fabric.slots p.2 with | some x => x.started | none => false))

/-- DMA_BEAT (R31): one beat, whole or not at all, of the SRC, DST and LENGTH taken when the descriptor was begun (R33). A
channel moves beats in its slots alone (R34); NEXT and CTRL are read when the transfer ends. -/
def execDmaBeat (c : Fin 64) (ecc : BeatEcc) (s : State) : Host.Outcome State Fault Refusal :=
  if s.r Reg.TIDE_DMA_STATE 0 c.val ≠ 1 ∨ s.dmaSlot c.val = false then .next s
  else
    let x := Tab.getD s.fabric.dma c.val {}
    let p := s.r Reg.TIDE_DMA_OWNER 0 c.val
    let done := s.r Reg.TIDE_DMA_DONE 0 c.val
    let src := x.src + done
    let dst := x.dst + done
    let len := beatLength dst (x.length - done)
    let s := (s.eccCount ecc.src).eccCount ecc.dst
    match s.beatFault p src dst len ecc with
    | some (f, a) => .next ((s.when (decide (f = 3 ∨ f = 4)) (fun s => s.memFault a len)).dmaFault c.val done f a)
    | none =>
      let s := if addrMemory dst then s.mwrite dst (s.fabricRead src len) else s
      let done := done + len
      if x.length ≤ done then .next (s.dmaEnd c.val done) else .next (s.dmaBack c.val done 1 0)

/-! ## Slots (R15, R24, R25) -/

/-- The slot table of the loaded image. -/
def State.slotTable (s : State) : List SlotDef := s.decl.slots

/-- A slot begins in the present wave (R15). A slot with a tide period runs at wave 0 of its tide. DEDUCED: since a wave
period divides the 400 waves of a tide, a phase at or above the period names the same waves of every tide as its remainder. -/
def State.slotBegins (s : State) (d : SlotDef) : Bool :=
  if d.perTide then decide (s.wave = 0) && decide (s.tide % max 1 d.period = d.phase)
  else decide (s.wave % max 1 d.period = d.phase % max 1 d.period)

/-- Class of a slot. -/
def State.slotClass (s : State) (d : SlotDef) : Nat := s.r Reg.TIDE_PART_CLASS 0 d.part

/-- The slots that begin in the present wave on an engine, with their indices. -/
def State.dueOn (s : State) (e : Nat) : List (Nat × SlotDef) :=
  (s.slotTable.zipIdx.map (fun p => (p.2, p.1))).filter (fun p => decide (p.2.engine = e) && s.slotBegins p.2)

/-- Sum of bounds. -/
def boundSum (l : List (Nat × SlotDef)) : Nat := l.foldl (fun v p => v + p.2.bound) 0

/-- Waves over which the capacity of an engine-wave is counted (R39): those of a span, which has the engine to itself. -/
def capacityWaves (l : List (Nat × SlotDef)) : Nat :=
  match l with
  | [p] => max 1 p.2.span
  | _ => 1

/-- Pause capacity of an engine-wave (R39): 617 ticks less the bounds; over a span of k waves, 617 k ticks less its bound. -/
def capacity (l : List (Nat × SlotDef)) : Nat := 617 * capacityWaves l - boundSum l

/-- The slot of a class with the greatest bound-sum. DESIGN CHOICE: of equal bound-sums, which the spec does not order, the
first in tide table order. -/
def shedPick (s : State) (cls : Nat) (l : List (Nat × SlotDef)) : Option (Nat × SlotDef) :=
  (l.filter (fun p => decide (s.slotClass p.2 = cls))).foldl
    (fun best p => match best with | none => some p | some b => if b.2.bound < p.2.bound then some p else best) none

/-- Shed slots of a class, greatest bound first, until the capacity meets the demand (R39), which a span meets in each of
its waves. -/
def shedClass (s : State) (cls demand : Nat) : Nat → List (Nat × SlotDef) × List (Nat × SlotDef) → List (Nat × SlotDef) × List (Nat × SlotDef)
  | 0, r => r
  | k + 1, (run, shed) =>
    if demand * capacityWaves run ≤ capacity run then (run, shed)
    else match shedPick s cls run with
      | some p => shedClass s cls demand k (run.erase p, shed ++ [p])
      | none => (run, shed)

/-- Under the ebb warning, class H and class N slots are shed whatever the demand (R484). -/
def State.ebbShed (s : State) (l : List (Nat × SlotDef)) : List (Nat × SlotDef) × List (Nat × SlotDef) :=
  l.partition (fun p => decide (s.slotClass p.2 < 3))

/-- The slots an engine runs in this wave, and those it sheds. -/
def State.engineWave (s : State) (e demand : Nat) (ebb : Bool) : List (Nat × SlotDef) × List (Nat × SlotDef) :=
  let due := s.dueOn e
  let (run, shed) := if ebb then s.ebbShed due else (due, [])
  let k := due.length
  let (run, shed) := shedClass s 4 demand k (run, shed)
  shedClass s 3 demand k (run, shed)

/-- The slot whose span has held an engine since an earlier wave (R24): its index, its attributes and its run. -/
def State.spanning (s : State) (e : Nat) : Option (Nat × SlotDef × SlotRun) :=
  (s.slotTable.zipIdx).findSome? (fun p =>
    if p.1.engine = e ∧ 1 < p.1.span then
      (match Tab.find s.fabric.slots p.2 with | some x => some (p.2, p.1, x) | none => none)
    else none)

/-- A pause is applied on an engine for the wave (R40). -/
def State.pauseApply (s : State) (demand pause : Nat) : State :=
  s.modFabric (fun f => { f with pause := max f.pause pause, shed := if pause < demand then setBit f.shed 2 true else f.shed })

/-- A slot is shed in this wave (R40). -/
def State.shedSlot (s : State) (d : SlotDef) : State :=
  (s.inc Reg.TIDE_SHED_COUNT).modFabric (fun f => { f with shed := setBit f.shed (if s.slotClass d = 4 then 0 else 1) true })

/-- Apply the throttle to one engine for the wave (THROTTLE_PAUSE, R39, R40) and enter its slots. In the later waves of a
span the pause takes what the capacity counted over the span has left. -/
def State.throttleEngine (s : State) (e demand : Nat) (ebb : Bool) : State :=
  match s.spanning e with
  | some (i, d, x) =>
    let pause := min demand (617 * d.span - d.bound - x.paused)
    (s.pauseApply demand pause).modFabric (fun f => { f with slots := Tab.put f.slots i { x with paused := x.paused + pause } })
  | none =>
    let (run, shed) := s.engineWave e demand ebb
    let pause := min demand (capacity run)
    let s := s.over shed (fun p s => s.shedSlot p.2)
    (s.pauseApply demand pause).over run (fun p s => s.modFabric (fun f => { f with
      slots := Tab.put f.slots p.1 ⟨s.now + p.2.span - 1, false, false, pause⟩ }))

/-- What the map shows of the throttle (Table 1.9): PAUSE and DEMAND of the last wave, SHED of the last tide. -/
def State.throttleShow (s : State) : State :=
  let s := (s.w Reg.TIDE_PAUSE s.fabric.pause).w Reg.TIDE_DEMAND s.fabric.demand
  if s.wave = 0 then (s.w Reg.TIDE_SHED s.fabric.shed).modFabric (fun f => { f with shed := 0 }) else s

/-- The fence pauses a breaching DMA channel (R34). -/
def State.dmaPause (s : State) (c : Nat) : State :=
  if s.r Reg.TIDE_DMA_STATE 0 c = 1 then s.dmaBack c (s.r Reg.TIDE_DMA_DONE 0 c) 4 0 else s

/-- The fence aborts a breaching crypto operation (R35): its result is not delivered until the operation has started again in
a later slot of a crypto engine. DESIGN CHOICE: the spec does not say which engine carries which of the operations accepted;
the oldest is the one in hand. -/
def State.cryptoAbort (s : State) : State :=
  s.modVault (fun v => { v with ops := match v.ops with | [] => [] | o :: l => { o with aborted := true } :: l })

/-- The operation in hand starts again from the beginning (R35). -/
def State.cryptoRestart (s : State) : State :=
  s.modVault (fun v => { v with ops := match v.ops with | [] => [] | o :: l => { o with aborted := false } :: l })

/-- A class N slot of a crypto engine is running. -/
def State.cryptoRuns (s : State) : Bool :=
  s.fabric.slots.any (fun p => match s.slotTable[p.1]? with
    | some d => decide (24 ≤ d.engine ∧ d.engine < 28 ∧ s.slotClass d = 3)
    | none => false)

/-- The throttle and the slots of the wave that begins. While the ebb warning is latched, a class N crypto operation is
aborted (R484). -/
def State.throttleWave (s : State) (demand : Nat) (ebb : Bool) : State :=
  let s := s.throttleShow.modFabric (fun f => { f with pause := 0, demand := demand })
  let s := if ebb && s.cryptoRuns then s.cryptoAbort else s
  let engines := (s.slotTable.map (·.engine)).eraseDups
  s.over engines (fun e s => s.throttleEngine e demand ebb)

/-- One breach (R36, R38). -/
def State.slotBreach (s : State) (d : SlotDef) : State :=
  let cls := s.slotClass d
  let s := (s.inc Reg.TIDE_BREACH_COUNT).inc Reg.TIDE_PART_BREACH 0 d.part
  let s := (s.ev Reg.TIDE_PART_EVENT 0 0 d.part).ev Reg.TIDE_BREACH_FLAGS cls
  let s := s.classConsequence d.part
  let s := if 64 ≤ d.engine then s.dmaPause (d.engine - 64) else s
  let s := if 24 ≤ d.engine ∧ d.engine < 28 then s.cryptoAbort else s
  if cls = 0 then
    let l := s.tide :: (s.fabric.sBreaches.filter (fun t => decide (s.tide < t + 100)))
    let s := { s with fabric := { s.fabric with sBreaches := l }, safety := { s.safety with answer := none } }
    if 3 ≤ l.length ∧ !s.rbit Reg.SAFE_INT_FAULT 1 then s.safeInternal 0x21 else s
  else s

/-- A slot has not finished: its work, or the transfer of its DMA channel, goes on (R34, R35). -/
def State.unfinished (s : State) (d : SlotDef) (x : SlotRun) : Bool :=
  !x.done || (decide (64 ≤ d.engine) && decide (s.r Reg.TIDE_DMA_STATE 0 (d.engine - 64) = 1))

/-- The slots in breach at the fence that ends a wave: their end wave is that wave and they have not finished (R35). -/
def State.breaching (s : State) : List (Nat × SlotDef) :=
  (s.slotTable.zipIdx.map (fun p => (p.2, p.1))).filter (fun p =>
    match Tab.find s.fabric.slots p.1 with
    | some x => decide (x.endWave ≤ s.now) && s.unfinished p.2 x
    | none => false)

/-- The allocation task's slots: a breach there is LATE (R112). The ebb unit allocates nothing. -/
def State.allocBreach (s : State) (d : SlotDef) : Bool :=
  s.dialogues && decide (d.task = s.decl.allocTask ∧ d.part = s.r Reg.ALLOC_ALLOC_PART)

/-- The fence of the wave that ends (WAVE_FENCE, R35 to R38): class order S, M, C, N, H, then partition. -/
def State.fence (s : State) : State :=
  let l := s.breaching
  let ordered := (List.range 5).flatMap (fun c => (List.range 64).flatMap (fun p =>
    l.filter (fun x => decide (s.slotClass x.2 = c ∧ x.2.part = p))))
  let s := s.over ordered (fun x s =>
    let s := s.slotBreach x.2
    if s.allocBreach x.2 then { s with alloc := { s.alloc with late := true } } else s)
  { s with fabric := { s.fabric with slots := s.fabric.slots.filter (fun p => decide (s.now < p.2.endWave)) } }

/-- Rolling self-test runs in the ebb role, and elsewhere when ROLL_EN = 1 (R493). -/
def State.rollsBist (s : State) : Bool := decide (s.r Reg.PAIR_ROLE = 3) || s.rb Reg.BIST_ROLL_EN

/-- A rolling self-test step in a class H slot: whether it passed, and whether it ended a pass (ROLLING_BIST_STEP, R493). -/
def State.rollStep (s : State) (b : Option (Bool × Bool)) : State :=
  match b with
  | none => s
  | some (pass, passEnd) =>
    if !s.rollsBist then s
    else
      let s := if pass then s else (s.wb Reg.BIST_ROLL_FAIL true).ev Reg.BIST_EVENT 2
      if passEnd then
        let s := (s.w Reg.BIST_ROLL_TIME s.fabric.rollTides).inc Reg.BIST_ROLL_PASSES
        s.modFabric (fun f => { f with rollTides := 0 })
      else s

/-- What the scrubber did in a class H slot of the DMA engine (R22). -/
def State.scrubStep (s : State) (work : SlotWork) : State :=
  let s := (s.add Reg.TIDE_SCRUB_CORR work.scrubCorr).add Reg.TIDE_SCRUB_UNCORR work.scrubUncorr
  if work.scrubEnd then
    let n := s.fabric.scrubTides
    let s := (s.w Reg.TIDE_SCRUB_PASS n).wb Reg.TIDE_SCRUB_LATE (decide (8640000 < n))
    s.modFabric (fun f => { f with scrubTides := 0 })
  else s

/-- SLOT_RUN (R25): a slot starts when the previous slot of its engine has ended. -/
def execSlotRun (i : Nat) (work : SlotWork) (s : State) : Host.Outcome State Fault Refusal :=
  match s.slotTable[i]?, Tab.find s.fabric.slots i with
  | some d, some x =>
    if x.started || !s.alive || !s.pins.refclk then .next s
    else
      let earlier := (s.slotTable.zipIdx.filter (fun p => decide (p.2 < i) && decide (p.1.engine = d.engine))).map (·.2)
      if earlier.any (fun j => match Tab.find s.fabric.slots j with | some y => !y.started | none => false) then .next s
      else
        let close (t : Tab SlotRun) : Tab SlotRun :=
          earlier.foldl (fun t j => match Tab.find t j with | some y => Tab.put t j { y with done := true } | none => t) t
        let s := s.modFabric (fun f => { f with slots := Tab.put (close f.slots) i { x with started := true, done := work.finish } })
        let s := if 24 ≤ d.engine ∧ d.engine < 28 then s.cryptoRestart else s
        -- a paused transfer continues by itself in the channel's next slot (R34)
        let s := if 64 ≤ d.engine ∧ s.r Reg.TIDE_DMA_STATE 0 (d.engine - 64) = 4 then
            s.dmaBegin (d.engine - 64) (s.r Reg.TIDE_DMA_DESC 0 (d.engine - 64)) true else s
        if s.slotClass d ≠ 4 then .next s
        else .next ((s.when (decide (64 ≤ d.engine)) (fun s => s.scrubStep work)).rollStep work.bist)
  | _, _ => .next s

/-! ## Ownership (R44 to R46) and counters -/

/-- The outputs, links and loop instances of Table 1.8: the resources that have a released state. -/
def releasable : List Nat :=
  ([(0x01, 16), (0x03, 8), (0x04, 32), (0x05, 6), (0x07, 8), (0x09, 16), (0x0B, 16), (0x0C, 48), (0x0D, 8), (0x0E, 8), (0x0F, 16),
    (0x13, 128)] : List (Nat × Nat)).flatMap (fun x => (List.range x.2).map (resId x.1))

/-- STAT_CLEAR (R47): an applied 1 clears PEAK and STALL_COUNT; the field reads 0 once applied. -/
def execStatClear (s : State) : Host.Outcome State Fault Refusal :=
  if s.rb Reg.TIDE_STAT_CLEAR then
    .next (((s.w Reg.TIDE_PEAK 0).w Reg.TIDE_STALL_COUNT 0).w Reg.TIDE_STAT_CLEAR 0)
  else .next s

/-- REFCLK_STOP (R16): the timebase stops; no wave boundary, fence or slot occurs. -/
def execRefclkStop (s : State) : Host.Outcome State Fault Refusal :=
  .next { s with pins := { s.pins with refclk := false } }

/-- REFCLK_RETURN (R16): the timebase resumes counting ticks. -/
def execRefclkReturn (s : State) : Host.Outcome State Fault Refusal :=
  .next { s with pins := { s.pins with refclk := true } }

end Sys2Proof.Machine
end

