-- ==== Sys2Proof/Machine/Matrix.lean ====
section
/-! DEFINITION. The DC switching matrix: the guard, contactor selects, moves and the planner (chapter 4). -/
namespace Sys2Proof.Machine

set_option cleanup.letToHave false

/-! ## Small readings -/

/-- MPT instance of the DC point of a connector (R224). -/
def dcPoint (n : Nat) : Nat := 8 + n

/-- Connector voltage in 0.1 V and current in 0.1 A as the metrology engine measures them (R238). -/
def State.connV (s : State) (n : Nat) : Nat := (s.ri Reg.MPT_V (dcPoint n)).toNat / 100
/-- Connector current, 0.1 A, magnitude. -/
def State.connI (s : State) (n : Nat) : Nat := (s.ri Reg.MPT_I (dcPoint n)).natAbs / 100

/-- What the model keeps of a cabinet, of a move, of a connector's session. -/
def State.cab (s : State) (c : Nat) : CabI := Tab.getD s.matrix.cabs c {}
/-- Update what the model keeps of a cabinet. -/
def State.modCab (s : State) (c : Nat) (g : CabI → CabI) : State := s.modMatrix (fun m => { m with cabs := Tab.upd m.cabs c {} g })
/-- A move. -/
def State.move (s : State) (m : Nat) : MoveI := Tab.getD s.matrix.moves m {}
/-- Update a move. -/
def State.modMove (s : State) (m : Nat) (g : MoveI → MoveI) : State := s.modMatrix (fun x => { x with moves := Tab.upd x.moves m {} g })
/-- A session beyond its object map. -/
def State.conn (s : State) (n : Nat) : ConnI := Tab.getD s.session.conns n {}
/-- Update a session beyond its object map. -/
def State.modConn (s : State) (n : Nat) (g : ConnI → ConnI) : State := s.modSession (fun x => { x with conns := Tab.upd x.conns n {} g })

/-- The declared cabinets, ascending. -/
def State.cabinets (s : State) : List Nat := (List.range 64).filter (fun c => s.rb Reg.CAB_PRESENT c)

/-- A cabinet is available (R140). -/
def State.cabAvail (s : State) (c : Nat) : Bool := decide (s.r Reg.CAB_STATE c = 1)

/-- The cabinets that stand on a bus, ascending. -/
def State.busCabs (s : State) (b : Nat) : List Nat := s.cabinets.filter (fun c => decide (s.r Reg.CAB_BUS c = b))

/-- The session of a connector is in TRANSFER. -/
def State.inTransfer (s : State) (n : Nat) : Bool := decide (s.r Reg.SESS_STATE n = 7)

/-- The connector a bus is attached to. -/
def State.busConn (s : State) (b : Nat) : Option Nat :=
  if b < 64 ∧ s.r Reg.MTX_BUS_CONN 0 b < 32 then some (s.r Reg.MTX_BUS_CONN 0 b) else none

/-- The bus attached to a connector. -/
def State.connBus (s : State) (n : Nat) : Option Nat :=
  if s.r Reg.MTX_CONN_BUS 0 n < 64 then some (s.r Reg.MTX_CONN_BUS 0 n) else none

/-- The contactors of a kind that join two elements. -/
def State.joins (s : State) (kind a b : Nat) : List Nat :=
  s.contactors.filter (fun k => decide (s.r Reg.MTX_CT_KIND 0 k = kind ∧ s.r Reg.MTX_CT_FROM 0 k = a ∧ s.r Reg.MTX_CT_TO 0 k = b))
/-- The contactors that join a cabinet to a bus. -/
def State.cabJoins (s : State) (c b : Nat) : List Nat := s.joins 1 c b
/-- The contactors that join a bus to a connector. -/
def State.busJoins (s : State) (b n : Nat) : List Nat := s.joins 2 b n

/-- A contactor that carries no mark and whose group awaits no weld check (R132, R134). -/
def State.ctUsable (s : State) (k : Nat) : Bool :=
  !s.ctWelded k && !s.ctFaulty k && !s.matrix.check.getLsbD (s.r Reg.MTX_CT_GROUP 0 k) &&
    !s.matrix.cut.getLsbD (s.r Reg.MTX_CT_GROUP 0 k)

/-- The contactor to close among those that join two elements: the first that is usable. -/
def State.toClose (s : State) (l : List Nat) : Option Nat := l.find? s.ctUsable
/-- The contactor to open: the one whose select is on, else the one that reads closed. -/
def State.toOpen (s : State) (l : List Nat) : Option Nat :=
  match l.find? (fun k => s.rb Reg.MTX_CT_CMD 0 k) with
  | some k => some k
  | none => match l.find? (fun k => s.rb Reg.MTX_CT_MIRROR 0 k) with
    | some k => some k
    | none => l.head?

/-! ## The guard and the selects (R120 to R124) -/

/-- Bit of contactor `k` in guard set `g`. -/
def State.inGuard (s : State) (g k : Nat) : Bool := s.rbit Reg.MTX_GUARD_MASK (k % 32) 0 g (k / 32)

/-- The guard lets a contactor be turned on: no other member of a set with it counts as possibly closed (R122). -/
def State.guardPasses (s : State) (k : Nat) : Bool :=
  (List.range 192).all (fun g =>
    !s.inGuard g k || s.contactors.all (fun j => decide (j = k) || !s.inGuard g j || !s.ctMaybeClosed j))

/-- Show a contactor's state: the marks stay, an unreadable mirror shows as such. -/
def State.ctRefresh (s : State) (k : Nat) : State :=
  if s.ctWelded k || s.ctFaulty k then s
  else
    let cmd := s.rb Reg.MTX_CT_CMD 0 k
    let mir := s.rb Reg.MTX_CT_MIRROR 0 k
    s.w Reg.MTX_CT_STATE (if s.ctUnreadable k then 6 else if cmd && mir then 2 else if cmd then 1 else if mir then 3 else 0) 0 k

/-- Turn a select off. -/
def State.selectOff (s : State) (k : Nat) : State :=
  let s := s.wb Reg.MTX_CT_CMD false 0 k
  let s := if s.r Reg.MTX_CT_SEL_KIND 0 k = 1 then s.lsCommand (s.r Reg.MTX_CT_SEL_INDEX 0 k) false else s
  s.ctRefresh k

/-- The guard blocks a select (GUARD_BLOCK, R122). -/
def State.guardBlock (s : State) (k : Nat) : State :=
  (((s.inc Reg.MTX_GUARD_BLOCKS).ev Reg.MTX_EVENT 0).emit (.report 0x0501 k)).sf5Guard (s.r Reg.MTX_CT_GROUP 0 k)

/-- Turn a select on through the guard; a marked contactor is never selected (R132). -/
def State.selectOn (s : State) (k : Nat) : State :=
  if s.rb Reg.MTX_CT_CMD 0 k || s.ctWelded k || s.ctFaulty k then s
  else if s.guardPasses k then
    let s := s.wb Reg.MTX_CT_CMD true 0 k
    let s := if s.r Reg.MTX_CT_SEL_KIND 0 k = 1 then s.lsCommand (s.r Reg.MTX_CT_SEL_INDEX 0 k) true else s
    s.ctRefresh k
  else s.guardBlock k

/-- Mark a contactor welded: MTX.EVENT bit 1, and the SF5 entries see the mark. -/
def State.markWelded (s : State) (k : Nat) : State :=
  ((s.w Reg.MTX_CT_STATE 4 0 k).ev Reg.MTX_EVENT 1).sf5Weld

/-- Mark a contactor faulty; a welded mark stands. -/
def State.markFaulty (s : State) (k : Nat) : State := if s.ctWelded k then s else s.w Reg.MTX_CT_STATE 5 0 k

/-- The mirror of a contactor as its source reads: a SIN low, or a MIRROR_MASK bit, is closed (R124). -/
def State.mirrorRead (s : State) (k : Nat) : Bool :=
  if s.r Reg.MTX_CT_SEL_KIND 0 k = 2 then
    s.rbit Reg.CAB_MIRROR_MASK (s.r Reg.MTX_CT_SEL_BIT 0 k) (s.r Reg.MTX_CT_SEL_INDEX 0 k)
  else !s.rb Reg.SAFE_SIN_STATE 0 (s.r Reg.MTX_CT_MIRROR_SIN 0 k)

/-- The mirrors of a wave, and for how long each has read open. -/
def State.mirrorWave (s : State) : State :=
  s.over s.contactors (fun k s =>
    let s := if s.ctUnreadable k then s else s.wb Reg.MTX_CT_MIRROR (s.mirrorRead k) 0 k
    let isOpen := !s.ctUnreadable k && !s.rb Reg.MTX_CT_MIRROR 0 k
    (s.modMatrix (fun m => { m with open_ := Tab.put m.open_ k (if isOpen then min 4000 (Tab.getD m.open_ k 0 + 1) else 0) })).ctRefresh k)

/-! ## Placement bookkeeping -/

/-- Connector direction: 2 = export. -/
def State.exporting (s : State) (n : Nat) : Bool := decide (s.r Reg.ALLOC_DIRECTION 0 n = 2)

/-- Summed R_EFF of a list of cabinets. -/
def State.sumR (s : State) (l : List Nat) : Nat := l.foldl (fun v c => v + s.r Reg.CAB_R_EFF c) 0

/-- P_conn of a bus: cabinets on it and not in a move; bidirectional ones only for export (R114, R119). -/
def State.busP (s : State) (b : Nat) : Nat :=
  let exp := match s.busConn b with | some n => s.exporting n | none => false
  s.sumR ((s.busCabs b).filter (fun c => !s.rb Reg.CAB_IN_MOVE c && (!exp || s.rb Reg.CAB_BIDIR c)))

/-- P_conn of a connector (R114). -/
def State.connP (s : State) (n : Nat) : Nat := match s.connBus n with | some b => s.busP b | none => 0

/-- Show what stands on each bus. -/
def State.busRefresh (s : State) : State :=
  s.each 64 (fun b s =>
    let l := s.busCabs b
    let lo := l.foldl (fun v c => if c < 32 then v + 2 ^ c else v) 0
    let hi := l.foldl (fun v c => if 32 ≤ c then v + 2 ^ (c - 32) else v) 0
    ((s.w Reg.MTX_BUS_CAB_LO lo 0 b).w Reg.MTX_BUS_CAB_HI hi 0 b).w Reg.MTX_BUS_P_CONN (s.busP b) 0 b)

/-- Attach a bus to a connector, or detach it. -/
def State.attach (s : State) (b n : Nat) : State :=
  ((s.w Reg.MTX_BUS_CONN n 0 b).w Reg.MTX_CONN_BUS b 0 n).w Reg.MTX_CONN_STATE 2 0 n
/-- Detach a bus from its connector. -/
def State.detach (s : State) (b : Nat) : State :=
  match s.busConn b with
  | some n => ((s.w Reg.MTX_BUS_CONN 0xFF 0 b).w Reg.MTX_CONN_BUS 0xFF 0 n).w Reg.MTX_CONN_STATE 0 0 n
  | none => s

/-- The vehicle offers discharge (R162). -/
def State.offersDischarge (s : State) (n : Nat) : Bool :=
  let v := (s.conn n).veh
  if s.r Reg.SESS_CONTROL_MODE n = 2 then decide (0 < v.maxDischargeP.getD 0)
  else match v.maxDischargeP with
    | some p => decide (0 < p)
    | none => decide (v.targetI < 0)

/-- What the session gives allocation as the vehicle's limit in kW, for import or export (R161). -/
def State.vehCap (s : State) (n : Nat) (exp : Bool) : Nat :=
  let v := (s.conn n).veh
  let kw := v.targetI.natAbs * s.r Reg.SESS_V_TARGET n / 100000
  if s.r Reg.SESS_CONTROL_MODE n = 2 then (if exp then v.maxDischargeP.getD 0 else v.maxChargeP)
  else if exp then
    (if !s.offersDischarge n then 0 else match v.maxDischargeP with
      | some p => p
      | none => if v.targetI < 0 then kw else 0)
  else if v.targetI < 0 then 0 else kw

/-- Reachable capacity of a connector (R119). -/
def State.reach (s : State) (n : Nat) (exp : Bool) : Nat :=
  let buses := match s.connBus n with
    | some b => [b]
    | none => (List.range 64).filter (fun b => !(s.busJoins b n).isEmpty)
  s.sumR (s.cabinets.filter (fun c => (!exp || s.rb Reg.CAB_BIDIR c) && buses.any (fun b => !(s.cabJoins c b).isEmpty)))

/-! ## Moves (R130 to R133) -/

/-- Slot holds a move. -/
def State.mvBusy (s : State) (m : Nat) : Bool := decide (s.r Reg.MTX_MV_TYPE 0 m ≠ 0)
/-- The slots that hold a move. -/
def State.busyMoves (s : State) : List Nat := (List.range 8).filter s.mvBusy
/-- A cabinet move. -/
def State.mvCab (s : State) (m : Nat) : Bool := decide (s.r Reg.MTX_MV_TYPE 0 m = 1)
/-- Subject of a move. -/
def State.mvSubject (s : State) (m : Nat) : Nat := s.r Reg.MTX_MV_SUBJECT 0 m
/-- Phase of a move. -/
def State.mvPhase (s : State) (m : Nat) : Nat := s.r Reg.MTX_MV_PHASE 0 m

/-- Contactor numbers are 9 bits; 0x1FF is none. -/
def ctOpt (k : Nat) : Option Nat := if k < 256 then some k else none

/-- Contactor a move opens. -/
def State.mvOpen (s : State) (m : Nat) : Option Nat := ctOpt (s.r Reg.MTX_MV_OPEN 0 m)
/-- Contactor a move closes. -/
def State.mvClose (s : State) (m : Nat) : Option Nat := ctOpt (s.r Reg.MTX_MV_CLOSE 0 m)

/-- The cabinets a move concerns: its subject, or all on the bus. -/
def State.mvCabs (s : State) (m : Nat) : List Nat := if s.mvCab m then [s.mvSubject m] else s.busCabs (s.mvSubject m)

/-- The connector that the cabinet or bus of a move serves. -/
def State.mvServes (s : State) (m : Nat) : Option Nat :=
  if s.mvCab m then (if s.r Reg.CAB_BUS (s.mvSubject m) < 64 then s.busConn (s.r Reg.CAB_BUS (s.mvSubject m)) else none)
  else s.busConn (s.mvSubject m)

/-- The connector the far side of a move's close leads to. -/
def State.mvFar (s : State) (m : Nat) : Option Nat :=
  if s.mvCab m then (match (s.move m).dest with | some b => s.busConn b | none => none) else (s.move m).dest

/-- A phase applies to a move (R130). -/
def State.phaseApplies (s : State) (m p : Nat) : Bool :=
  match p with
  | 1 => (s.mvOpen m).isSome && (s.mvServes m).isSome
  | 2 | 3 => (s.mvOpen m).isSome
  | 4 | 5 => (s.mvClose m).isSome
  | 6 => (s.mvClose m).isSome && (match s.mvFar m with | some n => s.inTransfer n | none => false)
  | _ => false

/-- End a move: DONE with code 0, otherwise aborted or cancelled. -/
def State.mvEnd (s : State) (m code : Nat) : State :=
  let isCab := s.mvCab m
  let sub := s.mvSubject m
  let conn := (s.move m).conn
  let releasing := !isCab && (s.move m).dest.isNone
  let s := ((s.w Reg.MTX_MV_TYPE 0 0 m).w Reg.MTX_MV_PHASE 0 0 m).w Reg.MTX_MV_RESULT code 0 m
  let s := s.dec Reg.MTX_PENDING
  let s := if code = 0 then s.inc Reg.MTX_MOVES_DONE else s.inc Reg.MTX_MOVES_ABORTED
  let s := s.modMatrix (fun x => { x with moves := Tab.del x.moves m })
  let s := if isCab then
      let s := s.w Reg.CAB_IN_MOVE 0 sub
      (s.w Reg.CAB_DWELL_LEFT (s.r Reg.MTX_DWELL) sub).modCab sub (fun x => { x with moved := true })
    else if releasing ∧ code = 0 then
      -- the cabinets stay parked, with their dwell cleared (R129)
      s.over (s.busCabs sub) (fun c s => s.w Reg.CAB_DWELL_LEFT 0 c)
    else s
  -- requests that stand: a path until it is DONE or withdrawn, a release until DONE or 0x0503 (R128, R517)
  let s := match isCab, conn with
    | false, some n =>
      if releasing then
        if code = 0 ∨ code = 0x503 then s.modMatrix (fun x => { x with releases := x.releases.filter (· ≠ n) })
        else s.modMatrix (fun x => { x with releases := if x.releases.contains n then x.releases else x.releases ++ [n] })
      else if code = 0 then s.modMatrix (fun x => { x with paths := x.paths.filter (· ≠ n) })
      else s.w Reg.MTX_CONN_STATE (if (s.connBus n).isSome then 2 else 0) 0 n
    | _, _ => s
  -- a bus move that waits for this cabinet move (Table 4.2, WAIT)
  let waiting := s.busyMoves.filter (fun j => decide ((s.move j).waitFor = some m))
  let s := s.over waiting (fun j s =>
    if code = 0 then s.modMove j (fun x => { x with waitFor := none })
    else
      let w := (s.move j).conn
      let s := ((s.w Reg.MTX_MV_TYPE 0 0 j).w Reg.MTX_MV_PHASE 0 0 j).w Reg.MTX_MV_RESULT 0x507 0 j
      let s := (s.dec Reg.MTX_PENDING).inc Reg.MTX_MOVES_ABORTED
      let s := s.modMatrix (fun x => { x with moves := Tab.del x.moves j })
      match w with | some n => s.w Reg.MTX_CONN_STATE 0 0 n | none => s)
  s.busRefresh

/-- Enter a phase (Table 4.2, action on entry). -/
def State.mvEnter (s : State) (m p : Nat) : State :=
  let s := (s.w Reg.MTX_MV_PHASE p 0 m).modMove m (fun x => { x with waves := 0, ok := 0 })
  match p with
  | 1 => s.over (s.mvCabs m) (fun c s => s.modCab c (fun x => { x with zero := 0 }))
  | 2 => match s.mvOpen m with | some k => s.selectOff k | none => s
  | 4 =>
    if !s.mvCab m ∧ ((s.mvCabs m).filter s.cabAvail).isEmpty then (s.ev Reg.MTX_EVENT 3).mvEnd m 0x504
    else s.over (s.mvCabs m) (fun c s => s.modCab c (fun x => { x with cutGroups := 0 }))
  | 5 => match s.mvClose m with | some k => s.selectOn k | none => s
  | _ => s

/-- What the end of WELD_CHECK separates, and what the end of CLOSE joins. -/
def State.mvOpened (s : State) (m : Nat) : State :=
  if s.mvCab m then (s.w Reg.CAB_BUS 0xFF (s.mvSubject m)).busRefresh else (s.detach (s.mvSubject m)).busRefresh
/-- What a close joins. -/
def State.mvClosed (s : State) (m : Nat) : State :=
  let s := match s.mvClose m with
    | some k => s.w Reg.MTX_CT_OPS (min (s.r Reg.MTX_CT_OPS 0 k + 1) 0xFFFFFF) 0 k
    | none => s
  match (s.move m).dest with
  | some d => if s.mvCab m then (s.w Reg.CAB_BUS d (s.mvSubject m)).busRefresh else (s.attach (s.mvSubject m) d).busRefresh
  | none => s

/-- Leave a phase for the next one that applies, or end DONE. -/
def State.mvNext (s : State) (m : Nat) : State :=
  let p := s.mvPhase m
  let s := if p = 3 then s.mvOpened m else if p = 5 then s.mvClosed m else s
  let from_ := if p = 7 then 0 else p
  match ([1, 2, 3, 4, 5, 6].filter (fun q => decide (from_ < q))).find? (fun q => s.phaseApplies m q) with
  | some q => s.mvEnter m q
  | none => s.mvEnd m 0

/-- The cabinets that the zero-current test of RAMP_DOWN counts (R130). -/
def State.zeroCounted (s : State) (m : Nat) : List Nat :=
  if s.mvCab m then s.mvCabs m else (s.mvCabs m).filter (fun c => s.cabAvail c || decide (s.now < (s.cab c).hold))

/-- The zero-current test of RAMP_DOWN. -/
def State.zeroTest (s : State) (m : Nat) : Bool :=
  (s.zeroCounted m).all (fun c => decide (4 ≤ (s.cab c).zero)) &&
    (s.mvCab m || (match s.mvServes m with | some n => decide (s.connI n ≤ s.r Reg.MTX_ZERO_I) | none => true))

/-- The voltage-match test of MATCH in one wave. -/
def State.matchTest (s : State) (m : Nat) : Bool :=
  let far := match s.mvFar m with | some n => s.connV n | none => 0
  let l := if s.mvCab m then s.mvCabs m else (s.mvCabs m).filter s.cabAvail
  l.all (fun c =>
    let v := s.r Reg.CAB_V_OUT c
    decide (v - far ≤ s.r Reg.MTX_MATCH_V ∧ far - v ≤ s.r Reg.MTX_MATCH_V))

/-- A mirror reads open, or closed, readable. -/
def State.readsOpen (s : State) (k : Option Nat) : Bool :=
  match k with | some k => !s.ctUnreadable k && !s.rb Reg.MTX_CT_MIRROR 0 k | none => true
/-- A mirror reads closed. -/
def State.readsClosed (s : State) (k : Option Nat) : Bool :=
  match k with | some k => !s.ctUnreadable k && s.rb Reg.MTX_CT_MIRROR 0 k | none => false
/-- The cabinet of a cabinet move is lost or in fault, and the mirror of the contactor it opens cannot be read (Table 4.3). -/
def State.mvBlind (s : State) (m : Nat) : Bool :=
  s.mvCab m && decide (s.r Reg.CAB_STATE (s.mvSubject m) = 3 ∨ s.r Reg.CAB_STATE (s.mvSubject m) = 4) &&
    (match s.mvOpen m with | some k => s.ctUnreadable k | none => false)

/-- A contactor reads closed in WELD_CHECK, or has not opened: abort 0x0503. -/
def State.mvWeld (s : State) (m : Nat) : State :=
  let s := match s.mvOpen m with | some k => s.markWelded k | none => s
  if s.mvBusy m then s.mvEnd m 0x503 else s

/-- One wave of a move (MOVE_START, MOVE_PHASE_ADVANCE). -/
def State.mvWave (s : State) (m : Nat) : State :=
  if !s.mvBusy m then s
  else
    let x := s.move m
    if s.mvPhase m = 0 then
      if x.start ≤ s.now then
        let s := s.w Reg.MTX_MV_WAVES 0 0 m
        if x.waitFor.isSome then s.mvEnter m 7 else s.mvNext m
      else s
    else
      let s := s.incSat Reg.MTX_MV_WAVES 0 m
      let s := s.modMove m (fun x => { x with waves := x.waves + 1 })
      match s.mvPhase m with
      | 1 => if s.zeroTest m then s.mvNext m else s
      | 2 =>
        if s.readsOpen (s.mvOpen m) then s.mvNext m
        else if s.mvBlind m then s.modMove m (fun x => { x with waves := 0 }) else s
      | 3 =>
        if s.readsClosed (s.mvOpen m) then s.mvWeld m
        else s.modMove m (fun x => { x with ok := if s.readsOpen (s.mvOpen m) then x.ok + 1 else 0, waves := if s.mvBlind m then 0 else x.waves })
      | 4 =>
        if !s.mvCab m ∧ ((s.mvCabs m).filter s.cabAvail).isEmpty then (s.ev Reg.MTX_EVENT 3).mvEnd m 0x504
        else
          let s := s.modMove m (fun x => { x with ok := if s.matchTest m then x.ok + 1 else 0 })
          if 4 ≤ (s.move m).ok then s.mvNext m else s
      | 5 =>
        let s := s.modMove m (fun x => { x with ok := if s.readsClosed (s.mvClose m) then x.ok + 1 else 0 })
        if 4 ≤ (s.move m).ok then s.mvNext m else s
      | 7 => if (s.move m).waitFor.isNone then s.mvNext m else s
      | _ => s

/-- The target connector's session leaves TRANSFER (MOVE_CANCEL, Table 4.3). DESIGN CHOICE: a move whose pending close is
dropped in OPEN or WELD_CHECK ends DONE when its weld check has passed, a result for which the table names no code; in CLOSE a
close counts as made from the first wave in which the mirror reads closed, and before that the select is turned off and the
move ends with 0x0507. -/
def State.mvLeaveTransfer (s : State) (n : Nat) : State :=
  s.over (s.busyMoves.filter (fun m => s.mvCab m && decide (s.mvFar m = some n))) (fun m s =>
    match s.mvPhase m with
    | 2 | 3 => s.w Reg.MTX_MV_CLOSE 0x1FF 0 m
    | 5 =>
      if s.readsClosed (s.mvClose m) then s
      else
        let s := match s.mvClose m with | some k => s.selectOff k | none => s
        s.mvEnd m 0x507
    | 6 => s
    | _ => s.mvEnd m 0x507)

/-- A cabinet is lost or enters fault while the subject of a cabinet move (Table 4.3). -/
def State.mvCabStrike (s : State) (c : Nat) : State :=
  s.over (s.busyMoves.filter (fun m => s.mvCab m && decide (s.mvSubject m = c))) (fun m s =>
    match s.mvPhase m with
    | 2 | 3 => s
    | 0 | 1 | 7 => s.mvEnd m 0x507
    | _ =>
      let s := match s.mvClose m with | some k => s.selectOff k | none => s
      -- a contactor that had closed carries the cabinet no longer
      let s := if s.mvPhase m = 6 then s.w Reg.CAB_BUS 0xFF c else s
      (s.ev Reg.MTX_EVENT 5).mvEnd m 0x506)

/-! ## Issuing moves (R127 to R129) -/

/-- A free move slot, with the slots that MOVE_MAX allows. -/
def State.freeSlot (s : State) : Option Nat :=
  if s.r Reg.MTX_PENDING < s.r Reg.MTX_MOVE_MAX then (List.range 8).find? (fun m => !s.mvBusy m) else none

/-- Issue a move in a slot. -/
def State.mvIssue (s : State) (m type subject : Nat) (openK closeK : Option Nat) (x : MoveI) : State :=
  let s := ((s.w Reg.MTX_MV_TYPE type 0 m).w Reg.MTX_MV_PHASE 0 0 m).w Reg.MTX_MV_SUBJECT subject 0 m
  let s := (s.w Reg.MTX_MV_OPEN (openK.getD 0x1FF) 0 m).w Reg.MTX_MV_CLOSE (closeK.getD 0x1FF) 0 m
  let s := ((s.w Reg.MTX_MV_TIDE (s.tide % 4294967296) 0 m).w Reg.MTX_MV_WAVES 0 0 m).inc Reg.MTX_PENDING
  s.modMatrix (fun y => { y with moves := Tab.put y.moves m { x with start := s.now - s.wave + 8 } })

/-- Issue a cabinet move to a bus, or to no bus; answers the slot. -/
def State.issueCab (s : State) (c : Nat) (dest : Option Nat) : Option Nat × State :=
  match s.freeSlot with
  | none => (none, s)
  | some m =>
    let here := s.r Reg.CAB_BUS c
    let openK := if here < 64 then s.toOpen (s.cabJoins c here) else none
    let closeK := match dest with | some b => s.toClose (s.cabJoins c b) | none => none
    let s := s.mvIssue m 1 c openK closeK { dest := dest, conn := match dest with | some b => s.busConn b | none => none }
    (some m, (s.w Reg.CAB_IN_MOVE 1 c).busRefresh)

/-- Issue a bus move to a connector, or to no connector. -/
def State.issueBus (s : State) (b : Nat) (n : Nat) (attach : Bool) (waitFor : Option Nat) : State :=
  match s.freeSlot with
  | none => s
  | some m =>
    let l := s.busJoins b n
    let s := if attach then s.mvIssue m 2 b none (s.toClose l) { dest := some n, conn := some n, waitFor := waitFor }
      else s.mvIssue m 2 b (s.toOpen l) none { dest := none, conn := some n }
    s.w Reg.MTX_CONN_STATE (if attach then 1 else 3) 0 n

/-! ## The planner (R125, R126, R128, R129, R517) -/

/-- A cabinet is free or parked. -/
def State.freeOrParked (s : State) (c : Nat) : Bool :=
  let b := s.r Reg.CAB_BUS c
  !s.rb Reg.CAB_IN_MOVE c && (decide (64 ≤ b) || (s.busConn b).isNone)

/-- Dwell has elapsed and the cabinet is not in a move. -/
def State.mayMove (s : State) (c : Nat) : Bool := !s.rb Reg.CAB_IN_MOVE c && decide (s.r Reg.CAB_DWELL_LEFT c = 0)

/-- Magnitude of the allocation. -/
def State.allocAbs (s : State) (n : Nat) : Nat := (s.ri Reg.ALLOC_ALLOCATED 0 n).natAbs

/-- Summed R_EFF of cabinets in moves onto a bus issued at earlier boundaries (W(n) of R125). -/
def State.incoming (s : State) (b : Nat) : Nat :=
  s.sumR ((s.busyMoves.filter (fun m => s.mvCab m && decide ((s.move m).dest = some b))).map s.mvSubject)

/-- The deficit of a connector (R125). -/
def State.deficit (s : State) (n : Nat) : Int :=
  (s.allocAbs n : Int) - s.connP n - (match s.connBus n with | some b => s.incoming b | none => 0)

/-- The connectors that the placement serves. -/
def State.placed (s : State) : List Nat := (List.range 32).filter (fun n => s.inTransfer n && (s.connBus n).isSome)

/-- A connector can give up a cabinet of rating `r` (the donor and release test of R125). -/
def State.spare (s : State) (m r : Nat) : Bool :=
  decide ((100 + s.r Reg.MTX_REL_PCT) * r + 100 * s.allocAbs m ≤ 100 * s.connP m)

/-- The pick of R125: the largest r(c) up to d, else the smallest r(c); the lowest number among equals. -/
def State.pick (s : State) (d : Nat) (l : List Nat) : Option Nat :=
  let r := fun c => s.r Reg.CAB_R_EFF c
  let under := l.filter (fun c => decide (r c ≤ d))
  if under.isEmpty then l.foldl (fun b c => match b with | none => some c | some x => if r c < r x then some c else b) none
  else under.foldl (fun b c => match b with | none => some c | some x => if r x < r c then some c else b) none

/-- Place cabinets on the bus of one connector; `fuel` bounds the moves. -/
def State.placeFor (s : State) (n b : Nat) : Nat → Int → State
  | 0, _ => s
  | k + 1, d =>
    if d ≤ 0 ∨ s.freeSlot.isNone then s
    else
      let fits := fun c => s.cabAvail c && s.mayMove c && (s.toClose (s.cabJoins c b)).isSome &&
        (!s.exporting n || s.rb Reg.CAB_BIDIR c) &&
        decide ((s.r Reg.MTX_ADD_PCT * s.r Reg.CAB_R_EFF c : Int) ≤ 100 * d)
      let f := s.cabinets.filter (fun c => s.freeOrParked c && decide (s.r Reg.CAB_BUS c ≠ b) && fits c)
      let donors := s.cabinets.filter (fun c =>
        match s.busConn (s.r Reg.CAB_BUS c) with
        | some m => decide (m ≠ n) && s.inTransfer m && fits c && s.spare m (s.r Reg.CAB_R_EFF c)
        | none => false)
      match s.pick d.toNat (if f.isEmpty then donors else f) with
      | none => s
      | some c =>
        let r := s.r Reg.CAB_R_EFF c
        State.placeFor (s.issueCab c (some b)).2 n b k (d - r)

/-- The connectors by descending deficit, ties ascending. -/
def State.byDeficit (s : State) : List Nat :=
  s.placed.foldl (fun l n =>
    let (a, b) := l.partition (fun m => decide (s.deficit n ≤ s.deficit m))
    a ++ [n] ++ b) []

/-- The cabinet a connector releases: the largest rating that passes the test, the highest number among equals; a
unidirectional cabinet on an exporting connector needs no test (R126). -/
def State.releasePick (s : State) (m b : Nat) : Option Nat :=
  let l := (s.busCabs b).filter (fun c => s.mayMove c &&
    ((s.exporting m && !s.rb Reg.CAB_BIDIR c) || s.spare m (s.r Reg.CAB_R_EFF c)))
  l.foldl (fun x c => match x with
    | none => some c
    | some y => if s.r Reg.CAB_R_EFF y ≤ s.r Reg.CAB_R_EFF c then some c else x) none

/-- The release loop for one connector. -/
def State.releaseFor (s : State) (m b : Nat) : Nat → State
  | 0 => s
  | k + 1 =>
    if s.freeSlot.isNone then s
    else match s.releasePick m b with
      | none => s
      | some c => State.releaseFor (s.issueCab c none).2 m b k

/-- CABINET_PLACEMENT (R125, R126): the placement loop, then the release loop. The deficits are those that stand before
the loop issues its first move. -/
def State.placement (s : State) : State :=
  let order := s.byDeficit.map (fun n => (n, s.deficit n))
  let s := s.over order (fun p s => match s.connBus p.1 with | some b => s.placeFor p.1 b 8 p.2 | none => s)
  s.over s.placed (fun n s => match s.connBus n with | some b => s.releaseFor n b 8 | none => s)

/-- The bus of a session path (R128 step 1): the lowest that holds a parked, available cabinet, else the lowest. -/
def State.pathBus (s : State) (n : Nat) : Option Nat :=
  let l := (List.range 64).filter (fun b => (s.toClose (s.busJoins b n)).isSome && (s.busConn b).isNone &&
    !s.busyMoves.any (fun m => !s.mvCab m && decide (s.mvSubject m = b)))
  let held := l.filter (fun b => (s.busCabs b).any (fun c => s.cabAvail c && !s.rb Reg.CAB_IN_MOVE c))
  match held with
  | b :: _ => some b
  | [] => l.head?

/-- The cabinet moved onto the bus of a path (R128 step 2). -/
def State.pathCab (s : State) (n b : Nat) : Option Nat :=
  let ok := fun c => s.cabAvail c && s.mayMove c && (s.toClose (s.cabJoins c b)).isSome
  match s.cabinets.find? (fun c => ok c && s.freeOrParked c) with
  | some c => some c
  | none =>
    (s.cabinets.filter (fun c => ok c && (match s.busConn (s.r Reg.CAB_BUS c) with
      | some m => decide (m ≠ n) && s.inTransfer m && s.spare m (s.r Reg.CAB_R_EFF c)
      | none => false))).foldl (fun x c => match x with
        | none => some c
        | some y => if s.r Reg.CAB_R_EFF c < s.r Reg.CAB_R_EFF y then some c else x) none

/-- A connector waits for a path: with no bus or cabinet EVENT bit 7 is set as well, and 0x050A reported (R128). -/
def State.pathWaits (s : State) (n : Nat) (nothing : Bool) : State :=
  let s := s.w Reg.MTX_CONN_STATE 4 0 n
  if nothing then (s.ev Reg.MTX_EVENT 7).emit (.report 0x050A n) else s

/-- The cabinet move under way onto a bus. -/
def State.bound (s : State) (b : Nat) : Option Nat :=
  s.busyMoves.find? (fun m => s.mvCab m && decide ((s.move m).dest = some b))

/-- The bus move of a path, or the wait for a free slot. -/
def State.pathMove (s : State) (b n : Nat) (waitFor : Option Nat) : State :=
  if s.freeSlot.isSome then s.issueBus b n true waitFor else s.pathWaits n false

/-- SESSION_PATH (R128, R517): provide a bus and a cabinet for one session. A move that finds no free slot is not issued; a
cabinet move of an earlier boundary onto the bus is not issued again. -/
def State.sessionPath (s : State) (n : Nat) : State :=
  if (s.connBus n).isSome ∨ s.busyMoves.any (fun m => !s.mvCab m && decide ((s.move m).conn = some n)) then s
  else
    match s.pathBus n with
    | none => s.pathWaits n true
    | some b =>
      if (s.busCabs b).any (fun c => s.cabAvail c && !s.rb Reg.CAB_IN_MOVE c) then s.pathMove b n none
      else if (s.bound b).isSome then s.pathMove b n (s.bound b)
      else match s.pathCab n b with
        | none => s.pathWaits n true
        | some c => match s.issueCab c (some b) with
          | (some m, s) => s.pathMove b n (some m)
          | (none, s) => s.pathWaits n false

/-- PATH_RELEASE (R129): a bus move detaches a released path. -/
def State.pathRelease (s : State) (n : Nat) : State :=
  match s.connBus n with
  | some b =>
    if s.busyMoves.any (fun m => !s.mvCab m && decide (s.mvSubject m = b)) then s else s.issueBus b n false none
  | none =>
    if s.busyMoves.any (fun m => !s.mvCab m && decide ((s.move m).conn = some n)) then s
    else s.modMatrix (fun x => { x with releases := x.releases.filter (· ≠ n) })

/-- A session asks for a path, or withdraws the request, or releases it. -/
def State.askPath (s : State) (n : Nat) : State :=
  s.modMatrix (fun x => { x with paths := if x.paths.contains n then x.paths else x.paths ++ [n] })
/-- Withdraw a path request. -/
def State.dropPath (s : State) (n : Nat) : State :=
  let s := s.modMatrix (fun x => { x with paths := x.paths.filter (· ≠ n) })
  if s.r Reg.MTX_CONN_STATE 0 n = 4 then s.w Reg.MTX_CONN_STATE 0 0 n else s
/-- Ask for the release of a path. -/
def State.askRelease (s : State) (n : Nat) : State :=
  s.modMatrix (fun x => { x with releases := if x.releases.contains n then x.releases else x.releases ++ [n] })

/-- In the ebb role the planner issues no move (R136). -/
def State.plans (s : State) : Bool := s.running && !decide (s.r Reg.PAIR_ROLE = 3)

/-- MATRIX_PLAN (R517): releases, session paths, placement; `lowWater` gives the cabinet releases of R486. -/
def State.matrixPlan (s : State) (lowWater : State → State) : State :=
  if !s.plans then s
  else
    let s := s.over ((List.range 32).filter (fun n => s.matrix.releases.contains n)) (fun n s => s.pathRelease n)
    let s := s.over ((List.range 32).filter (fun n => s.matrix.paths.contains n)) (fun n s => s.sessionPath n)
    let s := s.placement
    lowWater s

/-- Effective ratings, dwell and cabinets that become available again (R119, R140, CABINET_AVAILABLE). -/
def State.cabTide (s : State) : State :=
  let s := s.over s.cabinets (fun c s =>
    let back := s.rbit Reg.CAB_REP_FLAGS 0 c && decide (s.r Reg.CAB_REP_STATE c ≠ 4 ∧ s.r Reg.CAB_REP_STATE c ≠ 5) && !(s.cab c).devFault
    let s := if (s.r Reg.CAB_STATE c = 2 ∨ s.r Reg.CAB_STATE c = 3) ∧ back then s.w Reg.CAB_STATE 1 c else s
    let s := if (s.cab c).moved then s.modCab c (fun x => { x with moved := false }) else s.dec Reg.CAB_DWELL_LEFT c
    s.w Reg.CAB_R_EFF (if s.cabAvail c then min (s.r Reg.CAB_RATING c) (s.r Reg.CAB_P_AVAIL c) else 0) c)
  s.busRefresh

/-! ## Cabinet traffic (R137 to R141, R516) -/

/-- The move that concerns a cabinet, past its start. -/
def State.moveOf (s : State) (c : Nat) : Option Nat :=
  s.busyMoves.find? (fun m => (s.mvCabs m).contains c && decide (s.mvPhase m ≠ 0))

/-- Sharing weight of a cabinet (R139). -/
def State.shareWeight (s : State) (c : Nat) : Nat :=
  let full := s.r Reg.MTX_RAMP_WAVES
  match s.moveOf c with
  | none => full
  | some m =>
    match s.mvPhase m with
    | 1 => full - (s.move m).waves
    | 6 => min full (s.move m).waves
    | _ => full

/-- Rating a cabinet shares with: a lost cabinet keeps its own while it may still drive current (R141). -/
def State.shareR (s : State) (c : Nat) : Nat := if s.cabAvail c then s.r Reg.CAB_R_EFF c else (s.cab c).heldR

/-- A cabinet that was sharing when it was lost, and may still drive current (R141). -/
def State.stillShares (s : State) (c : Nat) : Bool :=
  decide (s.r Reg.CAB_STATE c = 4 ∧ 0 < (s.cab c).heldR) && !(s.cab c).shareOut

/-- The cabinets that share a connector's current (R139): the available ones on its bus, but for those in OPEN, WELD_CHECK or
MATCH, and the lost ones that were there and may still drive current. -/
def State.sharing (s : State) (n : Nat) (cmd : Int) : List Nat :=
  match s.connBus n with
  | none => []
  | some b => s.cabinets.filter (fun c =>
      (decide (s.r Reg.CAB_BUS c = b) && s.cabAvail c &&
          (match s.moveOf c with | some m => decide (s.mvPhase m < 2 ∨ 4 < s.mvPhase m) | none => true) ||
        s.stillShares c && decide ((s.cab c).heldBus = b)) && (decide (0 ≤ cmd) || s.rb Reg.CAB_BIDIR c))

/-- Truncated quotient. -/
def truncDiv (a b : Int) : Int := Int.tdiv a b

/-- Steps 2 and 3 of R139: the limited share of each cabinet. DESIGN CHOICE: the rule states no quotient where its divisor is 0;
it is left free. -/
def State.shares (s : State) (cmd : Int) (l : List Nat) : List (Nat × Int) :=
  let total := l.foldl (fun v c => v + s.shareWeight c * s.shareR c) 0
  l.map (fun c =>
    let sh := if total = 0 then Config.zeroShare cmd c else truncDiv (cmd * s.shareWeight c * s.shareR c) total
    let lim : Int := s.r Reg.CAB_I_RATED c
    (c, max (-lim) (min lim sh)))

/-- One pass of step 4: one step of 0.1 A to each cabinet that is not at its rated current. -/
def State.sharePass (s : State) (rem : Int) : List (Nat × Int) → List (Nat × Int) × Int
  | [] => ([], rem)
  | (c, v) :: l =>
    let dir := if 0 < rem then 1 else if rem < 0 then -1 else 0
    let v' := v + dir
    let step := decide (dir ≠ 0) && decide (v'.natAbs ≤ s.r Reg.CAB_I_RATED c)
    let (l', r') := State.sharePass s (if step then rem - dir else rem) l
    ((c, if step then v' else v) :: l', r')

/-- Passes until the remainder is 0 or nothing moves. -/
def State.shareRest (s : State) : Nat → Int → List (Nat × Int) → List (Nat × Int)
  | 0, _, l => l
  | k + 1, rem, l =>
    if rem = 0 then l
    else
      let (l', r') := s.sharePass rem l
      if r' = rem then l else State.shareRest s k r' l'

/-- CURRENT_SHARING (R139): the shares of a connector's cabinets. -/
def State.divide (s : State) (n : Nat) : List (Nat × Int) :=
  let cmd := s.ri Reg.SESS_I_CMD n
  let l := s.shares cmd (s.sharing n cmd)
  let rem := cmd - l.foldl (fun v p => v + p.2) 0
  s.shareRest rem.natAbs rem l

/-- A cabinet's CLOSE_MASK: the selects of its built-in contactors. -/
def State.closeMask (s : State) (c : Nat) : Nat :=
  (s.contactors.filter (fun k => decide (s.r Reg.MTX_CT_SEL_KIND 0 k = 2 ∧ s.r Reg.MTX_CT_SEL_INDEX 0 k = c) && s.rb Reg.MTX_CT_CMD 0 k)).foldl
    (fun v k => setBit v (s.r Reg.MTX_CT_SEL_BIT 0 k) true) 0

/-- A bus is served by a group that reads cut. -/
def State.busCut (s : State) (b : Nat) : Bool :=
  s.contactors.any (fun k => s.matrix.cut.getLsbD (s.r Reg.MTX_CT_GROUP 0 k) &&
    (decide (s.r Reg.MTX_CT_KIND 0 k = 1 ∧ s.r Reg.MTX_CT_TO 0 k = b) || decide (s.r Reg.MTX_CT_KIND 0 k = 2 ∧ s.r Reg.MTX_CT_FROM 0 k = b)))

/-- The match move that concerns a cabinet. -/
def State.matchMove (s : State) (c : Nat) : Option Nat :=
  s.busyMoves.find? (fun m => decide (s.mvPhase m = 4) && (s.mvCabs m).contains c)

/-- MODE, I_SET and V_LIMIT of a cabinet's setpoint. -/
def State.setpoint (s : State) (c : Nat) (share : Int) : Nat × Int × Nat :=
  let b := s.r Reg.CAB_BUS c
  if s.r Reg.CAB_STATE c = 4 ∨ (s.cab c).devFault ∨ (b < 64 ∧ s.busCut b) ∨ (s.cab c).cutGroups &&& s.matrix.cut ≠ 0 then (0, 0, 0)
  else match s.matchMove c with
    | some m => (3, 0, match s.mvFar m with | some n => s.connV n | none => 0)
    | none =>
      match (if b < 64 then s.busConn b else none) with
      | some n => if 5 ≤ s.r Reg.SESS_STATE n ∧ s.r Reg.SESS_STATE n ≤ 9 ∧ s.cabAvail c then (2, share, (s.conn n).vLimit) else (1, 0, 0)
      | none => (1, 0, 0)

/-- The payload of a setpoint frame (Table 4.4). -/
def setpointFrame (c seq tide wave mode mask : Nat) (iSet : Int) (vLimit hold ramp : Nat) : List Byte :=
  let head := leBytes 1 1 ++ leBytes 1 c ++ leBytes 2 seq ++ leBytes 4 (tide % 4294967296) ++ leBytes 2 wave ++ leBytes 1 mode ++
    leBytes 1 mask ++ leBytes 4 (unsignedOf 32 iSet) ++ leBytes 4 vLimit ++ leBytes 2 hold ++ leBytes 2 ramp ++ leBytes 4 0
  head ++ leBytes 4 (crc32c head).toNat

/-- VLAN and MAC address of a cabinet. -/
def State.cabAddr (s : State) (c : Nat) : Nat × Nat := ((s.decl.cabAddr.find? (fun q => decide (q.1 = c))).map Prod.snd).getD (0, 0)

/-- A setpoint frame on a TSN port (R137, R412): VLAN, destination, EtherType 0x88B5, payload, in traffic class 7. -/
def State.cabFrame (s : State) (c port : Nat) (payload : List Byte) : State :=
  s.tsnOwn port 7 (s.cabAddr c).1 (s.cabAddr c).2 (etherType ++ payload)

/-- SETPOINT_FRAME_SEND (R137, R516): one frame to a cabinet on its ports. -/
def State.setpointSend (s : State) (c : Nat) (share : Int) : State :=
  let (mode, iSet, vLimit) := s.setpoint c share
  let seq := ((s.cab c).seq + 1) % 65536
  let s := s.modCab c (fun x => { x with seq := seq, sent := (seq :: x.sent).take 8 })
  let mask := s.closeMask c
  let s := (s.wi Reg.CAB_I_SET iSet c).w Reg.CAB_CLOSE_MASK mask c
  let f := (setpointFrame c seq s.tide s.wave mode mask iSet vLimit (s.r Reg.CAB_HOLD_WAVES c) (s.r Reg.CAB_FALLBACK_RAMP c))
  let s := s.cabFrame c (s.r Reg.CAB_PORT_A c) f
  if s.r Reg.CAB_PORT_B c < 15 then s.cabFrame c (s.r Reg.CAB_PORT_B c) f else s

/-- SETPOINT_FRAME_SEND (R137): the shares of this wave, to every cabinet. -/
def State.setpointsSend (s : State) : State :=
  let shares := (List.range 32).flatMap (fun n => s.divide n)
  s.over s.cabinets (fun c s => s.setpointSend c (((shares.find? (fun p => decide (p.1 = c))).map Prod.snd).getD 0))

/-- The cabinet traffic of a wave: the count of missed frames, the shares, the setpoints. A unit without the flood role
sends none. -/
def State.cabWave (s : State) : State :=
  let s := s.over s.cabinets (fun c s =>
    if (s.cab c).got then s.modCab c (fun x => { x with got := false, miss := 0 })
    else (s.inc Reg.CAB_MISS_COUNT c).modCab c (fun x => { x with miss := x.miss + 1 }))
  if !s.running || decide (s.r Reg.PAIR_ROLE = 3) then s else s.setpointsSend

/-- A cabinet leaves the state available in this wave. -/
def State.cabLeaves (s : State) (c st : Nat) : State :=
  let last := (s.ri Reg.CAB_I_SET c).natAbs
  let ramp := max 1 (s.r Reg.CAB_FALLBACK_RAMP c)
  let s := s.modCab c (fun x => { x with
    hold := s.now - x.miss + s.r Reg.CAB_HOLD_WAVES c + (last + ramp - 1) / ramp
    heldR := if s.cabAvail c then s.r Reg.CAB_R_EFF c else 0
    heldBus := s.r Reg.CAB_BUS c
    shareOut := false })
  s.w Reg.CAB_STATE st c

/-- CABINET_FAULT (R140): a cabinet is put in fault. -/
def State.cabFault (s : State) (c : Nat) : State :=
  ((s.cabLeaves c 3).ev Reg.CAB_EVENT 1 c).mvCabStrike c

/-- The device itself puts a cabinet in fault when RAMP_DOWN expires (R140). -/
def State.cabDevFault (s : State) (c : Nat) : State :=
  (s.modCab c (fun x => { x with devFault := true, zero := 0 })).cabFault c

/-- The fields of a valid status frame. -/
def State.statusApply (s : State) (c : Nat) (fld : Nat → Nat → Nat) : State :=
  let s := (s.w Reg.CAB_I_OUT (fld 4 4) c).w Reg.CAB_V_OUT (fld 12 4) c
  let s := (s.w Reg.CAB_REP_STATE (fld 8 2) c).w Reg.CAB_REP_FLAGS (fld 10 1) c
  let s := (s.w Reg.CAB_P_AVAIL (fld 16 4) c).w Reg.CAB_FAULT_CODE (fld 20 2) c
  let s := s.w Reg.CAB_MIRROR_MASK (fld 11 1) c
  let small := decide ((s.ri Reg.CAB_I_OUT c).natAbs ≤ s.r Reg.MTX_ZERO_I)
  let s := s.modCab c (fun x => { x with got := true, zero := if small then min 4 (x.zero + 1) else 0 })
  let s := if bit (fld 10 1) 1 then s.ev Reg.CAB_EVENT 3 c else s
  -- the device's own fault ends after 4 such frames with STATE other than 0x05
  let s := if (s.cab c).devFault then
      (if fld 8 2 = 5 then s.modCab c (fun x => { x with zero := 0 })
       else if 4 ≤ (s.cab c).zero then s.modCab c (fun x => { x with devFault := false }) else s)
    else s
  if s.r Reg.CAB_STATE c = 4 then
    if fld 8 2 = 5 then (s.w Reg.CAB_STATE 3 c).ev Reg.CAB_EVENT 1 c
    else s.w Reg.CAB_STATE (if (s.cab c).devFault then 3 else 2) c
  else if fld 8 2 = 5 then (if s.r Reg.CAB_STATE c = 3 then s else s.cabFault c)
  else if s.cabAvail c ∧ (!bit (fld 10 1) 0 ∨ fld 8 2 = 4) then s.cabLeaves c 2
  else if s.r Reg.CAB_STATE c = 0 then s.w Reg.CAB_STATE 2 c
  else s

/-- STATUS_FRAME_RECEIVE (R140, R141, R516): a status frame of the cabinet declared for its port and VLAN. -/
def execStatusFrameReceive (cab : Fin 64) (frame : List Byte) (s : State) : Host.Outcome State Fault Refusal :=
  let c := cab.val
  if !s.running ∨ !s.rb Reg.CAB_PRESENT c then .next s
  else
    let fld := fun (o k : Nat) => ofLe ((frame.drop o).take k)
    if frame.length ≠ 32 ∨ fld 28 4 ≠ (crc32c (frame.take 28)).toNat then .next (s.inc Reg.CAB_CRC_ERRORS c)
    else if fld 1 1 ≠ c ∨ (s.cab c).got then .next s
    else
      let x := s.cab c
      let valid := x.sent.contains (fld 2 2)
      if valid then .next (s.statusApply c fld)
      else if s.r Reg.CAB_STATE c = 4 then
        -- SEQ_REBASE (R516)
        .next (s.modCab c (fun x => { x with seq := fld 2 2, sent := [] }))
      else .next (s.ev Reg.CAB_EVENT 2 c)

/-- CABINET_LOST (R141): STATUS_MISS consecutive waves without a valid frame. -/
def execCabinetLost (cab : Fin 64) (s : State) : Host.Outcome State Fault Refusal :=
  let c := cab.val
  if s.rb Reg.CAB_PRESENT c ∧ s.r Reg.CAB_STATE c ≠ 4 ∧ s.r Reg.CAB_STATUS_MISS c ≤ (s.cab c).miss then
    .next (((s.cabLeaves c 4).ev Reg.CAB_EVENT 0 c).mvCabStrike c)
  else .next s

/-- LOST_SHARE_EXPIRY (R141): the longest time a lost cabinet can drive current has run. -/
def execLostShareExpiry (cab : Fin 64) (s : State) : Host.Outcome State Fault Refusal :=
  if s.r Reg.CAB_STATE cab.val = 4 ∧ (s.cab cab.val).hold ≤ s.now then
    .next (s.modCab cab.val (fun x => { x with shareOut := true }))
  else .next s

/-! ## Expiries of the move phases (Table 4.2) -/

/-- A move has stood in a phase for its bound. -/
def State.mvExpired (s : State) (m p bound : Nat) : Bool :=
  s.mvBusy m && decide (s.mvPhase m = p) && decide (bound ≤ (s.move m).waves)

/-- ZERO_WAIT_EXPIRY: abort 0x0502; the contactor stays closed, and the cabinets that the test counts and that did not reach
zero are in fault. -/
def execZeroWaitExpiry (m : Fin 8) (s : State) : Host.Outcome State Fault Refusal :=
  if s.mvExpired m.val 1 (s.r Reg.MTX_ZERO_WAIT) then
    let l := (s.zeroCounted m.val).filter (fun c => decide ((s.cab c).zero < 4))
    let s := (s.ev Reg.MTX_EVENT 2).mvEnd m.val 0x502
    .next (s.over l (fun c s => s.cabDevFault c))
  else .next s

/-- OPEN_WAIT_EXPIRY: abort 0x0503; the contactor is marked welded and SF5 is raised. -/
def State.openWaitExpiry (s : State) (m : Nat) : State :=
  if s.mvExpired m 2 (s.r Reg.MTX_OPEN_WAIT) then s.mvWeld m else s

/-- WELD_CONFIRM_DONE: the mirror has read open for WELD_CONFIRM waves. -/
def State.weldConfirmDone (s : State) (m : Nat) : State :=
  if s.mvBusy m ∧ s.mvPhase m = 3 ∧ s.r Reg.MTX_WELD_CONFIRM ≤ (s.move m).ok then s.mvNext m
  else s

/-- MATCH_WAIT_EXPIRY: abort 0x0504; nothing is closed. -/
def execMatchWaitExpiry (m : Fin 8) (s : State) : Host.Outcome State Fault Refusal :=
  if s.mvExpired m.val 4 (s.r Reg.MTX_MATCH_WAIT) then .next ((s.ev Reg.MTX_EVENT 3).mvEnd m.val 0x504) else .next s

/-- CLOSE_WAIT_EXPIRY: abort 0x0505; the select is turned off and the contactor marked faulty. -/
def execCloseWaitExpiry (m : Fin 8) (s : State) : Host.Outcome State Fault Refusal :=
  if s.mvExpired m.val 5 (s.r Reg.MTX_CLOSE_WAIT) then
    let s := match s.mvClose m.val with
      | some k => (s.selectOff k).markFaulty k
      | none => s
    .next ((s.ev Reg.MTX_EVENT 4).mvEnd m.val 0x505)
  else .next s

/-- RAMP_WAVES_ELAPSED: RAMP_UP ends, and the move is DONE. -/
def execRampWavesElapsed (m : Fin 8) (s : State) : Host.Outcome State Fault Refusal :=
  if s.mvBusy m.val ∧ s.mvPhase m.val = 6 ∧ s.r Reg.MTX_RAMP_WAVES ≤ (s.move m.val).waves then .next (s.mvEnd m.val 0)
  else .next s

/-- CT_CLR (R132): a committed 1 clears the mark while the group is cut and the mirror reads open. -/
def execCtClr (k : Fin 256) (s : State) : Host.Outcome State Fault Refusal :=
  if s.rb Reg.MTX_CT_CLR 0 k.val then
    let s := s.w Reg.MTX_CT_CLR 0 0 k.val
    if (s.ctWelded k.val || s.ctFaulty k.val) && !s.rbit Reg.SAFE_ENABLED (s.r Reg.MTX_CT_GROUP 0 k.val) &&
        s.readsOpen (some k.val) then
      .next ((s.w Reg.MTX_CT_STATE 0 0 k.val).ctRefresh k.val)
    else .next s
  else .next s

/-! ## Cuts and starts (R134 to R136) -/

/-- A group reads back cut. -/
def State.groupReadsCut (s : State) (g : Nat) : Bool := !s.rbit Reg.SAFE_READBACK g

/-- Steps 1 to 3 of R134 for one group: what stood through a contactor of it stands no longer. -/
def State.matrixCut (s : State) (g : Nat) : State :=
  let ks := s.groupContactors g
  -- contactors whose path carried more than ZERO_I in the last wave
  let live := ks.filter (fun k =>
    match s.r Reg.MTX_CT_KIND 0 k with
    | 1 => s.rb Reg.MTX_CT_MIRROR 0 k && decide (s.r Reg.MTX_ZERO_I < (s.ri Reg.CAB_I_OUT (s.r Reg.MTX_CT_FROM 0 k)).natAbs)
    | 2 => s.rb Reg.MTX_CT_MIRROR 0 k && decide (s.r Reg.MTX_ZERO_I < s.connI (s.r Reg.MTX_CT_TO 0 k))
    | _ => false)
  let moves := s.busyMoves.filter (fun m => ks.any (fun k => decide (s.mvOpen m = some k ∨ s.mvClose m = some k)))
  let s := s.modMatrix (fun x => { x with cut := x.cut ||| BitVec.ofNat 16 (2 ^ g) })
  -- every cabinet on a bus that the group serves is sent MODE off while the group reads cut
  let s := s.over (s.cabinets.filter (fun c => decide (s.r Reg.CAB_BUS c < 64) && s.busCut (s.r Reg.CAB_BUS c))) (fun c s =>
    s.modCab c (fun x => { x with cutGroups := x.cutGroups ||| BitVec.ofNat 16 (2 ^ g) }))
  let s := s.over moves (fun m s => if s.mvBusy m then s.mvEnd m 0x507 else s)
  let s := s.over ks (fun k s =>
    let s := s.selectOff k
    if s.r Reg.MTX_CT_KIND 0 k = 1 then
      (if s.r Reg.CAB_BUS (s.r Reg.MTX_CT_FROM 0 k) = s.r Reg.MTX_CT_TO 0 k then s.w Reg.CAB_BUS 0xFF (s.r Reg.MTX_CT_FROM 0 k) else s)
    else if s.busConn (s.r Reg.MTX_CT_FROM 0 k) = some (s.r Reg.MTX_CT_TO 0 k) then s.detach (s.r Reg.MTX_CT_FROM 0 k) else s)
  let s := s.over live (fun k s => (s.incSat Reg.MTX_CT_BREAKS 0 k).ev Reg.MTX_EVENT 6)
  s.busRefresh

/-- The weld check after a lock-out is left (R134): every contactor of the group has read open for WELD_CONFIRM waves;
one that reads closed is marked welded. -/
def State.groupWave (s : State) (g : Nat) : State :=
  let s := if s.matrix.cut.getLsbD g && !s.groupReadsCut g then
      s.modMatrix (fun x => { x with cut := x.cut &&& ~~~(BitVec.ofNat 16 (2 ^ g)), check := x.check ||| BitVec.ofNat 16 (2 ^ g),
                                     open_ := x.open_.filter (fun p => !(s.groupContactors g).contains p.1),
                                     cabs := x.cabs.map (fun p => (p.1, { p.2 with cutGroups := p.2.cutGroups &&& ~~~(BitVec.ofNat 16 (2 ^ g)) })) })
    else s
  if s.matrix.check.getLsbD g && !s.matrix.cut.getLsbD g then
    let ks := s.groupContactors g
    let s := s.over (ks.filter (fun k => s.readsClosed (some k) && !s.ctWelded k)) (fun k s => s.markWelded k)
    if ks.all (fun k => decide (s.r Reg.MTX_WELD_CONFIRM ≤ Tab.getD s.matrix.open_ k 0)) then
      s.modMatrix (fun x => { x with check := x.check &&& ~~~(BitVec.ofNat 16 (2 ^ g)) })
    else s
  else s

/-- CONTACTOR_RESET (R135): every select off, every contactor treated as open, the weld check for every group; at RUN
every cabinet is lost until its first valid status frame (R516). -/
def State.matrixRun (s : State) : State :=
  let s := s.over s.contactors (fun k s => s.selectOff k)
  let s := s.modMatrix (fun _ => { cut := 0xFFFF, check := 0xFFFF })
  let s := s.each 8 (fun m s => (s.w Reg.MTX_MV_TYPE 0 0 m).w Reg.MTX_MV_PHASE 0 0 m)
  let s := s.w Reg.MTX_PENDING 0
  let s := s.each 64 (fun b s => s.w Reg.MTX_BUS_CONN 0xFF 0 b)
  let s := s.each 32 (fun n s => (s.w Reg.MTX_CONN_BUS 0xFF 0 n).w Reg.MTX_CONN_STATE 0 0 n)
  let s := s.over s.cabinets (fun c s => ((s.w Reg.CAB_BUS 0xFF c).w Reg.CAB_IN_MOVE 0 c).w Reg.CAB_STATE 4 c)
  s.busRefresh

/-- The contactors and groups in one wave, in either role. -/
def State.contactorWave (s : State) : State := s.mirrorWave.each 16 (fun g s => s.groupWave g)

/-- The matrix in one wave. -/
def State.matrixWave (s : State) : State := s.contactorWave.each 8 (fun m s => s.mvWave m)

end Sys2Proof.Machine
end

