-- ==== Sys2Proof/Machine/Loop.lean ====
section
/-! DEFINITION. The loop engine (chapter 6, R171 to R191). -/
namespace Sys2Proof.Machine

set_option cleanup.letToHave false

/-! ## Parts -/

/-- What the model keeps of a loop instance. -/
def State.lp (s : State) (i : Nat) : LoopI := Tab.getD s.loop.loops i {}

/-- Update what the model keeps of a loop instance. -/
def State.modLp (s : State) (i : Nat) (g : LoopI → LoopI) : State :=
  s.modLoop (fun x => { x with loops := Tab.upd x.loops i {} g })

/-- A loop instance the image declares: it drives an output. -/
def State.loopDeclared (s : State) (i : Nat) : Bool := decide (s.r Reg.LOOP_OUT_DST i ≠ 0)

/-- The declared instances, ascending. -/
def State.loopList (s : State) : List Nat := (List.range 128).filter (fun i => s.loopDeclared i)

/-- A binary32 field. -/
def State.rf (s : State) (f : Fld) (i : Nat) : F32 := BitVec.ofNat 32 (s.r f i)

/-- Sample interval h, in s (R173). -/
def State.loopH (s : State) (i : Nat) : F32 := fDiv (fOfInt (25 * s.r Reg.LOOP_PERIOD i : Nat)) (fOfInt 1000000)

/-! ## Signals (Table 6.1) -/

/-- The value of a measured signal, with whether it is valid (R182). -/
def State.measured (s : State) (code : Nat) : Int × Bool :=
  let i := code % 65536
  match code / 16777216 with
  | 1 => (s.ri Reg.SENT_VALUE1 i, s.rb Reg.SENT_VALID1 i)
  | 2 => (s.ri Reg.SENT_VALUE2 i, s.rb Reg.SENT_VALID2 i)
  | 3 => match s.inp.aux[i]? with
    | some v => (v, decide (v < 65536))
    | none => (0, false)
  | 4 => (s.ri Reg.MPT_P_TIDE i, (Tab.getD s.meter.ac i {}).tideOk)
  | 5 => (Int.tdiv (s.ri Reg.MPT_I (dcPoint i)) 100, decide (s.r Reg.MPT_STATE (dcPoint i) = 1))
  | 6 => (s.ri Reg.COOL_T_COND i, true)
  | _ => (0, false)

/-- The instance that ALLOC.GRID_LOOP names (R177, R179). -/
def State.gridNamed (s : State) (i : Nat) : Bool := decide (s.r Reg.ALLOC_GRID_LOOP = i)

/-- The instance acts as the grid loop of ALLOC: GRID_LOOP names it and PCC_POINT names a point (R99). -/
def State.isGridLoop (s : State) (i : Nat) : Bool :=
  s.gridNamed i && decide (s.r Reg.ALLOC_PCC_POINT ≤ 7)

/-- The measured value of an instance: of the grid loop, the net active import at PCC_POINT (R99). -/
def State.loopMeas (s : State) (i : Nat) : Int × Bool :=
  if s.isGridLoop i then s.measured (0x04000000 + s.r Reg.ALLOC_PCC_POINT) else s.measured (s.r Reg.LOOP_MEAS_SRC i)

/-- The target reference of an instance (R99, R172). -/
def State.loopRef (s : State) (i : Nat) : Int :=
  let code := s.r Reg.LOOP_REF_SRC i
  if s.isGridLoop i then s.ri Reg.ALLOC_IMPORT_EFF
  else match code / 16777216 with
    | 7 => s.r Reg.COOLC_FLOW_DEMAND (code % 65536)
    | 8 => s.ri Reg.ALLOC_IMPORT_EFF
    | _ => s.ri Reg.LOOP_REF i

/-! ## Outputs -/

/-- Duty of a load switch as applied (R219): an on-time or off-time below the minimum of Table 7.3 becomes 0 % or 100 %,
whichever is nearer. -/
def dutyApplied (large : Bool) (freq duty : Nat) : Nat :=
  let lim := if large then 250 else 100
  -- period in µs × 10,000 per duty unit
  if duty * 1000000 < lim * freq * 10000 ∨ (10000 - duty) * 1000000 < lim * freq * 10000 then (if duty ≤ 5000 then 0 else 10000)
  else duty

/-- A duty comes into force at a channel; a loop output is on while its duty is above 0 (R218). -/
def State.lsDutyTake (s : State) (c a : Nat) : State :=
  let s := s.w Reg.LS_DUTY_APPLIED a c
  if s.r Reg.LS_FUNCTION c = 3 then s.lsCommand c (decide (a ≠ 0)) else s

/-- A duty reaches a load-switch channel (R218, R219): a channel under PWM takes it at the start of its next period. -/
def State.lsDuty (s : State) (c duty : Nat) : State :=
  let d := min 10000 duty
  let a := dutyApplied (s.rb Reg.LS_SIZE c) (s.r Reg.LS_PWM_FREQ c) d
  let s := s.w Reg.LS_DUTY d c
  if s.r Reg.LS_STATE c = 2 then s.modDrive (fun x => { x with ls := Tab.upd x.ls c {} (fun y => { y with duty := some a }) })
  else s.lsDutyTake c a

/-- A wave of a channel under PWM (R219). DESIGN CHOICE: the period of the power-die oscillator is counted in waves, at its nominal
rate. -/
def State.lsPwmWave (s : State) (c : Nat) : State :=
  if s.r Reg.LS_STATE c ≠ 2 then s
  else
    let x := Tab.getD s.drive.ls c {}
    let ends := decide (40000 ≤ (x.phase + 1) * s.r Reg.LS_PWM_FREQ c)
    let s := s.modDrive (fun d => { d with ls := Tab.put d.ls c (if ends then { x with phase := 0, duty := none } else { x with phase := x.phase + 1 }) })
    match ends, x.duty with
    | true, some a => s.lsDutyTake c a
    | _, _ => s

/-- Drive the destination of an instance. The trim is read from U at each boundary (R99). -/
def State.loopDrive (s : State) (i : Nat) (u : Int) : State :=
  let s := s.wi Reg.LOOP_U u i
  let d := s.r Reg.LOOP_OUT_DST i
  match d / 16777216 with
  | 0x10 => s.w Reg.GD_CMD (min 10000 u.toNat) (d % 65536)
  | 0x11 => if s.r Reg.LS_FUNCTION (d % 65536) = 3 then s.lsDuty (d % 65536) u.toNat else s
  | _ => s

/-- The limits of the output (R177). -/
def State.loopLimits (s : State) (i : Nat) : Int × Int :=
  let lo := s.ri Reg.LOOP_OUT_MIN i
  let hi := s.ri Reg.LOOP_OUT_MAX i
  if s.gridNamed i then (max lo (-(s.r Reg.ALLOC_TRIM_MAX : Int)), min hi 0) else (lo, hi)

/-- u_prev of a restart: OUT_INIT when the instance was off or tripped (R180). -/
def State.uPrev (s : State) (i : Nat) : Int :=
  if (s.lp i).uInit then s.ri Reg.LOOP_OUT_INIT i else s.ri Reg.LOOP_U i

/-! ## Injection (R186 to R188) -/

/-- Feedback taps (Table 6.3). -/
def prbsTaps : Nat → List Nat
  | 5 => [5, 3]
  | 6 => [6, 5]
  | 7 => [7, 6]
  | 8 => [8, 6, 5, 4]
  | 9 => [9, 5]
  | 10 => [10, 7]
  | 11 => [11, 9]
  | 12 => [12, 11, 10, 4]
  | 13 => [13, 12, 11, 8]
  | 14 => [14, 13, 12, 2]
  | _ => [15, 14]

/-- One bit of the generator: shift left, the exclusive-or of the taps enters stage 1 (R187). -/
def prbsNext (n v : Nat) : Nat :=
  let f := (prbsTaps n).foldl (fun b t => b != bit v (t - 1)) false
  (v * 2 + f.toNat) % 2 ^ n

/-- The frequency of a sweep at sample k (R186). -/
def State.sweepF (s : State) (i k : Nat) : F32 :=
  let f0 := s.rf Reg.LOOP_SWEEP_F0 i
  let f1 := s.rf Reg.LOOP_SWEEP_F1 i
  let n := fOfInt (s.r Reg.LOOP_INJ_LEN i : Nat)
  if s.rb Reg.LOOP_SWEEP_LOG i then fMul f0 (Config.fpow (fDiv f1 f0) (fDiv (fOfInt (k : Nat)) n))
  else fAdd f0 (fDiv (fMul (fSub f1 f0) (fOfInt (k : Nat))) n)

/-- An injection runs and has not reached INJ_LEN. -/
def State.injecting (s : State) (i : Nat) : Bool :=
  decide (s.r Reg.LOOP_INJ_STATE i = 1) && (decide (s.r Reg.LOOP_INJ_LEN i = 0) || decide ((s.lp i).k < s.r Reg.LOOP_INJ_LEN i))

/-- The injected value at the present sample (R186). -/
def State.injValue (s : State) (i : Nat) : F32 :=
  let x := s.lp i
  let amp := s.rf Reg.LOOP_INJ_AMP i
  if !s.injecting i then 0
  else match s.r Reg.LOOP_INJ_TYPE i with
    | 1 => if x.k < s.r Reg.LOOP_STEP_DELAY i then 0 else amp
    | 2 => if bit x.prbs (s.r Reg.LOOP_PRBS_N i - 1) then amp else fNeg amp
    | 3 => fMul amp (Config.fsin x.phi)
    | _ => 0

/-- The sample counter advances with an evaluation (R186). -/
def State.injAdvance (s : State) (i : Nat) : State :=
  if s.r Reg.LOOP_INJ_STATE i = 1 then
    let f := s.sweepF i (s.lp i).k
    let h := s.loopH i
    let hold := s.r Reg.LOOP_PRBS_HOLD i
    let n := s.r Reg.LOOP_PRBS_N i
    s.modLp i (fun x => { x with
      k := x.k + 1
      phi := fAdd x.phi (fMul (fMul 0x40C90FDB#32 f) h)
      prbs := if (x.k + 1) % max 1 hold = 0 then prbsNext n x.prbs else x.prbs })
  else s

/-- An injection is stopped (R188). -/
def State.injStop (s : State) (i : Nat) : State :=
  if s.r Reg.LOOP_INJ_STATE i = 1 then (s.w Reg.LOOP_INJ_STATE 3 i).ev Reg.LOOP_EVENT 3 i else s

/-! ## Capture (R189, R190) -/

/-- Address of bank b. -/
def capBase (b : Nat) : Nat := 0x02F00000 + 0x40000 * b

/-- Write a row at sample s of the instance's bank. -/
def State.capStore (s : State) (i : Nat) (row : CapRow) (k : Nat) : State :=
  match (s.lp i).bank with
  | none => s
  | some b => s.over (List.range 4) (fun j s =>
      if s.r Reg.LOOP_CAP_SEL i / 16 ^ j % 16 = 0 then s
      else s.mwrite (capBase b + 0x10000 * j + 4 * k) (leBytes 4 ((row.vals.getD j 0).toNat)))

/-- Keep a row: the next sample of the bank. -/
def State.capKeep (s : State) (i : Nat) (row : CapRow) : State :=
  let k := s.r Reg.LOOP_CAP_COUNT i
  if s.r Reg.LOOP_CAP_LEN i ≤ k then s
  else
    let s := if k = 0 then (s.w Reg.LOOP_CAP_T0 row.tide i).w Reg.LOOP_CAP_W0 row.wave i else s
    (s.capStore i row k).w Reg.LOOP_CAP_COUNT (k + 1) i

/-- CAPTURE_TRIGGER and the sampling of an evaluation (R190). `first` says that it is the injection's first evaluation. The ring
holds CAP_PRE samples from before a trip, and the sample of the evaluation that trips where one is taken then. -/
def State.capSample (s : State) (i : Nat) (first : Bool) (sig : List F32) : State :=
  let st := s.r Reg.LOOP_CAP_STATE i
  let trig := s.r Reg.LOOP_CAP_TRIG i
  let s := if st = 1 ∧ (trig = 0 ∨ (trig = 1 ∧ first = true)) then (s.w Reg.LOOP_CAP_STATE 2 i).modLp i (fun x => { x with skip := 0 }) else s
  let st := s.r Reg.LOOP_CAP_STATE i
  let ring := decide (st = 1 ∧ trig = 2)
  if st = 2 ∨ ring = true then
    let skip := (s.lp i).skip
    let row : CapRow := ⟨s.tide, s.wave, (List.range 4).map (fun j => match s.r Reg.LOOP_CAP_SEL i / 16 ^ j % 16 with
      | 0 => 0
      | c => sig.getD (c - 1) 0)⟩
    let pre := s.r Reg.LOOP_CAP_PRE i
    let trips := ring && (s.lp i).supDue.isSome
    let s := if skip ≠ 0 then s.when trips (fun s => s.modLp i (fun x => { x with ring := x.ring.take pre }))
      else if ring then s.modLp i (fun x => { x with ring := (row :: x.ring).take (if trips then pre + 1 else max 1 pre) })
      else s.capKeep i row
    let dec := s.r Reg.LOOP_CAP_DEC i
    s.modLp i (fun x => { x with skip := (skip + 1) % max 1 dec })
  else s

/-- A supervision trip triggers a capture: CAP_PRE samples from before it are kept. -/
def State.capTrip (s : State) (i : Nat) : State :=
  if s.r Reg.LOOP_CAP_STATE i = 1 ∧ s.r Reg.LOOP_CAP_TRIG i = 2 then
    let x := s.lp i
    let s := s.w Reg.LOOP_CAP_STATE 2 i
    let s := s.over x.ring.reverse (fun row s => s.capKeep i row)
    s.modLp i (fun x => { x with ring := [] })
  else s

/-! ## The law (R176 to R184) -/

/-- The terms of one evaluation. -/
structure Law where
  rf : F32
  p : F32
  dq : F32
  d : F32
  raw : F32
  /-- u as limited, and the output. -/
  lim : F32
  u : Int
  e : F32
  i : F32
  inj : F32
  v : F32
  deriving DecidableEq, Repr

/-- P of R176. -/
def State.lawP (s : State) (i : Nat) (rf y : F32) : F32 :=
  fMul (s.rf Reg.LOOP_KP i) (fSub (fMul (s.rf Reg.LOOP_B_WEIGHT i) rf) y)

/-- dq of R176. -/
def State.lawDq (s : State) (i : Nat) (rf y : F32) : F32 := fSub (fMul (s.rf Reg.LOOP_C_WEIGHT i) rf) y

/-- D of R176. -/
def State.lawD (s : State) (i : Nat) (d dq dqPrev : F32) : F32 :=
  let h := s.loopH i
  let tf := s.rf Reg.LOOP_TF i
  let den := fAdd tf h
  fAdd (fMul (fDiv tf den) d) (fMul (fDiv (s.rf Reg.LOOP_KD i) den) (fSub dq dqPrev))

/-- Round to the nearest integer and limit (R175). -/
def outRound (lo hi : Int) (u : F32) : Int :=
  match fVal u with
  | .nan => lo
  | .inf neg => if neg then lo else hi
  | .fin .. => min hi (max lo (fToInt u 0))

/-- R176 in auto (`man` none) or R178 in manual, with the integral I and the injections given. -/
def State.law (s : State) (i : Nat) (rf y v inj : F32) (I d dqPrev : F32) (man : Option Int) : Law :=
  let (lo, hi) := s.loopLimits i
  let p := s.lawP i rf y
  let dq := s.lawDq i rf y
  let d := s.lawD i d dq dqPrev
  let e := fSub rf y
  match man with
  | some m =>
    let raw := fAdd (fOfInt m) inj
    let u := fClamp (fOfInt lo) (fOfInt hi) raw
    { rf := rf, p := p, dq := dq, d := d, raw := raw, lim := u, u := outRound lo hi raw, e := e, i := fSub (fSub (fSub u p) d) v, inj := inj, v := v }
  | none =>
    let raw := fAdd (fAdd (fAdd (fAdd p I) d) v) inj
    let ki := s.rf Reg.LOOP_KI i
    let kie := fMul ki e
    let stop := (fLt (fOfInt hi) raw && fLt 0 kie) || (fLt raw (fOfInt lo) && fLt kie 0)
    { rf := rf, p := p, dq := dq, d := d, raw := raw, lim := fClamp (fOfInt lo) (fOfInt hi) raw, u := outRound lo hi raw, e := e,
      i := if stop then I else fAdd I (fMul (fMul ki (s.loopH i)) e), inj := inj, v := v }

/-- The ramped reference moves toward the target (R179). -/
def State.rampTo (s : State) (i : Nat) (r : F32) : F32 :=
  let x := s.rf Reg.LOOP_R_EFF i
  let rate := s.r Reg.LOOP_RAMP_RATE i
  let step := fMul (fOfInt (rate : Nat)) (s.loopH i)
  if rate = 0 ∨ fLe (fAbs (fSub r x)) step = true then r
  else if fLt x r then fAdd x step else fSub x step

/-- The plant model is set at a restart and at an entry to MANUAL (R183). DEDUCED: its history is of the outputs as rounded. -/
def State.modelSet (s : State) (i : Nat) (y : F32) (u : Int) : State :=
  (s.w Reg.LOOP_Y_MODEL y.toNat i).modLp i (fun x => { x with y0 := y, u0 := u, hist := List.replicate 256 u })

/-- One step of the plant model with the output of this evaluation (R183). -/
def State.modelStep (s : State) (i : Nat) (u : Int) : State :=
  let s := s.modLp i (fun x => { x with hist := (u :: x.hist).take 256 })
  let x := s.lp i
  let a := Config.fexp (fNeg (fDiv (s.loopH i) (s.rf Reg.LOOP_MODEL_TAU i)))
  let ud := x.hist.getD (s.r Reg.LOOP_MODEL_DEAD i) x.u0
  let target := fAdd x.y0 (fMul (s.rf Reg.LOOP_MODEL_GAIN i) (fSub (fOfInt ud) (fOfInt x.u0)))
  s.w Reg.LOOP_Y_MODEL (fAdd (fMul a (s.rf Reg.LOOP_Y_MODEL i)) (fMul (fSub 0x3F800000#32 a) target)).toNat i

/-- Supervision counts and the combined condition (R183 to R185). -/
def State.supervise (s : State) (i : Nat) (y : F32) (manual : Bool) : State :=
  let off := fun (a b : F32) (band : Nat) => fLt (fOfInt (band : Nat)) (fAbs (fSub a b))
  let pl := off y (s.rf Reg.LOOP_Y_MODEL i) (s.r Reg.LOOP_PLAUS_BAND i)
  let fo := off (s.rf Reg.LOOP_R_EFF i) y (s.r Reg.LOOP_FOLLOW_BAND i)
  let still := manual || (s.injecting i && decide (s.r Reg.LOOP_INJ_POINT i = 0))
  let s := s.modLp i (fun x => { x with
    plaus := if pl then min 65535 (x.plaus + 1) else 0
    follow := if still then x.follow else if fo then min 65535 (x.follow + 1) else 0 })
  let x := s.lp i
  let a := decide (s.r Reg.LOOP_PLAUS_TIME i ≤ x.plaus)
  let b := decide (s.r Reg.LOOP_FOLLOW_TIME i ≤ x.follow)
  let c : Bool := match s.r Reg.LOOP_SUP_MODE i with
    | 1 => a
    | 2 => b
    | 3 => a && b && !manual
    | 4 => a || b
    | _ => false
  s.modLp i (fun x => { x with sup := c, supDue := if c && !x.sup then some (a.toNat + 2 * b.toNat) else x.supDue })

/-! ## One evaluation -/

/-- The signals of a capture, in the order of their codes 0x1 to 0xC (R190). -/
def State.capSignals (s : State) (i : Nat) (r y : Int) (l : Law) : List F32 :=
  [fOfInt r, s.rf Reg.LOOP_R_EFF i, fOfInt y, l.lim, l.raw, l.e, l.p, s.rf Reg.LOOP_I_TERM i,
   s.rf Reg.LOOP_D_TERM i, l.v, l.inj, s.rf Reg.LOOP_Y_MODEL i]

/-- Take a mode that was written, at the first evaluation after the boundary (Table 6.2). -/
def State.loopTurn (s : State) (i : Nat) (y : Int) : State :=
  match (s.lp i).turn with
  | none => s
  | some m =>
    let st := s.r Reg.LOOP_STATE i
    let s := s.modLp i (fun x => { x with turn := none })
    if st = 6 then s
    else if m = 0 then
      ((s.w Reg.LOOP_STATE 0 i).loopDrive i 0).modLp i (fun x => { x with uInit := true, restart := false, gain := false, bad := 0 })
    else if m = 1 then
      if st = 0 ∨ st = 3 ∨ st = 5 then (s.w Reg.LOOP_STATE 1 i).modLp i (fun x => { x with restart := true, bad := 0 }) else s
    else if st = 4 ∨ st = 3 then s
    else
      let u := s.uPrev i
      (s.w Reg.LOOP_STATE 3 i |>.modelSet i (fOfInt y) u).modLp i (fun x => { x with uInit := false, restart := false, bad := 0 })

/-- LOOP_HELD (R182): an invalid measured value holds the instance. -/
def State.loopHeld (s : State) (i : Nat) : State :=
  let st := s.r Reg.LOOP_STATE i
  if st = 1 ∨ st = 2 ∨ st = 3 then
    (((s.w Reg.LOOP_STATE 4 i).ev Reg.LOOP_EVENT 1 i).injStop i).modLp i (fun x => { x with bad := 1 })
  else if st = 4 then s.modLp i (fun x => { x with bad := x.bad + 1 })
  else s

/-- LOOP_RESTART (R180). -/
def State.loopRestart (s : State) (i : Nat) (r y : Int) (v : F32) : State :=
  let fy := fOfInt y
  let u := s.uPrev i
  let zero := fSub (fMul (s.rf Reg.LOOP_C_WEIGHT i) fy) fy
  let I := fSub (fSub (fOfInt u) (s.lawP i fy fy)) v
  let s := (s.w Reg.LOOP_R_EFF fy.toNat i).w Reg.LOOP_D_TERM 0 i
  let s := (s.w Reg.LOOP_I_TERM I.toNat i).w Reg.LOOP_STATE 1 i
  let s := (s.modelSet i fy u).ev Reg.LOOP_EVENT 5 i
  s.modLp i (fun x => { x with restart := false, gain := false, uInit := false, dqPrev := zero, anchor := r })

/-- LOOP_EVALUATION (R176 to R185): one evaluation with a valid measured value. -/
def State.loopLaw (s : State) (i : Nat) (r y ff : Int) : State :=
  let v := if s.r Reg.LOOP_FF_SRC i = 0 then 0 else fMul (s.rf Reg.LOOP_FF_GAIN i) (fOfInt ff)
  let fy := fOfInt y
  let first := decide ((s.lp i).k = 0) && s.injecting i
  -- HELD ends with a valid value
  let s := if s.r Reg.LOOP_STATE i = 4 ∧ (s.lp i).bad ≤ s.r Reg.LOOP_MEAS_HOLD i then
      let s := s.modLp i (fun x => { x with bad := 0 })
      if s.r Reg.LOOP_MODE i = 2 then (s.w Reg.LOOP_STATE 3 i).modLp i (fun x => { x with entry := true })
      else (s.w Reg.LOOP_STATE 1 i).modLp i (fun x => { x with restart := true })
    else s
  let st := s.r Reg.LOOP_STATE i
  let s := if st = 3 ∧ (s.lp i).entry = true then (s.modelSet i fy (s.ri Reg.LOOP_U i)).modLp i (fun x => { x with entry := false }) else s
  let u0 := s.ri Reg.LOOP_U i
  let r0 := s.rf Reg.LOOP_R_EFF i
  let idle : Law := { rf := r0, p := 0, dq := 0, d := 0, raw := fOfInt u0, lim := fOfInt u0, u := u0, e := fSub r0 fy, i := 0, inj := 0, v := v }
  if st = 1 ∨ st = 2 ∨ st = 3 then
    let auto := decide (st ≠ 3)
    let x := s.lp i
    let moved := fLt (fOfInt (s.r Reg.LOOP_REF_BAND i : Nat)) (fAbs (fSub (fOfInt r) (fOfInt x.anchor)))
    let restart := auto && (x.restart || moved || (s.gridNamed i && decide (x.lim ≠ s.ri Reg.ALLOC_IMPORT_EFF)))
    let s := if restart then s.loopRestart i r y v else s.w Reg.LOOP_R_EFF (s.rampTo i (fOfInt r)).toNat i
    let inj := if restart then 0 else s.injValue i
    let atRef := decide (s.r Reg.LOOP_INJ_POINT i = 0)
    let rEff := s.rf Reg.LOOP_R_EFF i
    let rf := if atRef then fAdd rEff inj else rEff
    let out := if atRef then 0 else inj
    let x := s.lp i
    let gain := x.gain
    -- GAIN_CHANGE (R181); DEDUCED: in MANUAL the output stays MAN_OUT with its injection and I tracks it (R178)
    let dq0 := if gain then s.lawDq i rf fy else x.dqPrev
    let d0 := if gain then 0 else s.rf Reg.LOOP_D_TERM i
    let i0 := if gain then fSub (fSub (fOfInt (s.ri Reg.LOOP_U i)) (s.lawP i rf fy)) v else s.rf Reg.LOOP_I_TERM i
    let l := s.law i rf fy v (if gain && auto then 0 else out) i0 d0 dq0 (if auto then none else some (s.ri Reg.LOOP_MAN_OUT i))
    let s := (s.w Reg.LOOP_I_TERM l.i.toNat i).w Reg.LOOP_D_TERM l.d.toNat i
    let s := s.modLp i (fun x => { x with dqPrev := l.dq, gain := false, uInit := false, lim := s.ri Reg.ALLOC_IMPORT_EFF })
    let s := (s.loopDrive i l.u).modelStep i l.u
    let s := if auto then (if rEff = fOfInt r then s.w Reg.LOOP_STATE 2 i else s.w Reg.LOOP_STATE 1 i) else s
    let s := s.supervise i fy (!auto)
    let s := s.capSample i first (s.capSignals i r y { l with inj := inj })
    s.injAdvance i
  else s.capSample i first (s.capSignals i r y idle)

/-- An evaluation with the inputs latched at the start of its wave. -/
def State.loopEval (s : State) (i : Nat) (q : LoopIn) : State :=
  let y := q.y.getD (s.ri Reg.LOOP_Y i)
  let s := s.loopTurn i y
  let st := s.r Reg.LOOP_STATE i
  let s := if st = 0 ∨ st = 6 then s else s.inc Reg.LOOP_EVALS i
  match q.y with
  | some y => (s.wi Reg.LOOP_Y y i).loopLaw i q.r y q.ff
  | none =>
    let s := s.loopHeld i
    let u := s.ri Reg.LOOP_U i
    s.capSample i false (s.capSignals i q.r y { rf := 0, p := 0, dq := 0, d := 0, raw := fOfInt u, lim := fOfInt u, u := u, e := 0, i := 0, inj := 0, v := 0 })

/-- LOOP_DISCARD (R174). -/
def State.loopDiscard (s : State) (i : Nat) : State :=
  ((s.inc Reg.LOOP_SKIPS i).ev Reg.LOOP_EVENT 2 i).capSample i false (List.replicate 12 fNaN)

/-- The slots of the loop engine that carry an instance's evaluation. -/
def State.loopSlots (s : State) (i : Nat) : List (Nat × SlotDef) :=
  (s.slotTable.zipIdx.map (fun p => (p.2, p.1))).filter (fun p => decide (p.2.engine = 28 ∧ p.2.task = i))

/-- An evaluation is due in the present wave (R173). -/
def State.loopDueNow (s : State) (i : Nat) : Bool :=
  let p := max 1 (s.r Reg.LOOP_PERIOD i)
  decide ((s.wave + 400 * p - s.r Reg.LOOP_PHASE i) % p = 0)

/-- The inputs of the wave that begins are latched (R173). -/
def State.loopLatch (s : State) : State :=
  s.over (s.loopList.filter (fun i => s.loopDueNow i)) (fun i s =>
    let (y, ok) := s.loopMeas i
    let due := (s.loopSlots i).filter (fun p => s.slotBegins p.2)
    let shed := !due.isEmpty && due.all (fun p => (Tab.find s.fabric.slots p.1).isNone)
    let q : LoopIn := ⟨if ok then some y else none, s.loopRef i, (s.measured (s.r Reg.LOOP_FF_SRC i)).1, shed⟩
    s.modLp i (fun x => { x with latched := some q }))

/-- At the end of a wave each instance that latched its inputs is evaluated, in ascending order, or discarded (R173,
R174). Runs before the fence. -/
def State.loopWave (s : State) : State :=
  let late := s.breaching.map (·.1)
  s.over s.loopList (fun i s =>
    match (s.lp i).latched with
    | none => s
    | some q =>
      let s := s.modLp i (fun x => { x with latched := none })
      if q.shed || (s.loopSlots i).any (fun p => late.contains p.1) then s.loopDiscard i else s.loopEval i q)

/-! ## Modes (R181, R182, R191) -/

/-- LOOP_HOLD_TRIP (R182): MEAS_HOLD invalid evaluations. -/
def execLoopHoldTrip (i : Fin 128) (s : State) : Host.Outcome State Fault Refusal :=
  if s.r Reg.LOOP_STATE i.val = 4 ∧ s.r Reg.LOOP_MEAS_HOLD i.val ≤ (s.lp i.val).bad then
    let s := ((s.w Reg.LOOP_STATE 5 i.val).w Reg.LOOP_TRIP_CAUSE 4 i.val).injStop i.val
    .next ((s.loopDrive i.val (s.ri Reg.LOOP_SAFE_OUT i.val)).modLp i.val (fun x => { x with uInit := true }))
  else .next s

/-- SUPERVISION_TRIP (R185): the combined condition became true. -/
def execSupervisionTrip (i : Fin 128) (s : State) : Host.Outcome State Fault Refusal :=
  match (s.lp i.val).supDue with
  | none => .next s
  | some c =>
    let s := s.modLp i.val (fun x => { x with supDue := none })
    let s := ((s.inc Reg.LOOP_TRIPS i.val).ev Reg.LOOP_EVENT 0 i.val).w Reg.LOOP_TRIP_CAUSE c i.val
    let s := s.capTrip i.val
    if s.rb Reg.LOOP_SUP_ACTION i.val then
      let s := (s.w Reg.LOOP_STATE 5 i.val).injStop i.val
      .next ((s.loopDrive i.val (s.ri Reg.LOOP_SAFE_OUT i.val)).modLp i.val (fun x => { x with uInit := true, sup := false }))
    else .next s

/-- LOOP_MODE_WRITE (R181): a MODE written at the boundary turns the instance at its next evaluation, and stops an
injection when it changes the mode (R188). -/
def execLoopModeWrite (i : Fin 128) (s : State) : Host.Outcome State Fault Refusal :=
  if (s.lp i.val).wrote then
    .next (s.modLp i.val (fun x => { x with wrote := false, turn := some (s.r Reg.LOOP_MODE i.val) }))
  else .next s

/-- What an applied write or commit of a LOOP field sets going (R181, R188). -/
def State.loopApplied (s : State) (f : Fld) (i old : Nat) : State :=
  let changed := decide (s.r f i ≠ old)
  if f = Reg.LOOP_MODE then
    let s := s.modLp i (fun x => { x with wrote := true })
    if changed then s.injStop i else s
  else if f.acc ≠ .rt ∨ changed = false then s
  else if [Reg.LOOP_KP, Reg.LOOP_KI, Reg.LOOP_KD, Reg.LOOP_TF, Reg.LOOP_B_WEIGHT, Reg.LOOP_C_WEIGHT, Reg.LOOP_FF_GAIN].contains f then
    s.modLp i (fun x => { x with gain := true })
  else s.injStop i

/-- INJECTION_START (R186): INJ_CTRL = 0x1 applied at the boundary. -/
def execInjectionStart (i : Fin 128) (s : State) : Host.Outcome State Fault Refusal :=
  if s.r Reg.LOOP_INJ_CTRL i.val = 1 then
    let s := s.w Reg.LOOP_INJ_CTRL 0 i.val
    let n := s.r Reg.LOOP_PRBS_N i.val
    .next ((s.w Reg.LOOP_INJ_STATE 1 i.val).modLp i.val (fun x => { x with k := 0, phi := 0, prbs := 2 ^ n - 1 }))
  else .next s

/-- INJECTION_STOP (R188): INJ_CTRL = 0x2. -/
def execInjectionStop (i : Fin 128) (s : State) : Host.Outcome State Fault Refusal :=
  if s.r Reg.LOOP_INJ_CTRL i.val = 2 then .next ((s.w Reg.LOOP_INJ_CTRL 0 i.val).injStop i.val) else .next s

/-- INJECTION_DONE (R188): k has reached INJ_LEN. -/
def execInjectionDone (i : Fin 128) (s : State) : Host.Outcome State Fault Refusal :=
  if s.r Reg.LOOP_INJ_STATE i.val = 1 ∧ s.r Reg.LOOP_INJ_LEN i.val ≠ 0 ∧ s.r Reg.LOOP_INJ_LEN i.val ≤ (s.lp i.val).k then
    .next (s.w Reg.LOOP_INJ_STATE 2 i.val)
  else .next s

/-- The lowest free bank. -/
def State.freeBank (s : State) : Option Nat :=
  (List.range 4).find? (fun b => !(s.loop.loops.any (fun p => decide (p.2.bank = some b))))

/-- CAPTURE_ARM (R190): CAP_CTRL = 0x1; the own bank, or the lowest free one. -/
def execCaptureArm (i : Fin 128) (s : State) : Host.Outcome State Fault Refusal :=
  if s.r Reg.LOOP_CAP_CTRL i.val = 1 then
    let s := s.w Reg.LOOP_CAP_CTRL 0 i.val
    let bank := match (s.lp i.val).bank with
      | some b => some b
      | none => s.freeBank
    match bank with
    | none => .next ((s.w Reg.LOOP_CAP_STATE 4 i.val).ev Reg.LOOP_EVENT 4 i.val)
    | some b =>
      let s := ((s.w Reg.LOOP_CAP_STATE 1 i.val).w Reg.LOOP_CAP_BANK b i.val).w Reg.LOOP_CAP_COUNT 0 i.val
      .next (s.modLp i.val (fun x => { x with bank := some b, skip := 0, ring := [] }))
  else .next s

/-- CAPTURE_RELEASE (R190): CAP_CTRL = 0x2. -/
def execCaptureRelease (i : Fin 128) (s : State) : Host.Outcome State Fault Refusal :=
  if s.r Reg.LOOP_CAP_CTRL i.val = 2 then
    let s := (s.w Reg.LOOP_CAP_CTRL 0 i.val).w Reg.LOOP_CAP_STATE 0 i.val
    .next ((s.w Reg.LOOP_CAP_COUNT 0 i.val).modLp i.val (fun x => { x with bank := none, ring := [] }))
  else .next s

/-- CAPTURE_FULL (R190): the capture holds CAP_LEN samples. -/
def execCaptureFull (i : Fin 128) (s : State) : Host.Outcome State Fault Refusal :=
  if s.r Reg.LOOP_CAP_STATE i.val = 2 ∧ s.r Reg.LOOP_CAP_LEN i.val ≤ s.r Reg.LOOP_CAP_COUNT i.val then
    .next (s.w Reg.LOOP_CAP_STATE 3 i.val)
  else .next s

/-- Entry to the ebb role: every instance without EBB_RUN goes to STANDBY at once (Table 6.2). -/
def State.loopsEbb (s : State) : State :=
  s.over (s.loopList.filter (fun i => !s.rb Reg.LOOP_EBB_RUN i)) (fun i s =>
    (((s.injStop i).w Reg.LOOP_STATE 6 i).loopDrive i 0).modLp i (fun x => { x with turn := none, latched := none }))

/-- Taking flood: an instance in STANDBY continues from the mirrored state (R191). -/
def State.loopsFlood (s : State) : State :=
  s.over (s.loopList.filter (fun i => decide (s.r Reg.LOOP_STATE i = 6))) (fun i s =>
    match s.r Reg.LOOP_MODE i with
    | 1 => (s.w Reg.LOOP_STATE 1 i).modLp i (fun x => { x with restart := true, uInit := false, bad := 0 })
    | 2 => ((s.w Reg.LOOP_STATE 3 i).loopDrive i (s.ri Reg.LOOP_MAN_OUT i)).modLp i (fun x => { x with uInit := false, bad := 0, entry := true })
    | _ => (s.w Reg.LOOP_STATE 0 i).modLp i (fun x => { x with uInit := true }))

/-- Entry to RUN: every instance is OFF, and a stored mode starts it; a unit that enters RUN in the ebb role goes on to STANDBY
(R191). -/
def State.loopsRun (s : State) : State :=
  s.over s.loopList (fun i s =>
    let s := s.w Reg.LOOP_STATE 0 i
    let m := s.r Reg.LOOP_MODE i
    s.modLp i (fun x => { x with turn := if m = 0 then none else some m, uInit := true })) |>.when (decide (s.r Reg.PAIR_ROLE = 3)) State.loopsEbb

end Sys2Proof.Machine
end

