-- ==== Sys2Proof/Machine/Drive.lean ====
section
/-! DEFINITION. Gate pre-drivers and protected load switches (chapter 7). -/
namespace Sys2Proof.Machine

set_option cleanup.letToHave false

/-! ## Parts -/

/-- What the model keeps of a protected output. -/
def State.outI (s : State) : OutSel → OutI
  | .gd x => Tab.getD s.drive.gd x.val {}
  | .ls c => Tab.getD s.drive.ls c.val {}

/-- Update what the model keeps of a protected output. -/
def State.modOut (s : State) (o : OutSel) (g : OutI → OutI) : State :=
  match o with
  | .gd x => s.modDrive (fun d => { d with gd := Tab.upd d.gd x.val {} g })
  | .ls c => s.modDrive (fun d => { d with ls := Tab.upd d.ls c.val {} g })

/-- What the model keeps of a bridge. -/
def State.bridge (s : State) (x : Nat) : BridgeI := Tab.getD s.drive.bridges x {}

/-- Update what the model keeps of a bridge. -/
def State.modBridge (s : State) (x : Nat) (g : BridgeI → BridgeI) : State :=
  s.modDrive (fun d => { d with bridges := Tab.upd d.bridges x {} g })

/-- The states of Table 7.2. -/
inductive Prot where
  | active | retryWait | thermalHold | locked | xcLatch | supplyLow
  deriving DecidableEq, Repr

/-- State of an output in Table 7.2. -/
def State.prot (s : State) : OutSel → Prot
  | .gd x => match s.r Reg.GD_STATE x.val with
    | 4 => .retryWait
    | 5 => .thermalHold
    | 6 => .locked
    | 7 => .xcLatch
    | _ => .active
  | .ls c => match s.r Reg.LS_STATE c.val with
    | 3 => .retryWait
    | 4 => .thermalHold
    | 5 => .locked
    | 6 => .supplyLow
    | _ => .active

/-- TRIES, and RETRY_MAX as taken: 0 for a contactor select (R220). -/
def State.tries (s : State) : OutSel → Nat
  | .gd x => s.r Reg.GD_TRIES x.val
  | .ls c => s.r Reg.LS_TRIES c.val

/-- Write TRIES. -/
def State.setTries (s : State) (o : OutSel) (v : Nat) : State :=
  match o with
  | .gd x => s.w Reg.GD_TRIES v x.val
  | .ls c => s.w Reg.LS_TRIES v c.val

/-- RETRY_MAX as taken. -/
def State.retryMax (s : State) : OutSel → Nat
  | .gd x => s.r Reg.GD_RETRY_MAX x.val
  | .ls c => if s.r Reg.LS_FUNCTION c.val = 1 then 0 else s.r Reg.LS_RETRY_MAX c.val

/-- The gates of a bridge go off, into a state: f_out is 0, and no refresh is active (R205, R210). -/
def State.bridgeOff (s : State) (x st : Nat) : State :=
  let s := (s.w Reg.GD_STATE st x).w Reg.GD_F_OUT 0 x
  let s := s.each 3 (fun p s => s.w Reg.GD_REFRESH_ACT 0 x p)
  (s.modBridge x (fun b => { b with f := {} })).emit (.pin "GD" x false)

/-- Turn an output off into a protection state. -/
def State.protOff (s : State) (o : OutSel) (p : Prot) : State :=
  match o with
  | .gd x => s.bridgeOff x.val (match p with | .retryWait => 4 | .thermalHold => 5 | .locked => 6 | .xcLatch => 7 | _ => 0)
  | .ls c =>
    let s := s.w Reg.LS_STATE (match p with | .retryWait => 3 | .thermalHold => 4 | .locked => 5 | .supplyLow => 6 | _ => 0) c.val
    s.emit (.pin "LS" c.val false)

/-- The locked event: only a bridge has the bit (Tables 7.5 and 7.6). -/
def State.lockedEvent (s : State) : OutSel → State
  | .gd x => s.ev Reg.GD_EVENT 7 x.val
  | .ls _ => s

/-! ## Codes of Tables 7.1 and 7.4 -/

/-- The code is a fault of the output. -/
def isFaultCode : OutSel → Nat → Bool
  | .gd _, c => decide (c = 1 ∨ c = 2 ∨ c = 4 ∨ c = 5 ∨ c = 6)
  | .ls _, c => decide (c = 0x11 ∨ c = 0x12)

/-- The code is a thermal condition of the output. -/
def isThermalCode : OutSel → Nat → Bool
  | .gd _, c => decide (c = 7)
  | .ls _, c => decide (c = 0x13 ∨ c = 0x14)

/-- Record a code: FAULT, FAULT_PHASE and the event bit. -/
def State.protRecord (s : State) (o : OutSel) (code phase : Nat) : State :=
  match o with
  | .gd x => ((s.w Reg.GD_FAULT code x.val).w Reg.GD_FAULT_PHASE phase x.val).ev Reg.GD_EVENT (code - 1) x.val
  | .ls c => (s.w Reg.LS_FAULT code c.val).ev Reg.LS_EVENT (code - 0x11) c.val

/-- Count a fault. -/
def State.protCount (s : State) : OutSel → State
  | .gd x => s.inc Reg.GD_FAULTS x.val
  | .ls c => s.inc Reg.LS_FAULTS c.val

/-- CONTACTOR_SELECT_FAULT (R220): the contactor is marked faulty and cause 0x09 latches on its group's channel. -/
def State.selectFault (s : State) (c : Nat) : State :=
  s.over (s.contactors.filter (fun k => decide (s.r Reg.MTX_CT_SEL_KIND 0 k = 1 ∧ s.r Reg.MTX_CT_SEL_INDEX 0 k = c))) (fun k s =>
    let g := s.r Reg.MTX_CT_GROUP 0 k
    let s := (s.selectOff k).markFaulty k
    s.safeLatch 9 k (BitVec.ofNat 16 (2 ^ g)))

/-- A fault taken in Active (Table 7.2). After a desaturation the faulted switch goes off at SOFT_STR first (Table 7.1). -/
def State.protFault (s : State) (o : OutSel) (code phase : Nat) : State :=
  let s := s.protRecord o code phase
  let s := match o, code with
    | .gd x, 2 => s.emit (.link "SOFT_OFF" x.val [phase, s.r Reg.GD_SOFT_STR x.val])
    | _, _ => s
  let s := if s.tries o < s.retryMax o then (s.protCount o).protOff o .retryWait
    else (s.protOff o .locked).lockedEvent o
  match o with
  | .ls c =>
    if s.r Reg.LS_FUNCTION c.val = 1 then
      if s.running then s.selectFault c.val else s.modOut o (fun x => { x with unread := true })
    else s
  | .gd _ => s

/-! ## Restarts -/

/-- A bridge as an output. -/
def gdSel (x : Nat) : OutSel := if h : x < 6 then .gd ⟨x, h⟩ else .gd 0

/-- A standing fault condition of a bridge with gates to drive: VDRV low, bus overvoltage. -/
def State.gdStanding (s : State) (x : Nat) : Option Nat :=
  if s.drive.vdrvLow then some 4 else if 850 < s.r Reg.GD_VBUS x then some 6 else none

/-- Start a bridge: bootstrap precharge when its command calls for it, else it coasts or stays off (R205, R209). A condition of
Table 7.1 that still stands is taken as a fault at once. -/
def State.bridgeStart (s : State) (x : Nat) : State :=
  if s.r Reg.GD_MODE x = 0 ∨ (s.bridge x).linkOff = true then s.w Reg.GD_STATE 0 x
  else if s.r Reg.GD_CMD x < s.r Reg.GD_M_MIN x then s.w Reg.GD_STATE 3 x
  else
    let s := (s.w Reg.GD_STATE 1 x).emit (.pin "GD" x true)
    match s.gdStanding x with
    | some c => s.protFault (gdSel x) c 3
    | none => s

/-- An output returns to Active and follows its command. -/
def State.protRestart (s : State) (o : OutSel) : State :=
  match o with
  | .gd x => s.bridgeStart x.val
  | .ls c =>
    if s.rb Reg.LS_LATCHED c.val then
      if (s.outI o).low then s.w Reg.LS_STATE 6 c.val
      else (((s.w Reg.LS_STATE (s.lsOnState c.val) c.val).modOut o (fun x => { x with phase := 0 }))).emit (.pin "LS" c.val true)
    else s.w Reg.LS_STATE 0 c.val

/-! ## Samples (Tables 7.1 and 7.4) -/

/-- The first phase at which something holds, with a code. -/
def phaseOf (code : Nat) (f : Nat → Bool) : List (Nat × Nat) :=
  match (List.range 3).find? f with
  | some p => [(code, p)]
  | none => []

/-- The pre-driver sensor of a bridge has failed (R479). -/
def State.gdSensorFailed (s : State) (x : Nat) : Bool := decide (s.r Reg.THERM_SNS_STATE 0 (32 + x) ≠ 0)

/-- Both case references have failed (R479). -/
def State.caseFailed (s : State) : Bool := decide (s.r Reg.THERM_SNS_STATE 0 38 ≠ 0 ∧ s.r Reg.THERM_SNS_STATE 0 39 ≠ 0)

/-- The conditions that a sample of a bridge meets, with their phases, the lowest code first (Table 7.1). -/
def State.gdConds (s : State) (x : Nat) (q : GdSample) : List (Nat × Nat) :=
  phaseOf 1 (fun p => decide (s.r Reg.GD_SHUNT_OC x < q.shunt.getD p 0)) ++
  phaseOf 2 (fun p => match q.vds.getD p none with | some v => decide (s.r Reg.GD_DESAT_V x < v) | none => false) ++
  phaseOf 3 (fun p => q.both.getD p false) ++
  (if q.vdrv < 85 ∨ (s.drive.vdrvLow = true ∧ q.vdrv ≤ 90) then [(4, 3)] else []) ++
  phaseOf 5 (fun p => decide (q.vbs.getD p 0 < s.r Reg.GD_VBS_UV x)) ++
  (if 850 < q.vbus then [(6, 3)] else []) ++
  (if 100 * (s.r Reg.GD_TSD x : Int) < q.temp ∨ s.gdSensorFailed x = true then [(7, 3)] else [])

/-- Active current limit of a channel in mA (Table 7.3). -/
def lsLimit (large : Bool) : Nat := if large then 12000 else 3000

/-- The conditions that a sample of a channel meets (Table 7.4). -/
def State.lsConds (s : State) (c : Nat) (q : LsSample) : List (Nat × Nat) :=
  (if s.r Reg.LS_OC_TRIP c < q.i ∧ s.r Reg.LS_OC_FILT c ≤ q.ocFor then [(0x11, 3)] else []) ++
  (if lsLimit (s.rb Reg.LS_SIZE c) ≤ q.i ∧ 1000 ≤ q.limFor then [(0x12, 3)] else []) ++
  (if 100 * (s.r Reg.LS_DT_LIMIT c : Int) < q.temp - q.case ∨ s.caseFailed = true then [(0x13, 3)] else []) ++
  (if 17000 < q.temp then [(0x14, 3)] else [])

/-- The conditions of a sample. -/
def State.conds (s : State) : ProtSample → List (Nat × Nat)
  | .gd x q => s.gdConds x.val q
  | .ls c q => s.lsConds c.val q

/-- What a sample leaves behind: a bridge's voltages, and whether VDRV is low. -/
def State.takeSample (s : State) : ProtSample → State
  | .gd x q =>
    let s := (s.w Reg.GD_VBUS q.vbus x.val).each 3 (fun p s => s.w Reg.GD_VBS (q.vbs.getD p 0) x.val p)
    s.modDrive (fun d => { d with vdrvLow := decide (q.vdrv < 85) || (d.vdrvLow && decide (q.vdrv ≤ 90)) })
  | .ls _ _ => s

/-- A fault can act on an output: its gates or its channel are on, and a bootstrap voltage counts once switching has started
(R209). DEDUCED: an output that is off by its command takes no fault. -/
def State.faultActs (s : State) (o : OutSel) (code : Nat) : Bool :=
  match o with
  | .gd x =>
    let st := s.r Reg.GD_STATE x.val
    decide (st = 2) || (decide (st = 1) && decide (code ≠ 5)) || (decide (st = 3) && decide (code = 4 ∨ code = 6))
  | .ls c => decide (s.r Reg.LS_STATE c.val = 1 ∨ s.r Reg.LS_STATE c.val = 2)

/-- The fault of a sample that an output takes: of several the lowest code (R213). -/
def State.sampleFault (s : State) (p : ProtSample) : Option (Nat × Nat) :=
  (s.conds p).find? (fun x => isFaultCode p.out x.1 && s.faultActs p.out x.1)

/-- The thermal conditions of a sample. -/
def State.sampleHot (s : State) (p : ProtSample) : List Nat := ((s.conds p).filter (fun x => isThermalCode p.out x.1)).map (·.1)

/-- A sample shows cross-conduction. -/
def State.sampleCross (s : State) : ProtSample → Option Nat
  | .gd x q => ((s.gdConds x.val q).find? (fun y => decide (y.1 = 3))).map (·.2)
  | .ls _ _ => none

/-- A thermal condition holds on: a bridge's sensor at or above TSD − TSD_HYST, a channel less than 10 K below DT_LIMIT, or at
155 °C or above (Tables 7.1 and 7.4); or its sensor, or both case references, have failed (R479). -/
def State.stillHot (s : State) (p : ProtSample) (code : Nat) : Bool :=
  match p with
  | .gd x q => decide (100 * ((s.r Reg.GD_TSD x.val : Int) - (s.r Reg.GD_TSD_HYST x.val : Int)) ≤ q.temp) || s.gdSensorFailed x.val
  | .ls c q =>
    if code = 0x13 then decide (100 * ((s.r Reg.LS_DT_LIMIT c.val : Int) - 10) < q.temp - q.case) || s.caseFailed
    else decide (15500 ≤ q.temp)

/-! ## Protection commands (R211 to R213, R215) -/

/-- PROTECTION_FAULT: a fault of Table 7.1 or 7.4 in the sample of an active output. Cross-conduction and a thermal condition of
the same sample come before it (R213). -/
def execProtectionFault (p : ProtSample) (s : State) : Host.Outcome State Fault Refusal :=
  let s := s.takeSample p
  if s.prot p.out = .active ∧ s.sampleCross p = none ∧ s.sampleHot p = [] then
    match s.sampleFault p with
    | some (c, ph) => .next (s.protFault p.out c ph)
    | none => .next s
  else .next s

/-- Thermal conditions of an output, `h` the lowest of them (R211, R213, R215): off and held; a pending retry is kept, and another
fault of the same sample becomes one. -/
def State.thermalHold (s : State) (o : OutSel) (h : Nat) (l : List Nat) (other : Option (Nat × Nat)) : State :=
  let keep := fun (s : State) (g : OutI → OutI) => s.modOut o (fun x => g { x with hot := (h :: l) ++ x.hot.filter (fun c => !(h :: l).contains c) })
  if s.prot o = .active then keep ((s.protRecord o h 3).protOff o .thermalHold) (fun x => { x with retry := false, fresh := other })
  else if s.prot o = .retryWait then keep ((s.protRecord o h 3).protOff o .thermalHold) (fun x => { x with retry := true, fresh := none })
  else if s.prot o = .thermalHold then keep s (fun x => x)
  else s

/-- THERMAL_CONDITION: a sample that meets a thermal condition and shows no cross-conduction. -/
def execThermalCondition (p : ProtSample) (s : State) : Host.Outcome State Fault Refusal :=
  let s := s.takeSample p
  match s.sampleCross p, s.sampleHot p with
  | none, h :: l => .next (s.thermalHold p.out h l (s.sampleFault p))
  | _, _ => .next s

/-- THERMAL_LATCH_CLEAR: every condition of the hold has cleared. A pending retry goes on, a fault kept with the hold is taken as in
Active, else the output restarts (Table 7.2, R213). -/
def execThermalLatchClear (p : ProtSample) (s : State) : Host.Outcome State Fault Refusal :=
  let s := s.takeSample p
  let o := p.out
  if s.prot o = .thermalHold then
    let x := s.outI o
    let hot := x.hot.filter (fun c => s.stillHot p c)
    if hot ≠ [] then .next (s.modOut o (fun x => { x with hot := hot }))
    else
      let s := s.modOut o (fun x => { x with retry := false, fresh := none, hot := [] })
      match x.fresh with
      | some (c, ph) => .next (s.protFault o c ph)
      | none =>
        if x.retry then
          if s.tries o < s.retryMax o then .next (s.protOff o .retryWait) else .next ((s.protOff o .locked).lockedEvent o)
        else .next (s.protRestart o)
  else .next s

/-- CROSS_CONDUCTION: all gates off, XC_LATCH, from every other state. -/
def execCrossConduction (x : Fin 6) (q : GdSample) (s : State) : Host.Outcome State Fault Refusal :=
  let o := OutSel.gd x
  let s := s.takeSample (.gd x q)
  match s.sampleCross (.gd x q) with
  | none => .next s
  | some ph =>
    if s.prot o = .xcLatch then .next s
    else .next (((s.protRecord o 3 ph).protOff o .xcLatch).modOut o (fun y => { y with retry := false, fresh := none, hot := [] }))

/-- RETRY_WAIT of an output, in ms. -/
def State.retryWait (s : State) : OutSel → Nat
  | .gd x => s.r Reg.GD_RETRY_WAIT x.val
  | .ls c => s.r Reg.LS_RETRY_WAIT c.val

/-- RETRY_TIMER_EXPIRY: the timer, which shows `ms`, has reached RETRY_WAIT: a try is used and the output restarts. -/
def execRetryTimerExpiry (o : OutSel) (ms : Nat) (s : State) : Host.Outcome State Fault Refusal :=
  if s.prot o = .retryWait ∧ s.retryWait o ≤ ms then .next ((s.setTries o (s.tries o + 1)).protRestart o) else .next s

/-- TRY_RESET_EXPIRY: an output has spent `ms` in Active without a fault, 10 s or more. -/
def execTryResetExpiry (o : OutSel) (ms : Nat) (s : State) : Host.Outcome State Fault Refusal :=
  if s.prot o = .active ∧ 10000 ≤ ms then .next (s.setTries o 0) else .next s

/-- A fault condition of a bridge is present: VDRV low, bus overvoltage, a bootstrap voltage below VBS_UV. -/
def State.gdFaultPresent (s : State) (x : Nat) : Bool :=
  (s.gdStanding x).isSome || (List.range 3).any (fun p => decide (s.r Reg.GD_VBS x p < s.r Reg.GD_VBS_UV x))

/-- A fault condition of a channel is present: its current is above OC_TRIP. -/
def State.lsFaultPresent (s : State) (c : Nat) : Bool := decide (s.r Reg.LS_OC_TRIP c < s.r Reg.LS_I_MEAS c)

/-- A GD CLR meets its condition in Table 7.2. -/
def State.gdClrOk (s : State) (x : Nat) : Bool :=
  match s.r Reg.GD_STATE x with
  | 6 => !s.gdFaultPresent x
  | 7 => decide (s.r Reg.GD_MODE x = 0)
  | _ => false

/-- GD_CLR: CLR = 1 applied. -/
def execGdClr (x : Fin 6) (s : State) : Host.Outcome State Fault Refusal :=
  if s.rb Reg.GD_CLR x.val then
    let s := s.w Reg.GD_CLR 0 x.val
    if s.gdClrOk x.val then .next ((s.w Reg.GD_TRIES 0 x.val).bridgeStart x.val) else .next s
  else .next s

/-- LS_CLR: CLR = 1 applied. -/
def execLsClr (c : Fin 32) (s : State) : Host.Outcome State Fault Refusal :=
  if s.rb Reg.LS_CLR c.val then
    let s := s.w Reg.LS_CLR 0 c.val
    if s.r Reg.LS_STATE c.val = 5 ∧ !s.lsFaultPresent c.val then .next ((s.w Reg.LS_TRIES 0 c.val).protRestart (.ls c)) else .next s
  else .next s

/-- LS_SUPPLY_LOW (0x15 of Table 7.4): the supply reads below 7.0 V (0.1 V): off, no fault and no try. A channel that waits to
retry or is held finds the supply low when it restarts. -/
def execLsSupplyLow (c : Fin 32) (v : Nat) (s : State) : Host.Outcome State Fault Refusal :=
  if v < 70 then
    let s := (s.ev Reg.LSX_SUPPLY_EVENT (s.r Reg.LS_SUPPLY c.val)).ev Reg.LS_EVENT 5 c.val
    let s := s.modOut (.ls c) (fun x => { x with low := true })
    if s.prot (.ls c) = .active then .next (s.protOff (.ls c) .supplyLow) else .next s
  else .next s

/-- LS_SUPPLY_RECOVER: the supply has read above 7.5 V for 1 ms, given in 0.1 V and 0.1 ms: the channel resumes its latched
command. -/
def execLsSupplyRecover (c : Fin 32) (v held : Nat) (s : State) : Host.Outcome State Fault Refusal :=
  if 75 < v ∧ 10 ≤ held then
    let s := s.modOut (.ls c) (fun x => { x with low := false })
    if s.prot (.ls c) = .supplyLow then .next (s.protRestart (.ls c)) else .next s
  else .next s

/-- OPEN_LOAD_DETECT (R216): the current in mA has been below OL_THRESH for the ms of on-time given: a flag; the channel stays
on. -/
def execOpenLoadDetect (c : Fin 32) (i onFor : Nat) (s : State) : Host.Outcome State Fault Refusal :=
  if (s.r Reg.LS_STATE c.val = 1 ∨ s.r Reg.LS_STATE c.val = 2) ∧ !s.rb Reg.LS_OPEN_LOAD c.val ∧ i < s.r Reg.LS_OL_THRESH c.val ∧
      s.r Reg.LS_OL_FILT c.val ≤ onFor then
    .next ((s.wb Reg.LS_OPEN_LOAD true c.val).ev Reg.LS_EVENT 4 c.val)
  else .next s

/-- OPEN_LOAD_CLEAR (R216): the current in mA reaches OL_THRESH. -/
def execOpenLoadClear (c : Fin 32) (i : Nat) (s : State) : Host.Outcome State Fault Refusal :=
  if s.r Reg.LS_OL_THRESH c.val ≤ i then .next (s.wb Reg.LS_OPEN_LOAD false c.val) else .next s

/-- DRIVE_SUPPLY_RECOVER (R211): VDRV in 0.1 V has risen above 9.0 V: condition 0x04 of every bridge ends. -/
def execDriveSupplyRecover (v : Nat) (s : State) : Host.Outcome State Fault Refusal :=
  if 90 < v then .next (s.modDrive (fun d => { d with vdrvLow := false })) else .next s

/-! ## The power die (R217, R49) -/

/-- Every channel and bridge of a power die that has lost its supply, or starts. -/
def State.powerDieClear (s : State) : State :=
  let s := s.each 32 (fun c s =>
    let s := if s.r Reg.LS_STATE c = 1 ∨ s.r Reg.LS_STATE c = 2 then s.emit (.pin "LS" c false) else s
    let s := ((s.w Reg.LS_STATE 0 c).w Reg.LS_TRIES 0 c).wb Reg.LS_LATCHED false c
    (((s.w Reg.LS_FAULTS 0 c).wb Reg.LS_OPEN_LOAD false c).w Reg.LS_DUTY_APPLIED 0 c).w Reg.LS_FAULT 0 c)
  let s := s.each 6 (fun x s =>
    let st := s.r Reg.GD_STATE x
    let s := if st = 1 ∨ st = 2 ∨ st = 3 then s.bridgeOff x 0 else s.w Reg.GD_STATE 0 x
    let s := (s.w Reg.GD_TRIES 0 x).w Reg.GD_FAULTS 0 x
    ((s.w Reg.GD_REFRESHES 0 x).w Reg.GD_FAULT 0 x).w Reg.GD_FAULT_PHASE 3 x)
  s.modDrive (fun d => { d with ls := [], gd := [], bridges := [], vdrvLow := false })

/-- POWER_DIE_RESET (R217, R351): both VLS supplies are lost. The cut island's latch clears with it. -/
def execPowerDieReset (s : State) : Host.Outcome State Fault Refusal :=
  let s := (s.soutDrive 0).powerDieClear
  let s := (s.wbit Reg.LEDGE_SUPPLIES 4 false).wbit Reg.LEDGE_SUPPLIES 5 false
  .next ({ s with safety := { s.safety with island := 0, frames := 0 } }.modDrive (fun d => { d with resets := d.resets + 1, fed := 0, down := true }))

/-- POWER_DIE_START (R49, R336, Table 11.6): VLS_A (`vls` bit 0) or VLS_B (bit 1) comes up; channels start off; the cut
island seeds its challenge sequence and tests both switches of every SOUT channel, a failure being fault 0x22. A power die that
the other supply feeds runs on (R217). DESIGN CHOICE: at reset neither supply has been seen to come up. -/
def execPowerDieStart (vls : BitVec 2) (switchesOk : Bool) (s : State) : Host.Outcome State Fault Refusal :=
  let fed := s.drive.fed
  let s := s.modDrive (fun d => { d with fed := fed ||| vls, down := d.down && decide (vls = 0) })
  let s := (s.when (vls.getLsbD 0) (fun s => s.wbit Reg.LEDGE_SUPPLIES 4 true)).when (vls.getLsbD 1) (fun s => s.wbit Reg.LEDGE_SUPPLIES 5 true)
  if vls = 0 ∨ fed ≠ 0 then .next s
  else
    let s := s.powerDieClear
    let (c, s) := s.freeWord
    let s := s.w Reg.SAFE_HB_CHALLENGE c.toNat
    .next (if switchesOk then s else s.safeInternal 0x22)

/-! ## Bridges (R203 to R210) -/

/-- BRIDGE_COMMAND (R203): the logic die in RUN sends each bridge its command; a bridge without gates on starts. One without an
owner is driven off (R46). -/
def State.bridgeCommand (s : State) (x : Nat) : State :=
  if s.drive.down then s
  else
  let s := s.modBridge x (fun b => { b with linkOff := false })
  let st := s.r Reg.GD_STATE x
  let low := decide (s.r Reg.GD_CMD x < s.r Reg.GD_M_MIN x)
  if s.r Reg.GD_MODE x = 0 ∨ s.isReleased (resId 5 x) = true then
    if st = 0 ∨ st = 6 ∨ st = 7 then s
    else (s.bridgeOff x 0).modOut (gdSel x) (fun o => { o with retry := false, fresh := none, hot := [] })
  else if st = 0 then s.bridgeStart x
  else if st = 3 ∧ low = false then s.bridgeStart x
  else if (st = 1 ∨ st = 2) ∧ low = true then s.bridgeOff x 3
  else s

/-- BRIDGE_LINK_LOSS (R203): two waves without a valid command; it consumes no tries. -/
def execBridgeLinkLoss (s : State) : Host.Outcome State Fault Refusal :=
  .next (s.each 6 (fun x s =>
    let st := s.r Reg.GD_STATE x
    let s := s.modBridge x (fun b => { b with linkOff := true })
    if st = 1 ∨ st = 2 ∨ st = 3 then s.bridgeOff x 0 else s))

/-! ### Exact fractions -/

/-- A fraction in lowest terms. -/
def fracOf (n d : Nat) : Frac := let g := Nat.gcd n d; if g = 0 then {} else ⟨n / g, d / g⟩
/-- Sum. -/
def Frac.add (a b : Frac) : Frac := fracOf (a.num * b.den + b.num * a.den) (a.den * b.den)
/-- Difference, not below 0. -/
def Frac.sub (a b : Frac) : Frac := fracOf (a.num * b.den - b.num * a.den) (a.den * b.den)
/-- Order. -/
def Frac.le (a b : Frac) : Bool := decide (a.num * b.den ≤ b.num * a.den)
/-- What is left of an angle in turns beyond whole turns. -/
def Frac.turn (a : Frac) : Frac := fracOf (a.num % a.den) a.den

/-- f_out moves toward its target by at most a step (R204). -/
def freqStep (f target step : Frac) : Frac :=
  if f.le target then (if (f.add step).le target then f.add step else target)
  else if (target.add step).le f then f.sub step else target

/-- An angle in turns as radians in binary32. -/
def radians (a : Frac) : F32 := fMul 0x40C90FDB#32 (fDiv (fOfInt (a.num : Nat)) (fOfInt (a.den : Nat)))

/-- The dead time of a bridge in its present band, ns (R206). -/
def State.deadTime (s : State) (x : Nat) : Nat :=
  match s.r Reg.GD_BAND x with
  | 0 => s.r Reg.GD_DT_B0 x
  | 1 => s.r Reg.GD_DT_B1 x
  | 2 => s.r Reg.GD_DT_B2 x
  | 3 => s.r Reg.GD_DT_B3 x
  | _ => s.r Reg.GD_DT_B4 x

/-- Duties of the three phases (R204), in 0.01 %. -/
def bridgeDuties (mode m boost : Nat) (theta : F32) (reverse : Bool) : List Nat :=
  if mode = 2 then [min 10000 m, 0, 0]
  else
    let two3 : F32 := 0x40060A92#32  -- 2π / 3
    let amp := fDiv (fOfInt (min 10000 (boost + (10000 - boost) * m / 10000) : Nat)) (fOfInt 10000)
    let a := Config.fsin theta
    let b := Config.fsin (fSub theta two3)
    let c := Config.fsin (fAdd theta two3)
    let (b, c) := if reverse then (c, b) else (b, c)
    let z := fDiv (fAdd (fMax a (fMax b c)) (fMin a (fMin b c))) (fOfInt 2)
    let k := fDiv amp 0x3FDDB3D7#32  -- √3
    let d := fun v => min 10000 (fToInt (fMul (fAdd 0x3F000000#32 (fMul k (fSub v z))) (fOfInt 10000)) 0).toNat
    [d a, d b, d c]

/-- An on-time or off-time below 100 ns is omitted (R205). -/
def dutyOmit (freq d : Nat) : Nat :=
  if d * 100000 < 100 * freq then 0 else if (10000 - d) * 100000 < 100 * freq then 10000 else d

/-- GATE_STRENGTH_ADJUST (R208). -/
def State.strengthAdjust (s : State) (x p : Nat) (t : Option Nat) : State :=
  match t with
  | none => s.w Reg.GD_TSW 0x3FF x p
  | some t =>
    let s := s.w Reg.GD_TSW (min 0x3FE t) x p
    let tgt := s.r Reg.GD_SLEW_TARGET x
    let tol := s.r Reg.GD_SLEW_TOL x
    let v := s.r Reg.GD_STR x p
    if s.r Reg.GD_VBUS x < 100 then s
    else if tgt + tol < t then s.w Reg.GD_STR (min 15 (v + 1)) x p
    else if t + tol < tgt then s.w Reg.GD_STR (v - 1) x p
    else s

/-- PWM_PERIOD (R204 to R208, R210): a period of a running bridge starts; `q` is what its pre-driver measured. The gates get the
frequency, the dead time of the band, the duties and the strengths; the band changes here alone while the bridge runs. -/
def execPwmPeriod (x : Fin 6) (q : PwmIn) (s : State) : Host.Outcome State Fault Refusal :=
  let n := x.val
  let s := s.w Reg.GD_VBUS q.vbus n
  let s := s.each 3 (fun p s => s.w Reg.GD_VBS (q.vbs.getD p 0) n p)
  if s.r Reg.GD_STATE n ≠ 2 then .next s
  else
    let s := s.each 3 (fun p s => s.strengthAdjust n p (q.tsw.getD p none))
    let m := s.r Reg.GD_CMD n
    let freq := s.r Reg.GD_PWM_FREQ n
    let b := s.bridge n
    let s := s.w Reg.GD_BAND b.band n
    let turn := decide (s.rb Reg.GD_DIR n ≠ b.dir)
    let target := if turn then {} else fracOf (s.r Reg.GD_F_RATED n * m) 10000
    let f := freqStep b.f target (fracOf (s.r Reg.GD_ACCEL n) freq)
    let theta := (b.theta.add (fracOf f.num (10 * f.den * freq))).turn
    let dir := if turn && decide (f.num = 0) then s.rb Reg.GD_DIR n else b.dir
    let s := s.modBridge n (fun y => { y with f := f, theta := theta, dir := dir })
    let boost := s.r Reg.GD_BOOST n
    let mode := s.r Reg.GD_MODE n
    let s := s.w Reg.GD_F_OUT (if mode = 1 then (2 * f.num + f.den) / (2 * f.den) else 0) n
    let s := s.w Reg.GD_M_OUT (if mode = 1 then min 10000 (boost + (10000 - boost) * m / 10000) else m) n
    let duties := (bridgeDuties mode m boost (radians theta) dir).map (dutyOmit freq)
    let s := s.emit (.link "PWM" n (freq :: s.deadTime n :: duties ++ (List.range 3).map (fun p => s.r Reg.GD_STR n p)))
    .next (s.each 3 (fun p s =>
      let act := decide (9800 < s.r Reg.GD_DUTY n p) && decide (s.r Reg.GD_VBS n p < s.r Reg.GD_VBS_REFRESH n)
      (s.wb Reg.GD_REFRESH_ACT act n p).w Reg.GD_DUTY (duties.getD p 0) n p))

/-- BOOTSTRAP_PRECHARGE_END (R209): switching starts at STR_INIT, or fault 0x05 is taken. -/
def execBootstrapPrechargeEnd (x : Fin 6) (vbs : List Nat) (s : State) : Host.Outcome State Fault Refusal :=
  let n := x.val
  if s.r Reg.GD_STATE n = 1 then
    let s := s.each 3 (fun p s => s.w Reg.GD_VBS (vbs.getD p 0) n p)
    match (List.range 3).find? (fun p => decide (s.r Reg.GD_VBS n p < s.r Reg.GD_VBS_UV n)) with
    | some p => .next (s.protFault (.gd x) 5 p)
    | none => .next ((s.w Reg.GD_STATE 2 n).each 3 (fun p s => s.w Reg.GD_STR (s.r Reg.GD_STR_INIT n) n p))
  else .next s

/-- REFRESH_INSERTION (R210): the high side goes off, after the dead time the low side is on for REFRESH_W, and after the dead time
the high side is back. The steps leave as the times in ns; `us` is the time since the last insertion, REFRESH_T or more. -/
def execRefreshInsertion (x : Fin 6) (p : Fin 3) (us : Nat) (s : State) : Host.Outcome State Fault Refusal :=
  let n := x.val
  if s.r Reg.GD_STATE n = 2 ∧ s.rb Reg.GD_REFRESH_ACT n p.val ∧ s.r Reg.GD_REFRESH_T n ≤ us then
    .next ((s.inc Reg.GD_REFRESHES n).emit (.link "REFRESH" n [p.val, s.deadTime n, s.r Reg.GD_REFRESH_W n, s.deadTime n]))
  else .next s

/-! ## Waves, applied writes, RUN -/

/-- What the logic die reads of the power die in a wave, and its commands (R203, R215, R217). -/
def State.driveWave (s : State) : State :=
  let q := s.inp
  let s := if s.drive.resets = 0 then s else (s.add Reg.LSX_PD_RESETS s.drive.resets).modDrive (fun d => { d with resets := 0 })
  let s := (s.w Reg.LSX_VLS_A (q.vls.getD 0 0)).w Reg.LSX_VLS_B (q.vls.getD 1 0)
  let s := s.over (List.range (min 32 q.lsI.length)) (fun c s => s.w Reg.LS_I_MEAS (q.lsI.getD c 0) c)
  let s := s.over (List.range (min 32 q.lsT.length)) (fun c s =>
    let t := q.lsT.getD c 0
    (s.wi Reg.LS_T_CH t c).wi Reg.LS_T_DIFF (t - (if s.rb Reg.LS_SUPPLY c then s.ri Reg.LSX_T_CASE_B else s.ri Reg.LSX_T_CASE_A)) c)
  let s := s.each 32 (fun c s => s.lsPwmWave c)
  s.when s.running (fun s => s.each 6 (fun x s => s.bridgeCommand x))

/-- An applied write or commit of an LS field (R218, R219). -/
def State.lsApplied (s : State) (f : Fld) (c : Nat) : State :=
  if f = Reg.LS_OUT_REQ then
    if s.r Reg.LS_FUNCTION c = 0 then s.lsCommand c (s.rb Reg.LS_OUT_REQ c) else s
  else if f = Reg.LS_DUTY ∨ f = Reg.LS_PWM_FREQ then s.lsDuty c (s.r Reg.LS_DUTY c)
  else if f = Reg.LS_DRIVE_MODE then
    if s.r Reg.LS_STATE c = 1 ∨ s.r Reg.LS_STATE c = 2 then s.w Reg.LS_STATE (s.lsOnState c) c else s
  else s

/-- RUN adopts the latched power-die state: every contactor-select channel found LOCKED, or with an unread fault, is a
select fault (R220). -/
def State.driveRun (s : State) : State :=
  s.each 32 (fun c s =>
    let x := Tab.getD s.drive.ls c {}
    let s := s.modDrive (fun d => { d with ls := Tab.upd d.ls c {} (fun y => { y with unread := false }) })
    let s := if s.isReleased (resId 4 c) && s.rb Reg.LS_LATCHED c then s.lsCommand c false else s
    if s.r Reg.LS_FUNCTION c = 1 ∧ (s.r Reg.LS_STATE c = 5 ∨ x.unread = true) then s.selectFault c else s)

end Sys2Proof.Machine
end

