-- ==== Sys2Proof/Machine/Calendar.lean ====
section
/-! DEFINITION. Civil dates of wall-clock time, and the texts built from numbers. -/
namespace Sys2Proof.Machine
set_option cleanup.letToHave false

/-- A civil date: year, month 1–12, day 1–31. -/
structure Date where
  y : Int
  m : Nat
  d : Nat
  deriving DecidableEq, Repr

/-- The proleptic Gregorian date of a day counted from 1970-01-01. -/
def dateOf (days : Int) : Date :=
  let z := days + 719468
  let era := z / 146097
  let doe := (z - era * 146097).toNat
  let yoe := (doe - doe / 1460 + doe / 36524 - doe / 146096) / 365
  let doy := doe - (365 * yoe + yoe / 4 - yoe / 100)
  let mp := (5 * doy + 2) / 153
  let m := if mp < 10 then mp + 3 else mp - 9
  ⟨(yoe : Int) + era * 400 + (if m ≤ 2 then 1 else 0), m, doy - (153 * mp + 2) / 5 + 1⟩

/-- The day, counted from 1970-01-01, of a date. -/
def dayOf (y : Int) (m d : Nat) : Int :=
  let y := if m ≤ 2 then y - 1 else y
  let era := y / 400
  let yoe := (y - era * 400).toNat
  let mp := if 2 < m then m - 3 else m + 9
  let doy := (153 * mp + 2) / 5 + d - 1
  let doe := yoe * 365 + yoe / 4 - yoe / 100 + doy
  era * 146097 + (doe : Int) - 719468

/-- Weekday of a day: 0 = Monday. -/
def weekday (days : Int) : Nat := ((days + 3) % 7).toNat

/-- Days of a month. -/
def monthDays (y : Int) (m : Nat) : Nat :=
  ((if m = 12 then dayOf (y + 1) 1 1 else dayOf y (m + 1) 1) - dayOf y m 1).toNat

/-- The instant of a daylight-saving rule in a UTC year, in minutes since 1970 (R275). -/
def dstInstantOf (y : Int) (v : Nat) : Int :=
  let m := v % 16
  let week := v / 16 % 8
  let wd := v / 256 % 8
  let minute := v / 65536 % 2048
  let first := dayOf y m 1
  let d1 := (wd + 7 - weekday first) % 7 + 1
  let d := d1 + 7 * (week - 1)
  let d := if d ≤ monthDays y m then d else d - 7
  dayOf y m d * 1440 + minute

/-- Daylight time is in effect at a UTC time in minutes (R275). -/
def dstInEffect (start stop : Nat) (minutes : Int) : Bool :=
  if start = 0 ∨ stop = 0 then false
  else
    let y := (dateOf (minutes / 1440)).y
    let a := dstInstantOf y start
    let b := dstInstantOf y stop
    if a < b then decide (a ≤ minutes ∧ minutes < b)
    else if b < a then decide (minutes < b ∨ a ≤ minutes)
    else false

/-- The local offset, in minutes, at a UTC time in ms; and whether daylight time is in effect. -/
def State.offsetAt (s : State) (ms : Nat) : Int × Bool :=
  let dst := dstInEffect (s.r Reg.BILL_DST_START) (s.r Reg.BILL_DST_END) ((ms / 60000 : Nat) : Int) && decide (s.r Reg.BILL_DST_OFFSET ≠ 0)
  (s.ri Reg.BILL_STD_OFFSET + (if dst then (s.r Reg.BILL_DST_OFFSET : Int) else 0), dst)

/-- Local time in minutes since 1970 of a UTC time in ms. -/
def State.localMinutes (s : State) (ms : Nat) : Int := ((ms / 60000 : Nat) : Int) + (s.offsetAt ms).1

/-! ## Texts -/

/-- A number in decimal, at least `w` digits. -/
def decimal (w n : Nat) : String :=
  let t := Nat.repr n
  String.ofList (List.replicate (w - t.length) '0') ++ t

/-- One hexadecimal digit, uppercase. -/
def hexDigit (n : Nat) : Char := if n % 16 < 10 then Char.ofNat (48 + n % 16) else Char.ofNat (55 + n % 16)

/-- `w` hexadecimal digits, uppercase. -/
def hexText (w n : Nat) : String := String.ofList ((List.range w).map (fun i => hexDigit (n / 16 ^ (w - 1 - i))))

/-- Bytes as hexadecimal digits. -/
def hexBytes (l : List Byte) : String := String.join (l.map (fun b => hexText 2 b.toNat))

/-- ASCII bytes as text, up to the first zero. -/
def textOf (l : List Byte) : String := String.ofList ((l.takeWhile (fun b => decide (b ≠ 0))).map (fun b => Char.ofNat b.toNat))

/-- A text as bytes of UTF-8; every text of the device is ASCII. -/
def textBytes (t : String) : List Byte := t.toList.map (fun c => BitVec.ofNat 8 c.toNat)

end Sys2Proof.Machine
end

