-- ==== Sys2Proof/Machine/Reactive.lean ====
section
/-! DEFINITION. Binary64 sums of a line cycle (R241, R242): rounding to 53 bits, square roots, and the single-bin DFT. No
value here comes near the ends of the binary64 range, so a binary64 number is a dyadic integer with at most 53 significant
bits. -/
namespace Sys2Proof.Machine
set_option cleanup.letToHave false

/-- Integer square root, bit by bit from bit `k` downward. -/
def isqrtFrom (n : Nat) : Nat → Nat → Nat
  | 0, r => r
  | k + 1, r => let t := r + 2 ^ k; isqrtFrom n k (if t * t ≤ n then t else r)
/-- Integer square root of a number below 2^256. -/
def isqrt (n : Nat) : Nat := isqrtFrom n 128 0

/-- The nearest integer to sqrt(a / b), ties to even. -/
def sqrtRatio (a b : Nat) : Nat :=
  if b = 0 then 0
  else
    let r := isqrt (a / b)
    -- (2r + 1)² against 4a / b decides the rounding
    let t := (2 * r + 1) * (2 * r + 1) * b
    if t < 4 * a ∨ (t = 4 * a ∧ r % 2 = 1) then r + 1 else r

/-- Round a natural number to binary64's 53 significant bits, ties to even; `sticky` says that a positive part below one
unit was dropped. -/
def round53 (n : Nat) (sticky : Bool) : Nat :=
  if n = 0 then 0
  else
    let e := Nat.log2 n + 1 - 53
    if e = 0 then n
    else
      let q := n / 2 ^ e
      let r := n % 2 ^ e
      let h := 2 ^ (e - 1)
      let up := decide (h < r) || (decide (r = h) && (sticky || decide (q % 2 = 1)))
      (if up then q + 1 else q) * 2 ^ e

/-- round_half_even(sqrt(a × b)) in binary64 (R242): the product, then the root, each rounded to 53 bits. -/
def apparent (a b : Nat) : Nat :=
  let p := round53 (a * b) false
  let sc := isqrt (p * 2 ^ 80)
  let r := round53 sc (decide (sc * sc ≠ p * 2 ^ 80))
  (roundHalfEven r (2 ^ 40)).toNat

/-- A sum in binary64, in the order of the samples. -/
def sum53 (l : List Nat) : Nat := l.foldl (fun v x => round53 (v + x) false) 0

/-! ## The single-bin DFT (R241) -/

/-- A binary64 number m / 2^e. -/
structure B64 where
  m : Int
  e : Nat
  deriving DecidableEq, Repr

/-- Round m / 2^e to 53 significant bits. -/
def b64Round (m : Int) (e : Nat) : B64 := ⟨if m < 0 then -(round53 m.natAbs false : Int) else round53 m.natAbs false, e⟩

/-- Sum in binary64. -/
def b64Add (a b : B64) : B64 :=
  let e := max a.e b.e
  b64Round (a.m * 2 ^ (e - a.e) + b.m * 2 ^ (e - b.e)) e

/-- Product in binary64. -/
def b64Mul (a b : B64) : B64 := b64Round (a.m * b.m) (a.e + b.e)

/-- 2π in units of 2^-256. -/
def twoPi : Nat := 727543153783532648560469885555459725306786754656784859917544302235877788932370

/-- The Taylor terms of cosine or sine from the term `t` of degree `k`, for an angle x, in units of 2^-256. -/
def taylor (x : Int) : Nat → Nat → Int → Int
  | 0, _, _ => 0
  | n + 1, k, t => t + taylor x n (k + 2) (-(Int.tdiv (Int.tdiv (t * x) (2 ^ 256) * x) (2 ^ 256 * ((k + 1) * (k + 2)))))

/-- The binary64 number nearest to a value in units of 2^-256 whose error is far below 2^-128. -/
def b64Near (v : Int) : B64 := b64Round (roundHalfEven v (2 ^ 128)) 128

/-- cos(2πk / N) and sin(2πk / N), each the nearest binary64 number. -/
def cosTurn (k n : Nat) : B64 := b64Near (taylor (twoPi * k / n : Nat) 50 0 (2 ^ 256))
/-- sin(2πk / N), the nearest binary64 number. -/
def sinTurn (k n : Nat) : B64 := let x : Int := (twoPi * k / n : Nat); b64Near (taylor x 50 1 x)

/-- Σ y[k] e^(−j2πk/N) over the samples, in their order: real and imaginary part. -/
def dftFrom (n : Nat) : Nat → List Int → B64 × B64 → B64 × B64
  | _, [], t => t
  | k, y :: ys, t =>
    let v : B64 := ⟨y, 0⟩
    dftFrom n (k + 1) ys (b64Add t.1 (b64Mul v (cosTurn k n)), b64Add t.2 (b64Mul ⟨-y, 0⟩ (sinTurn k n)))

/-- round_half_even((2 / N) × Im(V̂ × conj(Î))) of one phase over a cycle's samples (voltage, current), in binary64 (R241).
DESIGN CHOICE (the spec says binary64, not the order of evaluation): the exponentials are rounded to the nearest, the sums run
in the order of the samples, then Im V̂ Re Î − Re V̂ Im Î is formed and multiplied by the rounded 2 / N. -/
def reactive (ys : List (Int × Int)) : Int :=
  let n := ys.length
  let v := dftFrom n 0 (ys.map Prod.fst) (⟨0, 0⟩, ⟨0, 0⟩)
  let i := dftFrom n 0 (ys.map Prod.snd) (⟨0, 0⟩, ⟨0, 0⟩)
  let a := b64Mul v.2 i.1
  let b := b64Mul v.1 i.2
  let w := b64Round (roundHalfEven (2 ^ 129) n) 128
  let q := b64Mul (b64Add a ⟨-b.m, b.e⟩) w
  roundHalfEven q.m (2 ^ q.e)

end Sys2Proof.Machine
end

