-- ==== Sys2Proof/Machine/Operands.lean ====
section
/-! DEFINITION. The operand forms of reads, writes and stages: the fields a word address names, which fields a mask
selects, and whether a value is one the field's description defines (R8, R11, R12, R449, R514, R515). -/
namespace Sys2Proof.Machine

set_option cleanup.letToHave false

/-- A field at an instance and repetition. -/
structure Place where
  f : Fld
  n : Nat
  i : Nat
  j : Nat
  deriving DecidableEq, Repr

/-- The read-only fields that the image gives, by block: declarations and wiring, which no meaning changes. DEDUCED from the
descriptions of the object maps. -/
def imageFields (block : Nat) : List Fld :=
  match block with
  | 0x04 => [Reg.ALLOC_ORPHAN_BUDGET, Reg.ALLOC_ALLOC_PART, Reg.ALLOC_RATING]
  | 0x05 => [Reg.MTX_CONTACTORS, Reg.MTX_BUSES, Reg.MTX_GUARD_SETS, Reg.MTX_CT_KIND, Reg.MTX_CT_FROM, Reg.MTX_CT_TO,
    Reg.MTX_CT_GROUP, Reg.MTX_CT_SEL_KIND, Reg.MTX_CT_SEL_INDEX, Reg.MTX_CT_SEL_BIT, Reg.MTX_CT_MIRROR_SIN,
    Reg.MTX_GUARD_MASK]
  | 0x06 => [Reg.CAB_PRESENT, Reg.CAB_BIDIR, Reg.CAB_RATING, Reg.CAB_I_RATED, Reg.CAB_PORT_A, Reg.CAB_PORT_B]
  | 0x07 => [Reg.SESS_LOCK_LS, Reg.SESS_LOCK_SIN, Reg.SESS_PROX_SIN, Reg.SESS_RATED_I, Reg.SESS_RATED_V,
    Reg.SESSX_SIGN_KEY]
  | 0x08 => [Reg.LOOP_PERIOD, Reg.LOOP_PHASE, Reg.LOOP_MEAS_SRC, Reg.LOOP_REF_SRC, Reg.LOOP_FF_SRC, Reg.LOOP_OUT_DST]
  | 0x09 => [Reg.COOL_PRESENT, Reg.COOL_CIRCUIT, Reg.COOL_INLET_SRC, Reg.COOL_OUTLET_SRC, Reg.COOL_FLOW_SRC,
    Reg.COOL_AMB_SRC, Reg.COOLC_PRESENT, Reg.COOLC_PUMP_LOOP, Reg.COOLC_FAN_LOOP]
  | 0x0B => [Reg.LS_SIZE, Reg.LS_SUPPLY, Reg.LS_FUNCTION]
  | 0x0C => [Reg.MET_PLS_POINT, Reg.MET_PLS_REG, Reg.MET_PLS_WIDTH, Reg.MET_PLS_CONST]
  | 0x0D => [Reg.MPT_KIND, Reg.MPT_WIRING, Reg.MPT_SUM_UP, Reg.MPT_PARTITION, Reg.MPT_U_NOM, Reg.MPT_P_RATED]
  | 0x10 => [Reg.PREPAY_TOKEN_KEY]
  | 0x12 => [Reg.SAFE_ACK_SIN, Reg.SAFE_OUT_TEST, Reg.SAFE_SIN_TP, Reg.SAFE_SIN_FILT, Reg.SAFE_TP_PERIOD,
    Reg.SAFE_TP_WAVE, Reg.SAFE_TP_WIDTH, Reg.SAFE_FN_TYPE, Reg.SAFE_FN_CONN, Reg.SAFE_FN_SRC_A,
    Reg.SAFE_FN_SRC_B, Reg.SAFE_FN_CUT, Reg.SAFE_FN_FILT, Reg.SAFE_FN_THRESH, Reg.SAFE_FN_POL,
    Reg.SAFE_FN_DISC, Reg.SAFE_FN_PL_LO, Reg.SAFE_FN_PL_HI, Reg.SAFE_CN_ROLE, Reg.SAFE_CN_PORT_A,
    Reg.SAFE_CN_PORT_B, Reg.SAFE_CN_PERIOD, Reg.SAFE_CN_SOURCE, Reg.SAFE_CN_WDOG, Reg.SAFE_CN_CUT]
  | 0x15 => [Reg.TSN_MODE, Reg.TSN_PVID, Reg.TSN_AS_EN, Reg.TSN_GCL_CYCLE, Reg.TSN_GCL_LEN, Reg.TSN_GCL_DUR,
    Reg.TSN_GCL_GATES]
  | 0x16 => [Reg.T1S_ROLE, Reg.T1S_PLCA_EN, Reg.T1S_NODE_COUNT]
  | 0x17 => [Reg.CAN_RING_BASE, Reg.CAN_RING_LEN, Reg.CAN_SH_ID, Reg.CAN_SH_IDE, Reg.CAN_SH_EN]
  | 0x18 => [Reg.SENT_EN, Reg.SENT_FORMAT, Reg.SENT_PAUSE, Reg.SENT_CRC_MODE, Reg.SENT_TICK_NS, Reg.SENT_GAIN1,
    Reg.SENT_OFFSET1, Reg.SENT_GAIN2, Reg.SENT_OFFSET2, Reg.SENT_VALID_LO1, Reg.SENT_VALID_HI1,
    Reg.SENT_VALID_LO2, Reg.SENT_VALID_HI2]
  | 0x1D => [Reg.LEDGE_HOLD_MIN, Reg.LEDGE_HOLD_EN]
  | _ => []

/-- A read-only field that the image gives. -/
def Fld.fromImage (f : Fld) : Bool := (imageFields f.block).contains f

/-- Lowest bit of a place in its word. -/
def Place.lo (p : Place) : Nat := p.f.lo
/-- Mask of a place in its word. -/
def Place.mask (p : Place) : Nat := (2 ^ p.f.w - 1) * 2 ^ p.f.lo

/-- The word of R313 at which TAMP.EVENT stands beside SEALED_MASK and ERASED. -/
def tampWord : Nat := 0x11100000

/-- The register rows that an instance of MPT has (R268): 7 of an AC point, 2 of a DC point, 9 of the cove sums. -/
def meterRows (n : Nat) : Nat := if n < 8 then 7 else if n < 0x28 then 2 else 9

/-- A word address lies beyond the register rows of its MPT instance. -/
def beyondRows (addr : Nat) : Bool :=
  decide (addr / 0x1000000 = 0x0D) && decide (0x100 + 0x20 * meterRows (addr / 0x10000 % 256) ≤ addr % 0x10000)

/-- The places a word address names (R8): none where the address is refused. -/
def placesAt (addr : Nat) : List Place :=
  if addr % 4 ≠ 0 ∨ 4294967296 ≤ addr ∨ addr = tampWord + 4 ∨ beyondRows addr = true then []
  else (blockFields (addr / 0x1000000)).filterMap (fun f =>
    match f.locate addr with
    | some (n, i, j) => some ⟨f, n, i, j⟩
    | none => none)

/-- The places a write of a word address may select. -/
def writePlacesAt (addr : Nat) : List Place :=
  if addr = tampWord then [⟨Reg.TAMPX_EVENT, 0, 0, 0⟩] else placesAt addr

/-- A field that does not apply to the KIND of its metering point reads 0 (R268). -/
def State.hidden (s : State) (p : Place) : Bool :=
  decide ((p.f = Reg.MPT_SPLICE_TOL ∧ s.r Reg.MPT_KIND p.n ≠ 2) ∨ (p.f = Reg.MPT_NEUTRAL_TOL ∧ s.r Reg.MPT_KIND p.n ≠ 1))

/-- The word at an address as a read shows it: reserved bits read 0 (R11). -/
def State.readWord (s : State) (addr : Nat) : Nat :=
  (placesAt addr).foldl (fun v p => v + (if s.hidden p then 0 else s.r p.f p.n p.i p.j) * 2 ^ p.f.lo) 0

/-- The words from an address upward; none where one of them is refused (R8). -/
def State.readWords (s : State) : Nat → Nat → Option (List Nat)
  | _, 0 => some []
  | addr, k + 1 =>
    if (placesAt addr).isEmpty then none
    else (State.readWords s (addr + 4) k).map (fun l => s.readWord addr :: l)

/-- The value a word gives a place. -/
def Place.value (p : Place) (word : Nat) : Nat := word / 2 ^ p.f.lo % 2 ^ p.f.w

/-- Month, week, weekday and minute of a daylight-saving instant (R275). -/
def dstLegal (v : Nat) : Bool :=
  let month := v % 16
  let week := v / 16 % 8
  let day := v / 256 % 8
  let minute := v / 65536 % 2048
  decide (v = 0) || (decide (1 ≤ month ∧ month ≤ 12 ∧ 1 ≤ week ∧ week ≤ 5 ∧ day ≤ 6 ∧ minute ≤ 1425 ∧ minute % 15 = 0) &&
    decide (v = month + 16 * week + 256 * day + 65536 * minute))

/-- A binary32 value lies in a range: finite, and so (R175, R199, R201). -/
def floatLegal (r : FloatRange) (v : Nat) : Bool :=
  let x := BitVec.ofNat 32 v
  fFinite x && (match r with
    | .any => true
    | .nonneg => !fLt x 0#32
    | .pos => fLt 0#32 x
    | .unit => !fLt x 0#32 && !fLt 0x3F800000#32 x)

/-- A value is one the description of a field defines (R514, R515). `large` says that the load-switch channel is a large
one. -/
def Legal.ok (l : Legal) (w v : Nat) (large : Bool) : Bool :=
  match l with
  | .any => true
  | .upTo lo hi => decide (lo ≤ v ∧ v ≤ hi)
  | .upToOr lo hi x => decide (lo ≤ v ∧ v ≤ hi) || decide (v = x)
  | .oneOf vs => vs.contains v
  | .signed lo hi => decide (lo ≤ signedOf w v ∧ signedOf w v ≤ hi)
  | .signedStep lo hi m => decide (lo ≤ signedOf w v ∧ signedOf w v ≤ hi) && decide (signedOf w v % (m : Int) = 0)
  | .step lo hi m => decide (lo ≤ v ∧ v ≤ hi) && decide (v % m = 0)
  | .f32 r => floatLegal r v
  | .dstInstant => dstLegal v
  | .lsOcTrip => if large then decide (500 ≤ v ∧ v ≤ 8000) else decide (100 ≤ v ∧ v ≤ 2000)
  | .nibbles hi => (List.range (w / 4)).all (fun k => decide (v / 16 ^ k % 16 ≤ hi))
  | .lsOlThresh => if large then decide (20 ≤ v ∧ v ≤ 2000) else decide (5 ≤ v ∧ v ≤ 500)

/-- A value of a place is one its description defines. -/
def State.legalAt (s : State) (p : Place) (v : Nat) : Bool :=
  p.f.legal.ok p.f.w v (decide (p.f.block = 0x0B) && s.rb Reg.LS_SIZE p.n)

/-- The places a write entry selects, when its mask covers whole fields and no reserved bit; otherwise the error: 0x1912
for an address that R8 refuses, 0x190B for the mask (R449). -/
def selectPlaces (e : WEntry) : Except Nat (List Place) :=
  let l := writePlacesAt e.addr.toNat
  if l.isEmpty then .error 0x1912
  else
    let m := e.mask.toNat
    let sel := l.filter (fun p => decide (m &&& p.mask ≠ 0))
    let cover := sel.foldl (fun v p => v ||| p.mask) 0
    if cover = m then .ok sel else .error 0x190B

/-- A field's pending form. -/
def Place.pend (p : Place) (v : Nat) : PendingField := ⟨p.f.addr p.n p.i p.j, p.f.lo, v⟩

/-- The place a pending field names. -/
def pendPlace (q : PendingField) : Option Place := (writePlacesAt q.addr).find? (fun p => decide (p.f.lo = q.lo))

/-- Write a pending value into its field. -/
def State.wPend (s : State) (q : PendingField) : State :=
  match pendPlace q with
  | some p => s.w p.f q.value p.n p.i p.j
  | none => s

/-- The value a pending list gives a field: the last one wins. -/
def pendValue (l : List PendingField) (f : Fld) (n i j : Nat) : Option Nat :=
  ((l.reverse).find? (fun q => decide (q.addr = f.addr n i j ∧ q.lo = f.lo))).map (·.value)

/-- The value a field has with a pending list taken as already in force (R451). -/
def State.rWith (s : State) (l : List PendingField) (f : Fld) (n : Nat := 0) (i : Nat := 0) (j : Nat := 0) : Nat :=
  (pendValue l f n i j).getD (s.r f n i j)

/-- A pending list names a field. -/
def pendHas (l : List PendingField) (f : Fld) (n : Nat := 0) (i : Nat := 0) (j : Nat := 0) : Bool :=
  (pendValue l f n i j).isSome

end Sys2Proof.Machine
end

