-- ==== Sys2Proof/Machine/Serve.lean ====
section
/-! DEFINITION. Acceptance of requests (R438 to R447): issuers, the identifier window, replies; and the one place where
a transaction is discarded (R450). -/
namespace Sys2Proof.Machine

set_option cleanup.letToHave false

/-! ## Time -/

/-- RTC in ms. -/
def State.rtc (s : State) : Nat := s.r64 Reg.BILL_RTC_LO Reg.BILL_RTC_HI
/-- RTC in s. -/
def State.rtcS (s : State) : Nat := s.rtc / 1000

/-! ## Issuers (R440 to R442) -/

/-- The issuer entries in use. -/
def State.issuerOf (s : State) (kid : BitVec 64) : Option Nat :=
  (List.range 32).find? (fun i => decide (s.r Reg.CMD_ISS_STATE 0 i ≠ 0) &&
    decide (s.r Reg.CMD_ISS_ID_HI 0 i * 4294967296 + s.r Reg.CMD_ISS_ID_LO 0 i = kid.toNat))

/-- Words of a generation as one little-endian number. -/
def State.otpNat (s : State) (f : Fld) (g word count : Nat) : Nat :=
  (List.range count).foldl (fun v k => v + s.r f 0 g (word + k) * 2 ^ (32 * k)) 0

/-- The digest that stands for the owner root: OWNER_ROOT of the active OWNER generation (payload bytes 0 to 47), or the
manufacturing key of ROM in BLANK and MANUFACTURE (R397 to R399). -/
def State.ownerRoot (s : State) : Option Nat :=
  if s.r Reg.DEV_LIFECYCLE ≤ 1 then some Config.mfgRoot.toNat
  else
    let g := s.r Reg.OTP_ACTIVE / 4 % 4
    if s.rbit Reg.OTP_VALID (8 + g) then some (s.otpNat Reg.OTP_OWNER_WORD g 2 12) else none

/-- The RTC allows a certificate's validity period (R440). -/
def State.inValidity (s : State) (notBefore notAfter : Nat) : Bool :=
  decide (s.r Reg.BILL_TIME_STATUS = 0x55) || (decide (notBefore ≤ s.rtcS) && decide (s.rtcS ≤ notAfter))

/-- An issuer certificate is valid (R440). -/
def State.certValid (s : State) (c : Cert) : Bool :=
  decide (some c.rootDigest = s.ownerRoot) && c.sigOk && c.idOk && s.inValidity c.notBefore c.notAfter

/-- ISSUER_ADMIT (R442): the lowest free entry takes a new issuer. -/
def State.issuerAdmit (s : State) (c : Cert) : Option (Nat × State) :=
  match (List.range 32).find? (fun i => decide (s.r Reg.CMD_ISS_STATE 0 i = 0)) with
  | none => none
  | some i =>
    let s := (s.w Reg.CMD_ISS_ID_LO c.issuer.toNat 0 i).w Reg.CMD_ISS_ID_HI (c.issuer.toNat / 4294967296) 0 i
    let s := ((s.w Reg.CMD_ISS_STATE 1 0 i).w Reg.CMD_ISS_RIGHTS c.rights.toNat 0 i).w Reg.CMD_ISS_NOT_AFTER c.notAfter 0 i
    let s := ((s.w Reg.CMD_ISS_FLOOR_LO 0 0 i).w Reg.CMD_ISS_FLOOR_HI 0 0 i).w Reg.CMD_ISS_HELD 0 0 i
    let s := s.w Reg.CMD_ISS_COUNT 0 0 i
    let s := s.modCommand (fun c => { c with windows := Tab.del c.windows i })
    some (i, s.ev Reg.CMD_EVENT 0)

/-! ## The window (R444) -/

/-- The identifiers held for an issuer entry. -/
def State.window (s : State) (i : Nat) : List WindowEntry := Tab.getD s.command.windows i []

/-- FLOOR: the smallest identifier when 256 are held, else 0. -/
def floorOf (l : List WindowEntry) : Nat := if 256 ≤ l.length then (l.head?.map (·.id)).getD 0 else 0

/-- Insert by identifier, ascending. -/
def windowInsert (e : WindowEntry) : List WindowEntry → List WindowEntry
  | [] => [e]
  | x :: l => if e.id < x.id then e :: x :: l else if e.id = x.id then e :: l else x :: windowInsert e l

/-- What the next boundary applies: accepted RI writes, and the committed transaction. -/
def State.pendingChanges (s : State) : List FieldInit :=
  let txn := decide (s.r Reg.CMD_TXN_STATE = 2) && decide (s.command.applyAt.getD (s.tide + 1) = s.tide + 1)
  let l := s.command.ri ++ (if txn then (s.command.staged.filter (fun x => x.target.isNone)).map (·.f) else [])
  l.map (fun q => ⟨q.addr, q.lo, q.value⟩)

/-- Queue a mirror on the pair link (R371). DESIGN CHOICE: its encoding is the firmware's, so the time it takes on the line is
not known; it is taken as one frame of 4,118 bytes. -/
def State.mirrorQueue (s : State) (m : Mirror) : State :=
  let l := s.r Reg.PAIR_PAIR_LINK
  s.chainQueue l 0x22 4118 (.mirror l m)

/-- The unit runs its position: flood, or yielding. -/
def State.floods (s : State) : Bool := decide (s.r Reg.PAIR_ROLE = 2 ∨ s.r Reg.PAIR_ROLE = 4)

/-- The flood unit forwards a window entry, and the changes accepted with it, on the pair link (R371, R447). -/
def State.pairForward (s : State) (i : Nat) (e : WindowEntry) : State :=
  if s.floods then
    let kid := BitVec.ofNat 64 (s.r Reg.CMD_ISS_ID_HI 0 i * 4294967296 + s.r Reg.CMD_ISS_ID_LO 0 i)
    s.mirrorQueue
      { full := false
        tide := s.tide
        fwSvn := BitVec.ofNat 32 (s.r Reg.DEV_FW_SVN)
        changes := s.pendingChanges
        window := [(kid, e.id, e.result, e.apply)] }
  else s

/-- Enter an identifier; of 257 the smallest is dropped. -/
def State.windowEnter (s : State) (i : Nat) (e : WindowEntry) : State :=
  let l := windowInsert e (s.window i)
  let l := if 256 < l.length then l.drop 1 else l
  let s := s.modCommand (fun c => { c with windows := Tab.put c.windows i l })
  let f := floorOf l
  let s := (s.w Reg.CMD_ISS_FLOOR_LO f 0 i).w Reg.CMD_ISS_FLOOR_HI (f / 4294967296) 0 i
  ((s.w Reg.CMD_ISS_HELD l.length 0 i).inc Reg.CMD_ISS_COUNT 0 i).pairForward i e

/-! ## Replies (R439) -/

/-- What an operation answers: RESULT, DATA, APPLY_TIDE, DETAIL. -/
structure Answer where
  result : Nat := 0
  data : List Nat := []
  apply : Option Nat := none
  detail : Option Nat := none
  /-- The reply waits: a cove-wide commit answers later (R452). -/
  later : Bool := false
  deriving DecidableEq, Repr

/-- The outcome of the checks of R443 that stand before the operation's own. -/
inductive Gate where
  /-- Refused; the result does not enter the window. -/
  | refuse (code : Nat)
  /-- A duplicate: the stored result. -/
  | dup (e : WindowEntry)
  /-- Refused at step 5: the result enters the window of the issuer entry. -/
  | noRight (i : Nat)
  | pass (i : Nat)
  deriving DecidableEq, Repr

/-- Strand mode serves the operations of chapter 16 alone (R472); the ebb role serves four operations (R447). -/
def State.ebbRole (s : State) : Bool := decide (s.r Reg.PAIR_ROLE = 3)

/-- Step 2 of R443: the issuer entry, admitted where its certificate is new. DEDUCED: a request of a known issuer that carries no
certificate is held to the validity that its entry keeps, NOT_AFTER. -/
def State.issuerGate (s : State) (e : Env) : Except Nat (Nat × State) :=
  match s.issuerOf e.kid with
  | some i =>
    let certOk := match e.cert with | some c => s.certValid c && decide (c.issuer = e.kid) | none => s.inValidity 0 (s.r Reg.CMD_ISS_NOT_AFTER 0 i)
    if !e.sigOk || !certOk then .error 0x1902
    else if s.r Reg.CMD_ISS_STATE 0 i = 2 then .error 0x190F
    else .ok (i, s)
  | none =>
    match e.cert with
    | none => .error 0x1902
    | some c =>
      if !e.sigOk || !s.certValid c || decide (c.issuer ≠ e.kid) then .error 0x1902
      else match s.issuerAdmit c with
        | some r => .ok r
        | none => .error 0x1906

/-- DEV.SERIAL as a number. -/
def State.serial (s : State) : Nat := s.r128 Reg.DEV_SERIAL

/-- Steps 1 to 5 of R443. -/
def State.gate (s : State) (e : Env) (right : Nat) : Gate × State :=
  if !e.decodes ∨ e.id = 0 ∨ 2 ^ 64 ≤ e.id then (.refuse 0x1901, s)
  else if 16384 < e.size then (.refuse 0x1910, s)
  else match s.issuerGate e with
    | .error c => (.refuse c, if c = 0x1902 ∨ c = 0x190F then s.inc Reg.CMD_SIG_FAILS else s)
    | .ok (i, t) =>
      -- a refused request changes no state (R456): the issuer of a request for another device is not admitted
      if e.serial.toNat ≠ s.serial then (.refuse 0x190A, s)
      else
        let s := t
        let l := s.window i
        match l.find? (fun x => decide (x.id = e.id)) with
        | some x => (.dup x, s)
        | none =>
          if e.id < floorOf l then (.refuse 0x1903, s)
          else if !s.rbit Reg.CMD_ISS_RIGHTS right 0 i then (.noRight i, s)
          else (.pass i, s)

/-- Take the request out of the queue (R447). -/
def State.dequeue (s : State) (e : Env) : State :=
  let l := s.command.queue
  let q := match l.find? (fun x => decide (x.kid = e.kid ∧ x.id = e.id)) with
    | some x => if e.decodes then l.erase x else l
    | none => l
  (s.modCommand (fun c => { c with queue := q })).w Reg.CMD_QUEUE q.length

/-- Send a reply upward, or hand it to the sender here: the count of hops falls at each device (R75). DESIGN CHOICE: the count
stands in HOPS of CONTROL beside UP. -/
def State.replyUp (s : State) (id hops : Nat) (payload : List Byte) : State :=
  if hops = 0 then s.emit (.bytes "REPLY" payload)
  else s.chainMessage (s.r Reg.CHAIN_UPSTREAM) 0x31 (ctrlUp + hops) 0 id payload

/-- Big-endian bytes. -/
def beBytes (k v : Nat) : List Byte := (leBytes k v).reverse

/-- Head of a CBOR item: its major type with a count, in the shortest form. -/
def cborHead (major v : Nat) : List Byte :=
  let b := fun (k : Nat) => leBytes 1 (32 * major + k)
  if v < 24 then b v
  else if v < 256 then b 24 ++ beBytes 1 v
  else if v < 65536 then b 25 ++ beBytes 2 v
  else if v < 4294967296 then b 26 ++ beBytes 4 v
  else b 27 ++ beBytes 8 v

/-- A number of a reply: an unsigned integer, or from 2^64 on a byte string of 16 bytes, as a serial is one. -/
def cborNum (v : Nat) : List Byte := if v < 18446744073709551616 then cborHead 0 v else cborHead 2 16 ++ leBytes 16 v

/-- An optional entry of a CBOR map with an integer key. -/
def cborEntry (key : Nat) : Option (List Byte) → List (List Byte)
  | none => []
  | some v => [cborHead 0 key ++ v]

/-- The reply map (Table 15.2), keys ascending. DESIGN CHOICE: DATA is an array of unsigned integers and is absent when empty, as the
spec names the results of the operations and gives no encoding; DUPLICATE is absent when it is not true. -/
def replyBytes (id serial : Nat) (a : Answer) (dup : Bool) : List Byte :=
  let data := if dup || a.data.isEmpty then none else some (cborHead 4 a.data.length ++ a.data.flatMap cborNum)
  let l := cborEntry 1 (some (cborNum id)) ++ cborEntry 2 (some (cborHead 2 16 ++ leBytes 16 serial)) ++ cborEntry 3 (some (cborNum a.result)) ++
    cborEntry 4 data ++ cborEntry 5 (a.apply.map cborNum) ++ cborEntry 6 (if dup then some (leBytes 1 0xF5) else none) ++
    cborEntry 7 (a.detail.map cborNum)
  cborHead 5 l.length ++ l.flatten

/-- Reply (R439): on the TLS connection of the request; a reply to a request of the chain returns the way it came (R446), in strand
mode in IMAGE frames on CH_0 (R473). -/
def State.replyTo (s : State) (e : Env) (a : Answer) (dup : Bool) : State :=
  let id := if e.decodes then e.id else 0
  match e.conn with
  | some c => s.emit (.reply c id s.serial a.result a.data a.apply dup a.detail)
  | none =>
    let b := replyBytes id s.serial a dup
    if s.phase = .strand then s.chainMessage 0 0x40 0 0 e.msgId b else s.replyUp e.msgId e.hops b

/-- Count a result. -/
def State.countResult (s : State) (r : Nat) : State := if r = 0 then s.inc Reg.CMD_ACCEPTED else s.inc Reg.CMD_REFUSED

/-- Serve a request: the checks of R443, the operation, the window entry and the reply. A refused operation answers
the state as it was, but for the counters of its block (R456). `ebbOk` says that the ebb role serves the operation (R447), `strandOk` that strand mode does (R473). -/
def State.serve (s : State) (e : Env) (right : Nat) (ebbOk strandOk : Bool) (op : State → Nat → Answer × State) : State :=
  let s := s.dequeue e
  match s.gate e right with
  | (.refuse c, s) =>
    let s := if c = 0x1903 then s.inc Reg.CMD_STALE else s
    (s.countResult c).replyTo e { result := c } false
  | (.dup x, s) => (s.inc Reg.CMD_DUPLICATES).replyTo e { result := x.result, apply := x.apply } true
  | (.noRight i, s) =>
    let s := s.windowEnter i ⟨e.id, 0x1904, none⟩
    (s.countResult 0x1904).replyTo e { result := 0x1904 } false
  | (.pass i, s) =>
    if s.phase = .strand && !strandOk then
      let s := s.windowEnter i ⟨e.id, 0x1A0C, none⟩
      (s.countResult 0x1A0C).replyTo e { result := 0x1A0C } false
    else if s.ebbRole && !ebbOk then
      let s := s.windowEnter i ⟨e.id, 0x1909, none⟩
      (s.countResult 0x1909).replyTo e { result := 0x1909 } false
    else
      let (a, s) := op s i
      if a.later then s
      else
        let s := s.windowEnter i ⟨e.id, a.result, a.apply⟩
        (s.countResult a.result).replyTo e a false

/-- A request for this device enters the queue of 64 (R447); one that does not decode, or whose OP is unknown, is answered so at
once. With the queue full nothing is read. -/
def State.enqueue (s : State) (e : Env) (op : Nat) : State :=
  if !e.decodes ∨ op < 1 ∨ 14 < op then s.serve { e with decodes := false } 0 true true (fun s _ => ({}, s))
  else if 64 ≤ s.command.queue.length then s.ev Reg.CMD_EVENT 5
  else
    let s := s.modCommand (fun c => { c with queue := c.queue ++ [⟨e.kid, e.id, op⟩] })
    s.w Reg.CMD_QUEUE s.command.queue.length

/-- Free an issuer entry. -/
def State.issuerFree (s : State) (i : Nat) : State :=
  let s := ((s.w Reg.CMD_ISS_ID_LO 0 0 i).w Reg.CMD_ISS_ID_HI 0 0 i).w Reg.CMD_ISS_STATE 0 0 i
  let s := ((s.w Reg.CMD_ISS_RIGHTS 0 0 i).w Reg.CMD_ISS_NOT_AFTER 0 0 i).w Reg.CMD_ISS_FLOOR_LO 0 0 i
  let s := ((s.w Reg.CMD_ISS_FLOOR_HI 0 0 i).w Reg.CMD_ISS_HELD 0 0 i).w Reg.CMD_ISS_COUNT 0 0 i
  s.modCommand (fun c => { c with windows := Tab.del c.windows i })

/-- A new OWNER generation empties the issuer table (R442). -/
def State.issuersEmpty (s : State) : State := s.each 32 (fun i s => s.issuerFree i)

/-- The device serves commands: firmware running, or strand mode (R472). -/
def State.serving (s : State) : Bool := s.alive || decide (s.phase = .strand ∨ s.phase = .retired)

/-! ## Transactions: discard (R450) -/

/-- Leave the transaction with a result. -/
def State.txnEnd (s : State) (result : Nat) : State :=
  let s := ((s.w Reg.CMD_TXN_STATE 0).w Reg.CMD_TXN_FIELDS 0).w Reg.CMD_TXN_RESULT result
  let s := (s.w Reg.CMD_TXN_SCOPE 0).w Reg.CMD_TXN_APPLY 0
  s.modCommand (fun c => { c with staged := [], prepared := false, applyAt := none, coveTargets := [], coveReply := none, coveN := 0 })

/-- The head answers the COMMIT that waits (R452). -/
def State.coveAnswer (s : State) (a : Answer) : State :=
  match s.command.coveReply with
  | none => s
  | some (e, i) =>
    let s := s.modCommand (fun c => { c with coveReply := none })
    let s := s.windowEnter i ⟨e.id, a.result, a.apply⟩
    (s.countResult a.result).replyTo e a false

/-- TRANSACTION_DISCARD (R450): a reset, a renumbering or a switch-over discards the transaction. A COMMIT that waits for its
targets is answered so, for every request receives a reply (R439). -/
def State.txnDiscard (s : State) : State :=
  if s.r Reg.CMD_TXN_STATE = 0 then s else ((s.coveAnswer { result := 0x190E }).txnEnd 0x190E).ev Reg.CMD_EVENT 2

/-- APPLY_TIDE of what is accepted now: the next boundary (R317). DESIGN CHOICE: a command is accepted between two wave
boundaries and outside the fence window of wave 0, so the boundary after the next (Table 15.6) is never named. -/
def State.applyTide (s : State) : Nat := s.tide + 1

end Sys2Proof.Machine
end

