-- ==== Sys2Proof/Machine/Vault.lean ====
section
/-! DEFINITION. Key vault, derivation, attestation and OTP (chapter 13). -/
namespace Sys2Proof.Machine
set_option cleanup.letToHave false

/-! ## Slots (R379 to R382) -/

/-- State of a slot: 0 empty, 1 valid, 2 invalid, 3 erased. -/
def State.keyState (s : State) (k : Nat) : Nat := s.r Reg.KEY_STATE 0 k

/-- A slot counts as empty: nothing in it, or its key became invalid or erased before this tide (R383). -/
def State.slotEmpty (s : State) (k : Nat) : Bool :=
  decide (s.keyState k = 0) || (decide (2 ≤ s.keyState k) && !s.vault.gone.contains k)

/-- A permitted combination of type and usage (Table 13.1). -/
def usageOk (type usage : Nat) : Bool :=
  match type with
  | 1 => decide (usage ≤ 3)
  | 2 => decide (usage = 4 ∨ usage = 7)
  | 3 => decide (usage = 3 ∨ usage = 5)
  | 4 => decide (usage = 6)
  | _ => false

/-- The key of a slot as a record. -/
def State.keyRec (s : State) (k : Nat) : KeyRec :=
  { slot := k, type := s.r Reg.KEY_TYPE 0 k, usage := s.r Reg.KEY_USAGE 0 k, limit := s.r Reg.KEY_LIMIT 0 k
    survive := s.rb Reg.KEY_SURVIVE 0 k, ledge := s.rb Reg.KEY_LEDGE_BOUND 0 k, anchor := s.rb Reg.KEY_ANCHOR 0 k
    state := s.keyState k, origin := s.r Reg.KEY_ORIGIN 0 k, count := s.r Reg.KEY_COUNT 0 k
    parent := s.r Reg.KEY_PARENT 0 k, depth := s.r Reg.KEY_DEPTH 0 k, cause := s.r Reg.KEY_INV_CAUSE 0 k
    tag := s.r Reg.KEY_TAG 0 k, parentTag := s.r Reg.KEY_PARENT_TAG 0 k, created := s.r Reg.KEY_CREATED 0 k
    uses := s.r Reg.KEY_USES 0 k, mat := Tab.getD s.vault.mat k 0, pub := Tab.getD s.vault.pub k [] }

/-- First 4 bytes of the SHA-384 of a public key; 0 where there is none (PUB_HASH). -/
def pubHash (pub : List Byte) : Nat := if pub.isEmpty then 0 else (Config.sha384 pub).toNat % 4294967296

/-- Put a record into its slot. -/
def State.putKey (s : State) (q : KeyRec) : State :=
  let k := q.slot
  let s := ((s.w Reg.KEY_TYPE q.type 0 k).w Reg.KEY_USAGE q.usage 0 k).w Reg.KEY_LIMIT q.limit 0 k
  let s := ((s.wb Reg.KEY_SURVIVE q.survive 0 k).wb Reg.KEY_LEDGE_BOUND q.ledge 0 k).wb Reg.KEY_ANCHOR q.anchor 0 k
  let s := ((s.w Reg.KEY_STATE q.state 0 k).w Reg.KEY_ORIGIN q.origin 0 k).w Reg.KEY_COUNT q.count 0 k
  let s := ((s.w Reg.KEY_PARENT q.parent 0 k).w Reg.KEY_DEPTH q.depth 0 k).w Reg.KEY_INV_CAUSE q.cause 0 k
  let s := ((s.w Reg.KEY_TAG q.tag 0 k).w Reg.KEY_PARENT_TAG q.parentTag 0 k).w Reg.KEY_CREATED q.created 0 k
  let s := (s.w Reg.KEY_USES q.uses 0 k).w Reg.KEY_PUB_HASH (if q.type = 3 ∨ q.type = 4 then pubHash q.pub else 0) 0 k
  s.modVault (fun v => { v with
    mat := if q.mat = 0 then Tab.del v.mat k else Tab.put v.mat k q.mat
    pub := if q.pub.isEmpty then Tab.del v.pub k else Tab.put v.pub k q.pub })

/-- The valid general keys. -/
def State.validKeys (s : State) : List Nat := (List.range 504).filterMap (fun e => if s.keyState (8 + e) = 1 then some (8 + e) else none)

/-- SLOTS_USED, ANCHORS, TRUST_COUNT and KEY_VALID of the token key. -/
def State.vaultRefresh (s : State) : State :=
  let used := (List.range 504).filter (fun e => !s.slotEmpty (8 + e))
  let anchors := (s.validKeys.filter (fun k => s.rb Reg.KEY_ANCHOR 0 k)).length
  let s := ((s.w Reg.KEY_SLOTS_USED used.length).w Reg.KEY_ANCHORS anchors).w Reg.SESSX_TRUST_COUNT anchors
  let t := s.r Reg.PREPAY_TOKEN_KEY
  s.wb Reg.PREPAY_KEY_VALID (decide (s.keyState t = 1 ∧ s.r Reg.KEY_USAGE 0 t = 7))

/-- The vault at a tide boundary: the slots whose keys went in the tide that ended count as empty (R383). -/
def State.vaultTide (s : State) : State :=
  if s.vault.gone.isEmpty then s else (s.modVault (fun v => { v with gone := [] })).vaultRefresh

/-! ## Use, invalidation and erasure (R381, R387, R388) -/

/-- Append a tag to the revocation note beside a hand-over blob (R394). -/
def State.noteTag (s : State) (tag : Nat) : State :=
  s.modVault (fun v =>
    if v.area0.blob then { v with area0 := { v.area0 with notes := v.area0.notes ++ [tag] } }
    else if v.area1.blob then { v with area1 := { v.area1 with notes := v.area1.notes ++ [tag] } }
    else v)

/-- One key becomes invalid, or erased, with a cause. -/
def State.keyGone (s : State) (k cause : Nat) (erase : Bool) : State :=
  if s.keyState k ≠ 1 then s
  else
    let s := s.modVault (fun v => { v with gone := k :: v.gone })
    let s := (if erase then s else s.noteTag (s.r Reg.KEY_TAG 0 k)).ev Reg.KEY_EVENT (if erase then 2 else 0)
    if erase then
      (s.w Reg.KEY_STATE 3 0 k).modVault (fun v => { v with
        mat := Tab.del v.mat k
        ops := v.ops.map (fun o => if o.slot = k ∧ o.tag = s.r Reg.KEY_TAG 0 k then { o with failed := true } else o) })
    else (s.w Reg.KEY_STATE 2 0 k).w Reg.KEY_INV_CAUSE cause 0 k

/-- The keys derived from a tag, over `fuel` generations. -/
def State.descendants (s : State) : Nat → List Nat → List Nat
  | 0, _ => []
  | f + 1, tags =>
    let l := s.validKeys.filter (fun k => decide (s.r Reg.KEY_PARENT 0 k ≠ 511) && tags.contains (s.r Reg.KEY_PARENT_TAG 0 k))
    if l.isEmpty then [] else l ++ State.descendants s f (l.map (fun k => s.r Reg.KEY_TAG 0 k))

/-- KEY_INVALIDATION_APPLY (R387): a key and every descendant become invalid together. -/
def State.keyInvalidate (s : State) (k cause : Nat) : State :=
  if s.keyState k ≠ 1 then s
  else
    let l := s.descendants 16 [s.r Reg.KEY_TAG 0 k]
    let s := s.keyGone k cause false
    let s := s.over l (fun d s => s.keyGone d 3 false)
    s.vaultRefresh

/-- Erasure of every key of the general slots (R388, the transition to RETIRED). -/
def State.eraseAll (s : State) : State := (s.over s.validKeys (fun k s => s.keyGone k 0 true)).vaultRefresh

/-- Erasure of the ledge-bound keys and their descendants (R388, R392, R394). -/
def State.eraseLedge (s : State) : State :=
  let s := s.over (s.validKeys.filter (fun k => s.rb Reg.KEY_LEDGE_BOUND 0 k)) (fun k s => s.keyGone k 0 true)
  let s := s.modVault (fun v => { v with
    share := 0
    area0 := { v.area0 with ledgeLost := true }
    area1 := { v.area1 with ledgeLost := true } })
  (s.w Reg.KEY_LEDGE_SHARE 0).vaultRefresh

/-- Accept an operation on a key (R381): the errors of R380 and R381, else the count is taken and USES rises. The Bool
says that the counter reached 0. -/
def State.vaultAccept (s : State) (k usage : Nat) : Except Nat (Bool × State) :=
  if s.keyState k ≠ 1 then .error 0x1403
  else if s.r Reg.KEY_USAGE 0 k ≠ usage then .error 0x1402
  else if s.r Reg.KEY_LIMIT 0 k = 1 then
    if s.r Reg.KEY_COUNT 0 k = 0 then .error 0x1403
    else
      let c := s.r Reg.KEY_COUNT 0 k - 1
      .ok (decide (c = 0), (s.w Reg.KEY_COUNT c 0 k).inc Reg.KEY_USES 0 k)
  else .ok (false, s.inc Reg.KEY_USES 0 k)

/-- The end of an operation that took a counter to 0: the key is invalid, with cause 2. -/
def State.counterEnd (s : State) (k : Nat) (last : Bool) : State :=
  if last then (s.ev Reg.KEY_EVENT 1).keyInvalidate k 2 else s

/-- The next lineage tag (R386). -/
def State.newTag (s : State) : Nat × State := (s.vault.nextTag, s.modVault (fun v => { v with nextTag := v.nextTag + 1 }))

/-! ## Derivation (R385) -/

/-- KDF of SP 800-108 in counter mode: the first `bits` bits, big-endian counter and length. A digest is held with its
first byte lowest. -/
def kdf (key : Nat) (label ctx : List Byte) (bits : Nat) : Nat :=
  let c := (Config.hmac384 key ([0, 0, 0, 1] ++ label ++ [0] ++ ctx ++ (leBytes 4 bits).reverse)).toNat
  c % 2 ^ bits

/-- The order of the curve P-384 (an external standard). -/
def p384Order : Nat := 0xFFFFFFFFFFFFFFFFFFFFFFFFFFFFFFFFFFFFFFFFFFFFFFFFC7634D81F4372DDF581A0DB248B0A77AECEC196ACCC52973

/-- Bytes of an ASCII label. -/
def ascii (t : String) : List Byte := t.toList.map (fun c => BitVec.ofNat 8 c.toNat)

/-- Material of a child of a type (R385). -/
def childMaterial (type key : Nat) (label ctx : List Byte) : Nat :=
  match type with
  | 1 => kdf key label ctx 256
  | 3 => ofLe (leBytes 48 (kdf key label ctx 384)).reverse % (p384Order - 1) + 1
  | _ => kdf key label ctx 384

/-- The public key of a private scalar, 96 bytes x ‖ y. -/
def publicOf (d : Nat) : List Byte := leBytes 96 (Config.p384Public d).toNat

/-! ## Key operations (R383, R384) -/

/-- Count a refused vault operation. -/
def State.keyRefused (s : State) (code : Nat) : Answer × State := ({ result := code }, s.inc Reg.KEY_REFUSED)

/-- The checks of a creating operation. DESIGN CHOICE: the spec gives no order; ranges come first, then usage, slot and SURVIVE. -/
def State.keyCheck (s : State) (a : KeyAttrs) (survive : Bool) : Option Nat :=
  if a.type = 0 ∨ 4 < a.type ∨ 7 < a.usage ∨ 2 < a.limit ∨ 4294967296 ≤ a.count ∨ (a.limit = 1 ∧ a.count = 0) then some 0x1401
  else if !usageOk a.type a.usage then some 0x1402
  else if a.slot < 8 ∨ 511 < a.slot ∨ !s.slotEmpty a.slot then some 0x1404
  else if survive ∧ a.limit ≠ 0 then some 0x1408
  else none

/-- Create a key in its slot. -/
def State.keyCreate (s : State) (a : KeyAttrs) (survive ledge anchor : Bool) (origin parent depth parentTag mat : Nat) (pub : List Byte) : State :=
  let (tag, s) := s.newTag
  let s := s.putKey { slot := a.slot, type := a.type, usage := a.usage, limit := a.limit, survive := survive, ledge := ledge
                      anchor := anchor, origin := origin, count := if a.limit = 1 then a.count else 0, parent := parent
                      depth := depth, tag := tag, parentTag := parentTag, created := s.tide, mat := mat, pub := pub }
  s.vaultRefresh

/-- Fresh material from the random source: a nonzero scalar for type 3. -/
def State.randomMaterial (s : State) (type : Nat) : Nat × State :=
  let (b, s) := s.freeBlock
  (if type = 3 then b.toNat % (p384Order - 1) + 1 else if type = 1 then b.toNat % 2 ^ 256 else b.toNat, s)

/-- GENERATE in a slot, with the public key of type 3. -/
def State.keyGenerate (s : State) (a : KeyAttrs) : List Byte × State :=
  let (m, s) := s.randomMaterial a.type
  let pub := if a.type = 3 then publicOf m else []
  (pub, s.keyCreate a a.survive a.ledge false 1 511 0 0 m pub)

/-- Bytes as reply data. -/
def byteData (l : List Byte) : List Nat := l.map BitVec.toNat

/-- KEY_GENERATE (R383). -/
def execKeyGenerate (e : Env) (a : KeyAttrs) (s : State) : Host.Outcome State Fault Refusal :=
  if !s.serving then .next s
  else .next (s.serve e 3 false false (fun s _ =>
    if a.type = 4 then s.keyRefused 0x1401
    else match s.keyCheck a a.survive with
      | some c => s.keyRefused c
      | none => let (pub, s) := s.keyGenerate a; ({ data := byteData pub }, s)))

/-- Unwrap under the import key of slot 6 (R384): KEK = KDF(Z, "UMR-KEK", x(Q_e) ‖ SERIAL, 256), Z the x-coordinate of
d_imp × Q_e; none where the KWP integrity check fails. -/
def State.importUnwrap (s : State) (w : KeyWrap) : Option (List Byte) :=
  let z := (Config.p384Dh (Tab.getD s.vault.mat 6 0) w.qe).toNat
  Config.kwpUnwrap (kdf z (ascii "UMR-KEK") (w.qe.take 48 ++ leBytes 16 s.serial) 256) w.wrapped

/-- The attribute block of a wrapped key (R384). DESIGN CHOICE: the spec gives no places; type, usage, limit mode and the attribute
bits take a byte each (bit 0 SURVIVE, bit 1 LEDGE_BOUND), then COUNT. -/
def attrBlock (a : KeyAttrs) : List Byte :=
  leBytes 1 a.type ++ leBytes 1 a.usage ++ leBytes 1 a.limit ++ leBytes 1 (a.survive.toNat + 2 * a.ledge.toNat) ++ leBytes 4 a.count

/-- Bytes of the material of a type (Table 13.1). -/
def materialLength (type : Nat) : Nat := if type = 1 then 32 else 48

/-- Material from its bytes: a P-384 scalar is a big-endian integer. -/
def materialOf (type : Nat) (l : List Byte) : Nat := if type = 3 then ofLe l.reverse else ofLe l

/-- KEY_LOAD (R383, R384): a secret key unwrapped under the import key in slot 6, or a public key in clear. -/
def execKeyLoad (e : Env) (a : KeyAttrs) (anchor : Bool) (pub : List Byte) (w : KeyWrap) (s : State) : Host.Outcome State Fault Refusal :=
  if !s.serving then .next s
  else .next (s.serve e 3 false false (fun s _ =>
    match s.keyCheck a a.survive with
    | some c => s.keyRefused c
    | none =>
      if a.type = 4 then
        if pub.length ≠ 96 then s.keyRefused 0x1401
        else if anchor ∧ 16 ≤ s.r Reg.KEY_ANCHORS then s.keyRefused 0x1409
        else ({}, s.keyCreate a a.survive a.ledge anchor 2 511 0 0 0 pub)
      else if anchor then s.keyRefused 0x1401
      else if w.qe.length ≠ 96 then s.keyRefused 0x1401
      else match s.vaultAccept 6 3, s.importUnwrap w with
        | .error c, _ => s.keyRefused c
        | .ok _, none => s.keyRefused 0x1405
        | .ok (_, t), some l =>
          if l.take 8 ≠ attrBlock a ∨ l.length ≠ 8 + materialLength a.type then s.keyRefused 0x1405
          else
            let m := materialOf a.type (l.drop 8)
            ({}, t.keyCreate a a.survive a.ledge false 2 511 0 0 m (if a.type = 3 then publicOf m else []))))

/-- KEY_DERIVE (R385, R386): the child takes SURVIVE and LEDGE_BOUND from its parent. The key of slot 1 serves the vault alone
(Table 13.3). -/
def execKeyDerive (e : Env) (parent : Nat) (label ctx : List Byte) (a : KeyAttrs) (s : State) : Host.Outcome State Fault Refusal :=
  if !s.serving then .next s
  else .next (s.serve e 3 false false (fun s _ =>
    if 511 < parent ∨ label.isEmpty ∨ 32 < label.length ∨ 64 < ctx.length ∨ a.type = 4 then s.keyRefused 0x1401
    else
      let survive := s.rb Reg.KEY_SURVIVE 0 parent
      match (if parent = 1 then .error 0x1402 else s.vaultAccept parent 4) with
      | .error c => s.keyRefused c
      | .ok (last, t) =>
        if 15 ≤ s.r Reg.KEY_DEPTH 0 parent then s.keyRefused 0x1401
        else match s.keyCheck a survive with
          | some c => s.keyRefused c
          | none =>
            let m := childMaterial a.type (Tab.getD s.vault.mat parent 0) label ctx
            let pub := if a.type = 3 then publicOf m else []
            let t := t.keyCreate a survive (s.rb Reg.KEY_LEDGE_BOUND 0 parent) false 3 parent (s.r Reg.KEY_DEPTH 0 parent + 1) (s.r Reg.KEY_TAG 0 parent) m pub
            ({}, t.counterEnd parent last)))

/-- Queue an accepted RI write (R317, R449). Of several writes to one field before a boundary the last accepted takes effect
(R12). -/
def State.queueRi (s : State) (q : PendingField) : State :=
  s.modCommand (fun c => { c with ri := c.ri.filter (fun x => !decide (x.addr = q.addr ∧ x.lo = q.lo)) ++ [q] })

/-- KEY_INVALIDATE (R383): an accepted write of KEY.INVALIDATE takes effect at step 2 of the next boundary. -/
def execKeyInvalidate (e : Env) (slot : Nat) (s : State) : Host.Outcome State Fault Refusal :=
  if !s.serving then .next s
  else .next (s.serve e 1 false false (fun s _ =>
    if (8 ≤ slot ∧ slot ≤ 511) ∨ slot = 0x3FF then
      ({ apply := some s.applyTide }, s.queueRi ⟨Reg.KEY_INVALIDATE.addr 0 0 0, Reg.KEY_INVALIDATE.lo, slot⟩)
    else ({ result := 0x1401, detail := some 0 }, s)))

/-- Step 2 of a boundary: the slot named in KEY.INVALIDATE (R383, R387). -/
def State.invalidateTide (s : State) : State :=
  let k := s.r Reg.KEY_INVALIDATE
  if k = 0x3FF then s else (s.w Reg.KEY_INVALIDATE 0x3FF).keyInvalidate k 1

/-- KEY_EXPORT_PUBLIC (R383). -/
def execKeyExportPublic (e : Env) (slot : Nat) (s : State) : Host.Outcome State Fault Refusal :=
  if !s.serving then .next s
  else .next (s.serve e 3 false false (fun s _ =>
    if 511 < slot then s.keyRefused 0x1401
    else if s.keyState slot ≠ 1 then s.keyRefused 0x1403
    else if s.r Reg.KEY_TYPE 0 slot = 3 ∨ s.r Reg.KEY_TYPE 0 slot = 4 then ({ data := byteData (Tab.getD s.vault.pub slot []) }, s)
    else s.keyRefused 0x1402))

/-- DENY_LOAD (R383): the list is replaced as a whole at the next boundary. -/
def execDenyLoad (e : Env) (digests : List Nat) (s : State) : Host.Outcome State Fault Refusal :=
  if !s.serving then .next s
  else .next (s.serve e 3 false false (fun s _ =>
    if 4096 < digests.length then s.keyRefused 0x1409
    else ({ apply := some s.applyTide }, s.modVault (fun v => { v with denyDue := some digests }))))

/-- Where the deny list and its header lie in MRAM (R391). -/
def denyAt : Nat := 0x05FA0000
def denyHead : Nat := 0x05FF0080

/-- The first 60 bytes of the deny list's header: FORMAT, reserved, COUNT, reserved. -/
def denyHeader (n : Nat) : List Byte := leBytes 2 1 ++ leBytes 2 0 ++ leBytes 4 n ++ List.replicate 52 0

/-- The deny list at a boundary: digests first, header last (R391). -/
def State.denyTide (s : State) : State :=
  match s.vault.denyDue with
  | none => s
  | some l =>
    let body := l.flatMap (leBytes 48)
    let head := denyHeader l.length
    let s := (s.modVault (fun v => { v with denyDue := none })).mwrite denyAt body
    let s := s.mwrite denyHead (head ++ leBytes 4 (crc32c (head ++ body)).toNat)
    ((s.w Reg.KEY_DENY_COUNT l.length).w Reg.KEY_DENY_VALID 1).ev Reg.KEY_EVENT 7

/-- The deny list as RUN finds it (R391): its count, and whether its CRC is correct. `ok` says that it can be read. -/
def State.denyRun (s : State) (ok : Bool) : State :=
  let n := s.mword (denyHead + 4) 4
  let crc := crc32c (s.mread denyHead 60 ++ s.mread denyAt (48 * n))
  let ok := ok && decide (n ≤ 4096) && decide (s.mword (denyHead + 60) 4 = crc.toNat)
  (s.w Reg.KEY_DENY_COUNT (min 4096 n)).w Reg.KEY_DENY_VALID ok.toNat

/-- A digest stands on the deny list. -/
def State.denied (s : State) (d : Nat) : Bool :=
  (List.range (s.r Reg.KEY_DENY_COUNT)).any (fun k => decide (s.mword (denyAt + 48 * k) 48 = d))

/-- CRYPTO_OPERATION_COMPLETE (R381, R332): the oldest accepted operation delivers its result, or none where its key has
been erased. -/
def execCryptoOperationComplete (s : State) : Host.Outcome State Fault Refusal :=
  match s.vault.ops with
  | [] => .next s
  | o :: rest =>
    if o.aborted then .next s
    else
    let s := s.modVault (fun v => { v with ops := rest })
    let (full, s) := s.signBy o.mat o.digest
    let sig := if o.failed then [] else full
    let s := match o.record with
      | some no => s.modVault (fun v => { v with signed := Tab.put v.signed no sig })
      | none => s
    .next (s.counterEnd o.slot (o.last && decide (s.r Reg.KEY_TAG 0 o.slot = o.tag)))

/-! ## OTP (R397 to R402) -/

/-- The words of a block's generations. -/
def otpFld : Nat → Fld
  | 1 => Reg.OTP_IDENT_WORD
  | 2 => Reg.OTP_POLICY_WORD
  | 3 => Reg.OTP_OWNER_WORD
  | 4 => Reg.OTP_CAL_WORD
  | _ => Reg.OTP_LEGAL_WORD

/-- Bytes of a generation of a block. -/
def genSize : Nat → Nat
  | 1 => 512
  | 2 => 512
  | 3 => 256
  | 4 => 2560
  | _ => 128

/-- Generations of a block. -/
def genCount (b : Nat) : Nat := if b = 1 then 1 else 4

/-- Bit of a generation in the masks. -/
def genBit (b g : Nat) : Nat := 4 * (b - 1) + g

/-- The highest-numbered valid generation whose retire fuse is intact (R397). -/
def State.activeGen (s : State) (b : Nat) : Option Nat :=
  ([3, 2, 1, 0].filter (fun g => decide (g < genCount b))).find? (fun g => s.rbit Reg.OTP_VALID (genBit b g) && !s.rbit Reg.OTP_RETIRED (genBit b g))

/-- Bytes replaced from a place on. -/
def splice (l : List Byte) (ofs : Nat) (m : List Byte) : List Byte := l.take ofs ++ m ++ l.drop (ofs + m.length)

/-- The sealed field of a generation (R398): place and material. -/
def State.sealedPart (s : State) (b g : Nat) : Option (Nat × Nat) :=
  if b = 1 then some (24, s.vault.drs) else if b = 3 then some (56, Tab.getD s.vault.att g 0) else none

/-- The bytes of a generation, its sealed field included. -/
def State.genBytes (s : State) (b g : Nat) : List Byte :=
  let l := (List.range (genSize b / 4)).flatMap (fun w => leBytes 4 (s.r (otpFld b) 0 g w))
  match s.sealedPart b g with
  | some (ofs, m) => splice l ofs (leBytes 48 m)
  | none => l

/-- The boot measurement (R59) from digests and, per block, the bytes of its active generation. -/
def measureOf (fw tt : Nat) (gens : List (List Byte)) : Nat :=
  (Config.sha384 (leBytes 48 fw ++ leBytes 48 tt ++ gens.flatten)).toNat

/-- The active generations' bytes, IDENT to LEGAL. -/
def State.activeGens (s : State) : List (List Byte) :=
  [1, 2, 3, 4, 5].map (fun b => match s.activeGen b with | some g => s.genBytes b g | none => [])

/-- The bytes of the generations that have been active since the last start. -/
def State.nowGens (s : State) : List (List Byte) :=
  [1, 2, 3, 4, 5].map (fun b => match Tab.find s.otp.active b with | some g => s.genBytes b g | none => [])

/-- The measurement of a bank with the active generations. -/
def State.bankMeasure (s : State) (b : Bool) : Nat :=
  let d := s.headerNow.bank b
  measureOf d.fwDigest d.ttDigest s.nowGens

/-! ## Hand-over (R393 to R395) -/

/-- The area of an index. -/
def State.area (s : State) (i : Nat) : Area := if i = 0 then s.vault.area0 else s.vault.area1
/-- Replace an area. -/
def State.setArea (s : State) (i : Nat) (a : Area) : State :=
  s.modVault (fun v => if i = 0 then { v with area0 := a } else { v with area1 := a })

/-- MEAS_TAG of a measurement: the first 16 bytes of its SHA-384 (R391). -/
def measTag (m : Nat) : Nat := (Config.sha384 (leBytes 48 m)).toNat % 2 ^ 128

/-- HANDOVER_WRAP (R393): a blob of every valid SURVIVE key in the area that is not active. -/
def State.handoverWrap (s : State) (target : Nat) : State :=
  let keys := (s.validKeys.filter (fun k => s.rb Reg.KEY_SURVIVE 0 k)).map s.keyRec
  let s := s.setArea (1 - s.r Reg.KEY_STORE_AREA) { meas := some (measTag target), keys := keys, blob := true }
  s.w Reg.KEY_HANDOVER_STATE 1

/-- HANDOVER_WRAP as a key operation: it needs the service root. -/
def execHandoverWrap (e : Env) (target : Nat) (s : State) : Host.Outcome State Fault Refusal :=
  if !s.serving then .next s
  else .next (s.serve e 3 false false (fun s _ =>
    if s.keyState 1 ≠ 1 then s.keyRefused 0x1403 else ({}, s.handoverWrap target)))

/-- The keys of the active area, written continuously (R391): those that do not expire at reset. -/
def State.storeKeys (s : State) : List KeyRec :=
  ((List.range 504).filter (fun e => decide (s.keyState (8 + e) ≠ 0 ∧ s.r Reg.KEY_LIMIT 0 (8 + e) ≠ 2))).map (fun e => s.keyRec (8 + e))

/-- Bring the active area up to date. -/
def State.vaultSave (s : State) : State :=
  let i := s.r Reg.KEY_STORE_AREA
  s.setArea i { s.area i with keys := s.storeKeys, blob := false, notes := [] }

/-- Keys that lose an expiring or missing ancestor leave their slots empty (R381). -/
def keepLineage : Nat → List KeyRec → List KeyRec
  | 0, l => l
  | f + 1, l =>
    keepLineage f (l.filter (fun q => decide (q.parent < 8 ∨ q.parent = 511) || l.any (fun p => decide (p.tag = q.parentTag))))

/-! ## Attestation (R396) -/

/-- Sum of all TAMP counts, saturating. -/
def State.tamperTotal (s : State) : Nat := min 4294967295 ((List.range 16).foldl (fun v c => v + s.r Reg.TAMP_COUNT c) 0)

/-- The attestation message (Table 13.4). -/
def State.attestMessage (s : State) (challenge : List Byte) : List Byte :=
  let flags := (if s.rb Reg.TAMPX_ERASED then 1 else 0) + (if s.r Reg.TAMPX_SEALED_MASK ≠ 0 then 2 else 0) + (if s.rb Reg.SAFE_COMMISSIONED then 4 else 0)
  let measure := if s.phase = .strand then List.replicate 48 0 else (List.range 12).flatMap (fun i => leBytes 4 (s.r Reg.DEV_MEASURE 0 i))
  ascii "UAT1" ++ challenge ++ leBytes 16 s.serial ++ measure ++ leBytes 1 (s.r Reg.DEV_LIFECYCLE) ++ leBytes 1 (s.r Reg.DEV_START_MODE) ++
    leBytes 1 (s.r Reg.OTP_ACTIVE) ++ leBytes 1 flags ++ leBytes 4 (s.r Reg.DEV_FW_SVN) ++ leBytes 4 (s.r Reg.DEV_TT_SVN) ++
    leBytes 4 (s.r Reg.KEY_STARTS) ++ leBytes 4 (s.r Reg.KEY_UPDATES) ++ leBytes 4 s.tamperTotal ++ leBytes 4 s.tide

/-- ATTEST (R396): the message and its MAC under slot 4. -/
def execAttest (e : Env) (challenge : List Byte) (s : State) : Host.Outcome State Fault Refusal :=
  if !s.serving then .next s
  else .next (s.serve e 0 true true (fun s _ =>
    if challenge.length ≠ 32 then s.keyRefused 0x1401
    else if s.keyState 4 ≠ 1 then s.keyRefused 0x1407
    else
      let m := s.attestMessage challenge
      let mac := (Config.hmac384 (Tab.getD s.vault.mat 4 0) m).toNat
      ({ data := byteData (m ++ leBytes 48 mac) }, ((s.inc Reg.KEY_ATTESTS).inc Reg.KEY_USES 0 4).ev Reg.KEY_EVENT 6)))

/-! ## OTP programming (R399 to R402) -/

/-- A session is in an energised state (R152). -/
def State.anyEnergised (s : State) : Bool := (List.range 32).any (fun n => decide (5 ≤ s.r Reg.SESS_STATE n ∧ s.r Reg.SESS_STATE n ≤ 10))

/-- The ebb warning is latched. -/
def State.ebbLatched (s : State) : Bool := s.meter.ebb.isSome

/-- The conditions of R400. -/
def State.otpConditions (s : State) : Bool := s.ebbLatched || s.anyEnergised || decide (s.r Reg.THERM_BAND = 3 ∨ s.r Reg.THERM_BAND = 4)

/-- What may be programmed, and when (Table 13.7). -/
def State.progAllowed (s : State) (b g : Nat) : Bool :=
  let lc := s.r Reg.DEV_LIFECYCLE
  match b with
  | 2 | 4 | 5 => decide (1 ≤ lc ∧ lc ≤ 3)
  | 3 => if g = 0 then decide (lc = 1) else decide (lc = 2 ∨ lc = 3)
  | _ => false

/-- A generation as the vault programs it (R397): header, payload, zeros, CRC; the sealed field in the clear. -/
def genImage (b : Nat) (payload : List Byte) : List Byte :=
  let head := leBytes 2 b ++ leBytes 2 1 ++ leBytes 4 payload.length ++ payload
  let body := head ++ List.replicate (genSize b - 4 - head.length) 0
  body ++ leBytes 4 (crc32c body).toNat

/-- The lowest unspent generation of a block. -/
def State.unspent (s : State) (b : Nat) : Option Nat := (List.range (genCount b)).find? (fun g => !s.rbit Reg.OTP_SPENT (genBit b g))

/-- Start programming a generation: the spent mark is blown first (R400). -/
def State.otpStart (s : State) (p : OtpProg) : State :=
  let s := s.modOtp (fun o => { o with prog := some p })
  let s := s.wbit Reg.OTP_SPENT (genBit p.block p.gen) true
  (s.w Reg.OTP_PROG_STATE 1).w Reg.OTP_PROG_TARGET (genBit p.block p.gen)

/-- The sealed field of an OWNER payload, ATT_SECRET, as the import key unwraps it (R399). DESIGN CHOICE: its attribute block is
compared with nothing, for the command names no attributes. -/
def State.sealedField (s : State) (w : KeyWrap) : Option Nat :=
  match s.importUnwrap w with
  | some l => if l.length = 56 ∧ w.qe.length = 96 then some (ofLe (l.drop 8)) else none
  | none => none

/-- OTP_PROGRAM (R399, R400, R402). A payload with a sealed field whose wrapping fails is refused as the vault refuses it. DESIGN
CHOICE: where several refusals apply the spec gives no order. -/
def execOtpProgram (e : Env) (block : Nat) (payload : List Byte) (w : KeyWrap) (s : State) : Host.Outcome State Fault Refusal :=
  if !s.serving then .next s
  else .next (s.serve e 4 false true (fun s _ =>
    if block < 1 ∨ 5 < block then ({ result := 0x1E01 }, s)
    else match s.unspent block with
      | none => ({ result := if (List.range (genCount block)).any (fun g => s.progAllowed block g) then 0x1E02 else 0x1E01 }, s)
      | some g =>
        if !s.progAllowed block g ∨ s.otp.prog.isSome then ({ result := 0x1E01 }, s)
        else if s.otpConditions then ({ result := 0x1E04 }, s)
        else if genSize block - 12 < payload.length then ({ result := 0x1E03 }, s)
        else
          let secret := if block = 3 then s.sealedField w else none
          if block = 3 ∧ secret.isNone then ({ result := 0x1405 }, s)
          else
          let full := match block, secret with
            | 3, some m => splice payload 48 (leBytes 48 m)
            | _, _ => payload
          let bytes := genImage block full
          -- the wrap for the measurement of the next start (R402); none for an OWNER generation
          let gens := [1, 2, 3, 4, 5].map (fun b => if b = block then bytes else match s.activeGen b with | some k => s.genBytes b k | none => [])
          let d := s.headerNow.bank (s.rb Reg.DEV_BOOT_BANK)
          let s := if block ≠ 3 ∧ s.keyState 1 = 1 then s.handoverWrap (measureOf d.fwDigest d.ttDigest gens) else s
          ({}, s.otpStart { block := block, gen := g, bytes := bytes, sealedMat := secret })))

/-- Write a programmed generation into the map: sealed words read 0 (R398). -/
def State.otpStore (s : State) (p : OtpProg) : State :=
  let l := match s.sealedPart p.block p.gen with
    | some (ofs, _) => splice p.bytes ofs (List.replicate 48 0)
    | none => p.bytes
  s.each (genSize p.block / 4) (fun w s => s.w (otpFld p.block) (ofLe ((l.drop (4 * w)).take 4)) 0 p.gen w)

/-- OTP_PROGRAM_DONE (R400): the read-back passes, or fails with the report 0x1E06. A new generation becomes active only at the next start. -/
def execOtpProgramDone (readOk : Bool) (s : State) : Host.Outcome State Fault Refusal :=
  match s.otp.prog with
  | none => .next s
  | some p =>
    let s := s.modOtp (fun o => { o with prog := none })
    let s := s.modStart (fun x => { x with otpChanged := true })
    let s := s.otpStore p
    if readOk then
      let s := match p.block, p.sealedMat with
        | 3, some m => s.modVault (fun v => { v with att := Tab.put v.att p.gen m })
        | 1, some m => s.modVault (fun v => { v with drs := m })
        | _, _ => s
      .next (((s.wbit Reg.OTP_VALID (genBit p.block p.gen) true).w Reg.OTP_PROG_STATE 0).ev Reg.OTP_EVENT 0)
    else .next (((s.w Reg.OTP_PROG_STATE 2).ev Reg.OTP_EVENT 1).emit (.report 0x1E06 (genBit p.block p.gen)))

/-- The refusal of a commit of OTP.RETIRE (R401). -/
def State.retireRefused (s : State) (mask : Nat) : Bool :=
  let gens := (List.range 20).filter (fun i => mask.testBit i)
  let leaves := fun b => (List.range 4).any (fun g => s.rbit Reg.OTP_VALID (genBit b g) && !s.rbit Reg.OTP_RETIRED (genBit b g) && !mask.testBit (genBit b g))
  gens.any (fun i => decide (i < 4) || !s.rbit Reg.OTP_SPENT i) ||
    (gens.any (fun i => decide (i / 4 = 1)) && !leaves 2) || (gens.any (fun i => decide (i / 4 = 2)) && !leaves 3)

/-- OTP_RETIRE (R401, R402): a committed mask blows the retire fuses; it takes effect at the next start. -/
def execOtpRetire (s : State) : Host.Outcome State Fault Refusal :=
  let mask := s.r Reg.OTP_RETIRE
  if mask = 0 then .next s
  else
    let s := s.w Reg.OTP_RETIRE 0
    if s.retireRefused mask then .next s
    else
      let d := s.headerNow.bank (s.rb Reg.DEV_BOOT_BANK)
      let t := s.w Reg.OTP_RETIRED (s.r Reg.OTP_RETIRED ||| mask)
      let owner := decide (mask / 256 % 16 ≠ 0)
      let s := if !owner && decide (s.keyState 1 = 1) then s.handoverWrap (measureOf d.fwDigest d.ttDigest t.activeGens) else s
      let s := s.w Reg.OTP_RETIRED (s.r Reg.OTP_RETIRED ||| mask)
      .next ((s.modStart (fun x => { x with otpChanged := true })).ev Reg.OTP_EVENT 2)

end Sys2Proof.Machine
end

