-- ==== Sys2Proof/Machine/Meter.lean ====
section
/-! DEFINITION. Metrology: decimation, calibration, DC and AC points, registers, pulse outputs, cove sums, records of the
record pool (chapter 8). -/
namespace Sys2Proof.Machine
set_option cleanup.letToHave false

/-! ## Decimation (R227) -/

/-- The three integrators over `k` bits, the first in bit 0. -/
def integrate : Nat → BitVec 500 → InI → InI
  | 0, _, x => x
  | k + 1, b, x =>
    let i1 := if b.getLsbD 0 then x.i1 + 1 else x.i1 - 1
    let i2 := x.i2 + i1
    let i3 := x.i3 + i2
    integrate k (b >>> 1) { x with i1 := i1, i2 := i2, i3 := i3 }

/-- A wave's bits through the sinc3 decimator: the sample D and the input's next state. -/
def decimate (b : BitVec 500) (x : InI) : Int × InI :=
  let x := integrate 500 b x
  let d1 := x.i3 - x.c1
  let d2 := d1 - x.c2
  let d3 := d2 - x.c3
  (d3.toInt, { x with c1 := x.i3, c2 := d1, c3 := d2 })

/-! ## Calibration (R230 to R234) -/

/-- Byte `k` of the payload of the active CAL generation. -/
def State.calByte (s : State) (k : Nat) : Nat :=
  s.r Reg.OTP_CAL_WORD 0 (s.r Reg.MET_CAL_GEN) ((8 + k) / 4) / 2 ^ (8 * ((8 + k) % 4)) % 256
/-- A 16-bit unsigned value of the payload. -/
def State.calU16 (s : State) (k : Nat) : Nat := s.calByte k + 256 * s.calByte (k + 1)
/-- A 16-bit signed value of the payload. -/
def State.calS16 (s : State) (k : Nat) : Int := signedOf 16 (s.calU16 k)
/-- A 32-bit unsigned value of the payload. -/
def State.calU32 (s : State) (k : Nat) : Nat := s.calU16 k + 65536 * s.calU16 (k + 2)

/-- First input and number of inputs of a point (Table 8.1). -/
def pointInputs (p : Nat) : List Nat :=
  if p < 8 then (List.range 7).map (fun i => 96 + 7 * p + i) else (List.range 3).map (fun i => 3 * (p - 8) + i)

/-- The inputs a point uses: a single-phase AC point uses voltage L1, current L1 and the neutral (R239). -/
def State.usedInputs (s : State) (p : Nat) : List Nat :=
  if p < 8 ∧ s.r Reg.MPT_WIRING p = 2 then [96 + 7 * p, 96 + 7 * p + 3, 96 + 7 * p + 6] else pointInputs p

/-- SCALE of an input: from the CAL generation, or, for an AC point that is not legally relevant, from the METERING
section, whose values the image gives beside its fields (R225). -/
def State.scale (s : State) (m : Nat) : Nat :=
  let own := decide (96 ≤ m) && !s.rb Reg.MPT_LEGAL ((m - 96) / 7)
  if own then (((s.decl.acScale.find? (fun q => decide (q.1 = m))).map Prod.snd).getD 0) else s.calU32 (52 + 4 * m)

/-- Base value of a sample (R231). -/
def State.baseValue (s : State) (m : Nat) (d : Int) : Int := roundHalfEven (d * s.scale m) (2 ^ 30)
/-- Full scale of an input (R231). -/
def State.fullScale (s : State) (m : Nat) : Nat := (roundHalfEven (100000000 * (s.scale m : Int)) (2 ^ 30)).toNat

/-- The axis of a current input: payload offset of AXIS_AC, AXIS_DH or AXIS_DL. -/
def axisOffset (m : Nat) : Nat := if 96 ≤ m then 4 else if m % 3 = 1 then 20 else 36

/-- Gain G[k] of a current input in ppm. -/
def State.calGain (s : State) (m k : Nat) : Int :=
  if 96 ≤ m then s.calS16 (1684 + 96 * ((m - 96) / 7) + 32 * ((m - 96) % 7 - 3) + 4 * k)
  else s.calS16 (660 + 32 * (m / 3) + 16 * (m % 3 - 1) + 2 * k)
/-- Phase P[k] of an AC current input in ns. -/
def State.calPhase (s : State) (m k : Nat) : Int :=
  if 96 ≤ m then s.calS16 (1686 + 96 * ((m - 96) / 7) + 32 * ((m - 96) % 7 - 3) + 4 * k) else 0

/-- Gain in parts per 10^9 and phase in ns for a key κ (R232). -/
def State.correction (s : State) (m kappa : Nat) : Int × Int :=
  let ib := fun k => s.fullScale m * s.calU16 (axisOffset m + 2 * k) / 10000
  if kappa ≤ ib 0 then (1000 * s.calGain m 0, s.calPhase m 0)
  else if ib 7 ≤ kappa then (1000 * s.calGain m 7, s.calPhase m 7)
  else
    let k := ((List.range 8).filter (fun k => decide (ib k ≤ kappa))).getLastD 0
    let w : Int := (ib (k + 1) : Int) - ib k
    let t : Int := (kappa : Int) - ib k
    (1000 * s.calGain m k + Int.tdiv (1000 * (s.calGain m (k + 1) - s.calGain m k) * t) w,
     s.calPhase m k + Int.tdiv ((s.calPhase m (k + 1) - s.calPhase m k) * t) w)

/-- The corrected value of a current sample. -/
def corrected (x g : Int) : Int := x + roundHalfEven (x * g) 1000000000

/-- Strictly increasing axis from at least 1 up to at most 12,500. -/
def State.axisOk (s : State) (m : Nat) : Bool :=
  let a := fun k => s.calU16 (axisOffset m + 2 * k)
  decide (1 ≤ a 0 ∧ a 7 ≤ 12500) && (List.range 7).all (fun k => decide (a k < a (k + 1)))

/-- The calibration of a point is valid (R234). A point with its scale from the METERING section has no correction. -/
def State.calValid (s : State) (p : Nat) : Bool :=
  !s.rb Reg.MPT_LEGAL p ||
    (s.rb Reg.MET_CAL_VALID && (s.usedInputs p).all (fun m =>
      decide (s.scale m ≠ 0) &&
        (if 96 ≤ m then
          let i := (m - 96) % 7
          if i < 3 then decide ((s.calS16 (2452 + 6 * p + 2 * i)).natAbs ≤ 24000)
          else if i < 6 then s.axisOk m && (List.range 8).all (fun k => decide ((s.calPhase m k).natAbs ≤ 24000))
          else true
        else if m % 3 = 0 then true else s.axisOk m)))

/-- The high range is held: the low-range full scale lies outside 11 to 25 % of the high-range full scale (R234). -/
def State.rangeHeld (s : State) (n : Nat) : Bool :=
  let h := s.fullScale (3 * n + 1)
  let l := s.fullScale (3 * n + 2)
  decide (100 * l < 11 * h ∨ 25 * h < 100 * l)

/-- The enabled points: AC, then DC. -/
def State.points (s : State) : List Nat := (List.range 40).filter (fun p => decide (s.r Reg.MPT_KIND p ≠ 0))

/-- Modulator inputs and clock of a point (R224). -/
def pointMods (p : Nat) : List Nat × Nat :=
  if p < 8 then ((List.range 7).map (fun k => 96 + 7 * p + k), p)
  else ([3 * (p - 8), 3 * (p - 8) + 1, 3 * (p - 8) + 2], (p - 8) / 4)

/-- State of an input. -/
def State.inI (s : State) (m : Nat) : InI := Tab.getD s.meter.ins m {}
/-- Update an input. -/
def State.modIn (s : State) (m : Nat) (g : InI → InI) : State := s.modMeter (fun x => { x with ins := Tab.upd x.ins m {} g })

/-- One wave of an input (R227, R228): decimation, base value, clipping, state. -/
def State.inputWave (s : State) (m : Nat) (b : BitVec 500) (late : Bool) : State :=
  let (d, x) := decimate b (s.inI m)
  let clip := decide (125000000 ≤ d.natAbs)
  let overrange := decide (120000000 ≤ d.natAbs) && !clip
  let fault := decide (s.r Reg.MET_IN_STATE 0 m = 3)
  let started := decide (3 ≤ x.seen)
  let bx := s.baseValue m d
  let s := s.modIn m (fun _ => { x with
    seen := min 3 (x.seen + 1)
    clips := if clip then min 4 (x.clips + 1) else 0
    good := if clip then 0 else min 400 (x.good + 1)
    valid := started && !clip && !fault && !late
    overrange := overrange && started
    x := bx })
  let s := s.when clip (fun s => s.inc Reg.MET_IN_CLIPS 0 m)
  let s := (s.wi Reg.MET_IN_D d 0 m).wi Reg.MET_IN_X bx 0 m
  if fault then s else s.w Reg.MET_IN_STATE (if overrange then 2 else 1) 0 m

/-- The point of an input. -/
def inputPoint (m : Nat) : Nat := if 96 ≤ m then (m - 96) / 7 else 8 + m / 3

/-- MOD_INPUT_FAULT (R228): 4 consecutive clipped samples. -/
def execModInputFault (m : Fin 152) (s : State) : Host.Outcome State Fault Refusal :=
  if 4 ≤ (s.inI m.val).clips ∧ s.r Reg.MET_IN_STATE 0 m.val ≠ 3 then
    let s := (s.w Reg.MET_IN_STATE 3 0 m.val).modIn m.val (fun x => { x with valid := false })
    .next ((s.ev Reg.MET_EVENT 1).ev Reg.MPT_EVENT 0 (inputPoint m.val))
  else .next s

/-- MOD_INPUT_RECOVER (R228): 400 consecutive unclipped samples. -/
def execModInputRecover (m : Fin 152) (s : State) : Host.Outcome State Fault Refusal :=
  if 400 ≤ (s.inI m.val).good ∧ s.r Reg.MET_IN_STATE 0 m.val = 3 then .next (s.w Reg.MET_IN_STATE 1 0 m.val)
  else .next s

/-! ## Registers (R247 to R250) -/

/-- ACC of a register. -/
def State.acc (s : State) (p r : Nat) : Nat := s.r64 Reg.MPT_ACC_LO Reg.MPT_ACC_HI p r
/-- READ of a register, Wh. -/
def State.reading (s : State) (p r : Nat) : Nat := s.r64 Reg.MPT_READ_LO Reg.MPT_READ_HI p r

/-- READ, DISPLAY and WRAPS of a register from a reading (R248). -/
def State.showReading (s : State) (p r v : Nat) : State :=
  let s := s.w64 Reg.MPT_READ_LO Reg.MPT_READ_HI v p r
  (s.w64 Reg.MPT_DISP_LO Reg.MPT_DISP_HI (v % 10000000000) p r).w Reg.MPT_WRAPS (v / 10000000000) p r

/-- Set ACC and REM of a register. -/
def State.setAcc (s : State) (p r acc rem : Nat) : State :=
  ((s.w64 Reg.MPT_ACC_LO Reg.MPT_ACC_HI acc p r).w Reg.MPT_REM rem p r).showReading p r (acc / 1000000)

/-- The increase of a register passes to the pulse outputs bound to it (R254). -/
def State.pulseOwed (s : State) (p r delta : Nat) : State :=
  s.each 16 (fun j s =>
    if s.r Reg.MET_PLS_POINT 0 j = p ∧ s.r Reg.MET_PLS_REG 0 j = r then
      let pr := s.r Reg.MET_PLS_RES 0 j + delta * s.r Reg.MET_PLS_CONST 0 j
      let owed := s.r Reg.MET_PLS_BACKLOG 0 j + pr / 1000000000
      let s := (s.w Reg.MET_PLS_RES (pr % 1000000000) 0 j).w Reg.MET_PLS_BACKLOG (min 65535 owed) 0 j
      if 65535 < owed then s.ev Reg.MET_EVENT 6 else s
    else s)

/-- Registers accumulate in SERVICE alone (R250). -/
def State.metering (s : State) : Bool := decide (s.r Reg.MET_STATE = 2)

/-- ENERGY_ACCUMULATE (R247, R249): add e, in µW·wave, to a register. -/
def State.energyAdd (s : State) (p r e : Nat) : State :=
  if !s.metering ∨ e = 0 then s
  else
    let t := s.r Reg.MPT_REM p r + e
    let a := s.acc p r
    let a' := a + t / 144000000
    let top := 2 ^ 64 - 1
    if top ≤ a' then
      let s := if a < top then s.ev Reg.MPT_EVENT 5 p else s
      (s.setAcc p r top (t % 144000000)).pulseOwed p r (top - a)
    else (s.setAcc p r a' (t % 144000000)).pulseOwed p r (t / 144000000)

/-- A sample or cycle registered nothing (R237, R243, R251). -/
def State.notRegistered (s : State) (p k : Nat) : State :=
  (s.add Reg.MPT_INVALID_WAVES k p).wbit Reg.MPT_IV_FLAGS 1 true p

/-! ## DC points (R235 to R238) -/

/-- State of a DC point. -/
def State.dcI (s : State) (n : Nat) : DcI := Tab.getD s.meter.dc n {}
/-- Update a DC point. -/
def State.modDc (s : State) (n : Nat) (g : DcI → DcI) : State := s.modMeter (fun x => { x with dc := Tab.upd x.dc n {} g })

/-- Range selection of a sample (R235): the range, and the range whose sample is taken; none = the sample is invalid. -/
def selectRange (low held vh vl : Bool) (xh xl : Int) (fsH : Nat) : Bool × Option Bool :=
  let range := if held then false
    else if low then vl && decide (10 * xl.natAbs < fsH)
    else vh && decide (100 * xh.natAbs < 8 * fsH)
  let src := if range then (if vl then some true else if vh then some false else none)
    else if vh then some false else if vl && !held && decide (10 * xl.natAbs < fsH) then some true else none
  (range, src)

/-- One wave of the DC point of connector n. Its sample is that of the voltage and of the range selected for it (R235). -/
def State.dcWave (s : State) (n : Nat) : State :=
  let p := 8 + n
  let iv := s.inI (3 * n)
  let ih := s.inI (3 * n + 1)
  let il := s.inI (3 * n + 2)
  let cal := s.calValid p
  let held := s.rangeHeld n
  let xh := corrected ih.x (s.correction (3 * n + 1) ih.x.natAbs).1
  let xl := corrected il.x (s.correction (3 * n + 2) il.x.natAbs).1
  let fsH := s.fullScale (3 * n + 1)
  let low := s.rb Reg.MPT_RANGE p
  let s := s.wb Reg.MPT_RANGE_HELD held p
  let s := if held then s.wbit Reg.MPT_IV_FLAGS 3 true p else s
  -- splice monitoring (R236)
  let s := if cal && ih.valid && il.valid && decide (4 * fsH ≤ 100 * xh.natAbs ∧ 100 * xh.natAbs ≤ 10 * fsH) then
      s.modDc n (fun x => { x with cmp := x.cmp + 1, diff := x.diff + (xh - xl), low := x.low + xl.natAbs })
    else s
  if !cal then (((s.w Reg.MPT_STATE 3 p).notRegistered p 1).breach p).ev Reg.MET_EVENT 5
  else
    let (range, src) := selectRange low held ih.valid il.valid xh xl fsH
    let s := if range = low then s else (s.wb Reg.MPT_RANGE range p).inc Reg.MPT_RANGE_SW p
    match (if iv.valid then src else none) with
    | none => ((s.w Reg.MPT_STATE 2 p).notRegistered p 1).breach p
    | some sel =>
      let i := if sel then xl else xh
      let s := if iv.overrange || (if sel then il.overrange else ih.overrange) then (s.wbit Reg.MPT_IV_FLAGS 2 true p).ev Reg.MPT_EVENT 1 p else s
      let pw := iv.x * i
      let s := if 0 < pw then s.energyAdd p 0 pw.toNat else s.energyAdd p 1 (-pw).toNat
      let s := (s.w Reg.MPT_STATE 1 p).wi Reg.MPT_V iv.x p
      (s.wi Reg.MPT_I i p).wi Reg.MPT_P_W (Int.tdiv pw 1000000) p

/-- The DC points at a boundary: m of the tide that ends, and the runs of qualifying tides (R236). -/
def State.dcTide (s : State) (n : Nat) : State :=
  let x := s.dcI n
  let s := if 40 ≤ x.cmp ∧ x.low ≠ 0 then
      let m := x.diff.natAbs * 1000000 / x.low
      let s := s.w Reg.MPT_SPLICE_PPM (min 4294967295 m) (8 + n)
      if s.r Reg.MPT_SPLICE_TOL (8 + n) < m then s.modDc n (fun x => { x with beyond := x.beyond + 1, within := 0 })
      else s.modDc n (fun x => { x with beyond := 0, within := x.within + 1 })
    else s
  let s := if (s.dcI n).splice then s.wbit Reg.MPT_IV_FLAGS 4 true (8 + n) else s
  s.modDc n (fun x => { x with cmp := 0, diff := 0, low := 0 })

/-- SPLICE_SET (R236). -/
def execSpliceSet (n : Fin 32) (s : State) : Host.Outcome State Fault Refusal :=
  if 100 ≤ (s.dcI n.val).beyond ∧ !(s.dcI n.val).splice then
    let s := s.modDc n.val (fun x => { x with splice := true })
    .next ((s.wbit Reg.MPT_IV_FLAGS 4 true (8 + n.val)).ev Reg.MPT_EVENT 2 (8 + n.val))
  else .next s

/-- SPLICE_CLEAR (R236). -/
def execSpliceClear (n : Fin 32) (s : State) : Host.Outcome State Fault Refusal :=
  if 100 ≤ (s.dcI n.val).within ∧ (s.dcI n.val).splice then .next (s.modDc n.val (fun x => { x with splice := false }))
  else .next s

/-! ## AC points (R239 to R245) -/

/-- State of an AC point. -/
def State.acI (s : State) (p : Nat) : AcI := Tab.getD s.meter.ac p {}
/-- Update an AC point. -/
def State.modAc (s : State) (p : Nat) (g : AcI → AcI) : State := s.modMeter (fun x => { x with ac := Tab.upd x.ac p {} g })

/-- The delayed sample of an input (R233), from its corrected samples, newest first. -/
def delayed (xc : List Int) (d : Int) : Int :=
  let n := (d / 25000).toNat
  let f := roundHalfEven (65536 * (d - 25000 * n)) 25000
  let a := xc.getD n 0
  let b := xc.getD (n + 1) 0
  a + roundHalfEven ((b - a) * f) 65536

/-- Push a corrected sample of an AC input. -/
def State.pushXc (s : State) (m : Nat) (v : Int) : State := s.modIn m (fun x => { x with xc := (v :: x.xc).take 3 })

/-- Delay of an input of an AC point in ns (R233). -/
def State.acDelay (s : State) (p i kappa : Nat) : Int :=
  if i < 3 then 25000 + (if s.rb Reg.MPT_LEGAL p then s.calS16 (2452 + 6 * p + 2 * i) else 0)
  else if i < 6 then 25000 + (if s.rb Reg.MPT_LEGAL p then (s.correction (96 + 7 * p + i) kappa).2 else 0)
  else 25000

/-- Close the present cycle of an AC point (R239), with the latest interval between crossings; the next one begins with the
present sample. -/
def State.cycleClose (s : State) (p : Nat) (noCross : Bool) : State :=
  s.modAc p (fun x => { x with closed := x.closed ++ [{ x.cur with noCross := noCross, span := x.period }], cur := {}, forced := false })

/-- The reference phase: the lowest whose voltage was at least 20 % of U_NOM over the last cycle. -/
def State.refPhase (s : State) (p : Nat) : Option Nat :=
  (List.range (if s.r Reg.MPT_WIRING p = 2 then 1 else 3)).find? (fun i => decide (s.r Reg.MPT_U_NOM p ≤ 5 * (s.acI p).uRms.getD i 0))

/-- A sample v of the reference voltage after q crosses (R239); answers the crossing's place before it, as a fraction of a
sample. -/
def crossing (q : Option Int) (v : Int) (fell : Bool) : Option (Nat × Nat) :=
  match q with
  | some q => if fell && decide (q < 0 ∧ 0 ≤ v) then some (v.toNat, (v - q).toNat) else none
  | none => none

/-- The reference voltage of a sample enters the search for crossings: the count of samples since the last one, and the
interval between the last two. -/
def AcI.search (x : AcI) (cross : Option (Nat × Nat)) (fell : Bool) : AcI :=
  let since := x.since.map (fun q => (q.1 + 1, q.2))
  match cross with
  | none => { x with since := since, below := fell }
  | some (c, d) => { x with
      since := some (0, c, d)
      period := match since with
        | some (k, a, b) => some (k * b * d + a * d - c * b, b * d)
        | none => x.period
      below := false }

/-- The corrected and delayed samples of an AC point in a wave (R232, R233), and the state with them. -/
def State.acSamples (s : State) (p : Nat) : List Int × State :=
  let base := 96 + 7 * p
  let used := s.usedInputs p
  let kappa := (s.acI p).kappa
  let s := s.over used (fun m s =>
    let i := m - base
    let x := (s.inI m).x
    s.pushXc m (if 3 ≤ i ∧ i < 6 ∧ s.rb Reg.MPT_LEGAL p = true then corrected x (s.correction m (kappa.getD (i - 3) 0)).1 else x))
  ((List.range 7).map (fun i =>
    if used.contains (base + i) then delayed (s.inI (base + i)).xc (s.acDelay p i (kappa.getD (i - 3) 0)) else 0), s)

/-- The line cycle at a sample (R239): it closes at a crossing after 616 to 889 samples; after 800 where no crossing closes
it, where a crossing came too early, or where no phase is the reference. -/
def State.acCycle (s : State) (p : Nat) (cross : Bool) : State :=
  let x := s.acI p
  let n := x.cur.ys.length
  if cross ∧ 616 ≤ n ∧ n ≤ 889 ∧ !x.forced then s.cycleClose p false
  else if 889 ≤ n ∨ ((x.ref.isNone ∨ x.forced) ∧ 800 ≤ n) then
    -- a cycle of 800 samples closes; what is left begins the next one
    let keep := x.cur.ys.drop 800
    let s := (s.modAc p (fun x => { x with cur := { x.cur with ys := x.cur.ys.take 800 } })).cycleClose p true
    s.modAc p (fun x => { x with cur := { x.cur with ys := keep } })
  else s.modAc p (fun x => { x with forced := x.forced || cross && decide (n < 616) })

/-- One wave of an AC point. An invalid sample sets BREACH at once (R251). -/
def State.acWave (s : State) (p : Nat) : State :=
  let used := s.usedInputs p
  let cal := s.calValid p
  let (y, s) := s.acSamples p
  let valid := used.all (fun m => (s.inI m).valid) && cal
  let s := if cal && used.any (fun m => (s.inI m).overrange && (s.inI m).valid) then (s.wbit Reg.MPT_IV_FLAGS 2 true p).ev Reg.MPT_EVENT 1 p else s
  let s := s.w Reg.MPT_STATE (if !cal then 3 else if valid then 1 else 2) p
  let s := if cal then s else s.ev Reg.MET_EVENT 5
  let s := if valid then s else s.breach p
  let x := s.acI p
  let v := match x.ref with | some i => y.getD i 0 | none => 0
  let q := match x.ref, x.cur.ys.getLast? with | some i, some l => some (l.getD i 0) | _, _ => none
  let fell := x.ref.isSome && (x.below || decide (v * 10000000 < -((s.r Reg.MPT_U_NOM p : Int) * 707107)))
  let cross := crossing q v fell
  let s := (s.modAc p (fun x => x.search cross fell)).acCycle p cross.isSome
  let pw : Int := (List.range 3).foldl (fun t i => t + y.getD i 0 * y.getD (i + 3) 0) 0
  let bs := (List.range 3).map (fun i => (s.inI (99 + 7 * p + i)).x)
  s.modAc p (fun x => { x with
    cur := { x.cur with ys := x.cur.ys ++ [y ++ bs ++ [if valid then 0 else 1]] }
    sumP := if valid then x.sumP + pw else x.sumP
    count := if valid then x.count + 1 else x.count })

/-- LINE_CYCLE_END (R240 to R244): the oldest closed cycle is registered and published. FREQ is truncated to mHz (DESIGN
CHOICE). A change of the reference phase begins the search for crossings anew. -/
def execLineCycleEnd (p : Fin 8) (s : State) : Host.Outcome State Fault Refusal :=
  let p := p.val
  match (s.acI p).closed with
  | [] => .next s
  | c :: rest =>
    let n := c.ys.length
    let col := fun i => c.ys.map (fun y => y.getD i 0)
    let sq := fun i => sum53 ((col i).map (fun v => v.natAbs ^ 2))
    let sqI := fun i => (col i).foldl (fun t v => t + v.natAbs ^ 2) 0
    let rms := (List.range 7).map (fun i => sqrtRatio (sqI i) n)
    let eP : Int := c.ys.foldl (fun t y => (List.range 3).foldl (fun t i => t + y.getD i 0 * y.getD (i + 3) 0) t) 0
    let eQ : Int := (List.range 3).foldl (fun t i => t + reactive (c.ys.map (fun y => (y.getD i 0, y.getD (i + 3) 0)))) 0
    let eS : Nat := (List.range 3).foldl (fun t i => t + apparent (sq i) (sq (i + 3))) 0
    let mis := sqrtRatio (c.ys.foldl (fun t y => t + (y.getD 3 0 + y.getD 4 0 + y.getD 5 0 - y.getD 6 0).natAbs ^ 2) 0) n
    let kap := (List.range 3).map (fun i => sqrtRatio (sqI (7 + i) * 2000001237796) (n * 1000000000000))
    let bad := c.ys.any (fun y => decide (y.getD 10 0 ≠ 0))
    let s := s.modAc p (fun x => { x with closed := rest, uRms := rms.take 3, kappa := kap })
    let ref := s.refPhase p
    let s := if ref = (s.acI p).ref then s else s.modAc p (fun x => { x with ref := ref, below := false, since := none, period := none })
    let s := s.inc Reg.MPT_CYCLES p
    let quad := if 0 ≤ eP then (if 0 ≤ eQ then 0 else 3) else (if 0 ≤ eQ then 1 else 2)
    let s := if bad then s.notRegistered p n
      else
        let s := if 0 < eP then s.energyAdd p 0 eP.toNat else s.energyAdd p 1 (-eP).toNat
        (s.energyAdd p (2 + quad) eQ.natAbs).energyAdd p 6 eS
    let den : Int := max 1 (n * 1000000 : Nat)
    let s := ((s.wi Reg.MPT_P_CYCLE (Int.tdiv eP den) p).wi Reg.MPT_Q_CYCLE (Int.tdiv eQ den) p).w Reg.MPT_S_CYCLE (eS / den.toNat) p
    let s := s.w Reg.MPT_QUADRANT quad p
    let s := s.each 3 (fun i s => (s.w Reg.MPT_U_RMS (rms.getD i 0) p i).w Reg.MPT_I_RMS (rms.getD (i + 3) 0) p i)
    let s := s.w Reg.MPT_I_N_RMS (rms.getD 6 0) p
    let s : State := match c.span with
      | some (a, b) => s.w Reg.MPT_FREQ (40000000 * b / max 1 a) p
      | none => s
    let s := if c.noCross then (s.wbit Reg.MPT_IV_FLAGS 5 true p).ev Reg.MPT_EVENT 3 p else s
    let s : State := if s.r Reg.MPT_WIRING p ≠ 1 then s else
      let s := s.w Reg.MPT_I_MISMATCH mis p
      let s := if s.r Reg.MPT_NEUTRAL_TOL p < mis then s.modAc p (fun x => { x with beyond := x.beyond + 1, within := 0 })
        else s.modAc p (fun x => { x with beyond := 0, within := x.within + 1 })
      if (s.acI p).neutral then s.wbit Reg.MPT_IV_FLAGS 6 true p else s
    .next s

/-- NEUTRAL_CLEAR (R244). -/
def execNeutralClear (p : Fin 8) (s : State) : Host.Outcome State Fault Refusal :=
  if 50 ≤ (s.acI p.val).within ∧ (s.acI p.val).neutral then .next (s.modAc p.val (fun x => { x with neutral := false }))
  else .next s

/-- P_TIDE_PUBLISH (R245): the value of the tide just ended; with no valid sample the signal is
invalid, and the value stands. -/
def State.acTide (s : State) (p : Nat) : State :=
  let x := s.acI p
  let s := if x.count = 0 then s else s.wi Reg.MPT_P_TIDE (Int.tdiv x.sumP ((x.count * 1000000000 : Nat) : Int)) p
  s.modAc p (fun x => { x with sumP := 0, count := 0, tideOk := decide (x.count ≠ 0) })

/-! ## The engine (R226, R229) -/

/-- METROLOGY_WAVE (R229): every input of every enabled point, then the points; no point takes a discarded sample (R227). -/
def State.meterWave (s : State) (mods : List (BitVec 500)) (late : Bool) : State :=
  if s.r Reg.MET_STATE = 0 ∨ s.r Reg.MET_STATE = 3 then s
  else
    let ps := s.points
    let run := ps.filter (fun p => (s.usedInputs p).all (fun m => decide (3 ≤ (s.inI m).seen)))
    let s := if late then s.over ps (fun p s => s.breach p) else s
    let s := if late then (s.inc Reg.MET_OVERRUNS).ev Reg.MET_EVENT 0 else s
    let s := s.over (ps.flatMap s.usedInputs) (fun m s => s.inputWave m (mods.getD m 0) late)
    s.over run (fun p s => if p < 8 then s.acWave p else s.dcWave (p - 8))

/-- Metrology at a boundary: published values of the tide just ended. -/
def State.meterTide (s : State) : State :=
  s.over s.points (fun p s => if p < 8 then s.acTide p else s.dcTide (p - 8))

/-! ## Pulse outputs (R255) -/

/-- Waves pass for every pulse output. -/
def State.pulseWave (s : State) : State :=
  s.modMeter (fun m => { m with pulses := m.pulses.map (fun q => (q.1, { q.2 with since := q.2.since + 1 })) })

/-- PULSE_START (R255): an owed pulse, once the low time has passed. -/
def execPulseStart (j : Fin 16) (s : State) : Host.Outcome State Fault Refusal :=
  let j := j.val
  let x := Tab.getD s.meter.pulses j { since := 4000 }
  if s.alive ∧ !s.isReleased (resId 9 j) ∧ s.r Reg.MET_PLS_BACKLOG 0 j ≠ 0 ∧ !x.high ∧ s.r Reg.MET_PLS_WIDTH 0 j * 40 ≤ x.since then
    let s := (s.dec Reg.MET_PLS_BACKLOG 0 j).inc Reg.MET_PLS_COUNT 0 j
    .next ((s.modMeter (fun m => { m with pulses := Tab.put m.pulses j ⟨true, 0⟩ })).emit (.pin "PLS" j true))
  else .next s

/-- PULSE_END (R255). -/
def execPulseEnd (j : Fin 16) (s : State) : Host.Outcome State Fault Refusal :=
  let j := j.val
  let x := Tab.getD s.meter.pulses j {}
  if x.high ∧ s.r Reg.MET_PLS_WIDTH 0 j * 40 ≤ x.since then
    .next ((s.modMeter (fun m => { m with pulses := Tab.put m.pulses j ⟨false, 0⟩ })).emit (.pin "PLS" j false))
  else .next s

/-! ## Cove sums (R256, R257) -/

/-- The registers of MPT instance 0x28. -/
def State.coveSums (s : State) : State :=
  let up := s.points.filter (fun p => s.rb Reg.MPT_SUM_UP p)
  let own := fun (dc : Bool) r => (up.filter (fun p => decide (8 ≤ p) == dc)).foldl (fun v p => v + s.reading p r) 0
  let kids := s.meter.child.map Prod.snd
  let s := s.each 7 (fun r s => s.showReading 40 r (own false r + kids.foldl (fun v q => v + q.ac.getD r 0) 0))
  let s := s.showReading 40 7 (own true 0 + kids.foldl (fun v q => v + q.dcImport) 0)
  s.showReading 40 8 (own true 1 + kids.foldl (fun v q => v + q.dcExport) 0)

/-- METER_RECEIVE (R256): a child's sums. -/
def execMeterReceive (link : Fin 8) (q : MeterRec) (s : State) : Host.Outcome State Fault Refusal :=
  if s.running ∧ s.rbit Reg.CHAIN_CHILD_MASK link.val then
    let s := s.modMeter (fun m => { m with child := Tab.put m.child link.val q, childAge := Tab.put m.childAge link.val 0 })
    .next ((s.wbit Reg.MPT_STALE_MASK link.val false 40).coveSums)
  else .next s

/-- A METER record (Table 8.6). -/
def meterBytes (tide : Nat) (old : Bool) (sums : List Nat) : List Byte :=
  leBytes 4 tide ++ leBytes 4 old.toNat ++ sums.flatMap (leBytes 8)

/-- The cove sums at a boundary: ages of the children's records, and METER_SEND every 100 tides (R257). -/
def State.coveTide (s : State) : State :=
  let s := s.each 8 (fun l s => if s.rbit Reg.CHAIN_CHILD_MASK l ∨ (Tab.find s.meter.childAge l).isSome then
      s.modMeter (fun m => { m with childAge := Tab.put m.childAge l (Tab.getD m.childAge l 0 + 1) })
    else s)
  let s := s.over s.meter.childAge (fun q s => if 300 ≤ q.2 then s.wbit Reg.MPT_STALE_MASK q.1 true 40 else s)
  let s := s.coveSums
  if s.r Reg.CHAIN_STATE = 2 ∧ s.tide % 100 = 0 ∧ s.running ∧ !s.ebbRole then
    let old := s.meter.childAge.any (fun q => decide (300 < q.2) && (Tab.find s.meter.child q.1).isSome)
    s.chainSend (s.r Reg.CHAIN_UPSTREAM) 0x12 ctrlUp 0 (meterBytes s.tide old ((List.range 9).map (fun r => s.reading 40 r)))
  else s

/-! ## Records of the pool (R258 to R263) -/

/-- Address of a slot of the pool. -/
def poolSlot (k : Nat) : Nat := 0x05FF7000 + 0x800 * k

/-- MAGIC "EBB1". -/
def poolMagic : Nat := 0x31424245

/-- A pool record, decoded from a slot's bytes. -/
def State.poolByte (s : State) (k ofs len : Nat) : Nat := s.mword (poolSlot k + ofs) len

/-- A slot is valid: MAGIC, FORMAT and CRC (R258). -/
def State.poolValid (s : State) (k : Nat) : Bool :=
  decide (s.poolByte k 0 4 = poolMagic ∧ s.poolByte k 4 2 = 1) &&
    decide ((crc32c (s.mread (poolSlot k) 2044)).toNat = s.poolByte k 2044 4)

/-- The newest valid slot of a list. -/
def State.newestSlot (s : State) (l : List Nat) : Option Nat :=
  (l.filter s.poolValid).foldl (fun x k => match x with
    | none => some k
    | some y => if s.poolByte y 8 8 < s.poolByte k 8 8 then some k else some y) none

/-- The billing state of a record, bytes 1712 to 2043 (Table 9.4). -/
def State.billingState (s : State) : List Byte :=
  let b := s.bill
  let l := leBytes 2 1 ++ leBytes 1 (s.r Reg.BILL_RATE) ++ leBytes 1 (s.r Reg.BILL_TIME_STATUS) ++
    leBytes 4 (s.r Reg.PROF_IV_STATUS % 128) ++ leBytes 8 b.ivStart ++ leBytes 8 b.ivEnd ++ leBytes 8 b.subStart ++
    leBytes 8 (s.r64 Reg.BILL_HWM_LO Reg.BILL_HWM_HI) ++ leBytes 8 (s.r64 Reg.BILLP_END_LO Reg.BILLP_END_HI) ++
    leBytes 4 (s.r Reg.BILL_PERIOD_NO) ++ leBytes 4 (s.r Reg.BILL_SLEW_LEFT) ++ leBytes 2 (s.r Reg.BILL_LOCAL_OFFSET) ++
    leBytes 1 (s.r Reg.BILL_DST) ++ leBytes 1 0 ++ leBytes 4 (s.r Reg.PROF_WRITE_OFS) ++ leBytes 4 (b.seq % 4294967296)
  l ++ List.replicate (332 - l.length) 0

/-- The boundary step in progress: the first of the plan of the oldest boundary record whose steps are not done. -/
def State.boundaryStep (s : State) : Nat :=
  match s.bill.journal with
  | [] => 0
  | q :: _ => (((List.range 5).find? (fun i => q.plan.testBit i && decide (q.done < 4 + i))).map (· + 4)).getD 0

/-- The bytes of a pool record (Table 8.7), whose last sample is that of the present wave (`last`), at its end, or of the one
before. DESIGN CHOICE: the RTC time of the snapshot is that of the last tide boundary and 1 ms for every 40 waves since. -/
def State.poolRecord (s : State) (kind seq source : Nat) (last : Bool) : List Byte :=
  let head := leBytes 4 poolMagic ++ leBytes 2 1 ++ leBytes 1 kind ++ leBytes 1 s.boundaryStep ++ leBytes 8 seq ++ leBytes 8 s.tide ++
    leBytes 2 (if last then s.wave else (s.wave + 399) % 400) ++ leBytes 1 source ++ leBytes 1 0 ++ leBytes 4 (s.r Reg.BILL_RTC_VALID) ++
    leBytes 8 (s.r64 Reg.BILL_RTC_LO Reg.BILL_RTC_HI + (s.wave + last.toNat) / 40) ++ leBytes 4 (s.r Reg.MET_CAL_CRC) ++ List.replicate 20 0
  let ac := (List.range 56).flatMap (fun k => leBytes 8 (s.acc (k / 7) (k % 7)) ++ leBytes 4 (s.r Reg.MPT_REM (k / 7) (k % 7)))
  let dc := (List.range 64).flatMap (fun k => leBytes 8 (s.acc (8 + k / 2) (k % 2)) ++ leBytes 4 (s.r Reg.MPT_REM (8 + k / 2) (k % 2)))
  let pls := (List.range 16).flatMap (fun j => leBytes 4 (s.r Reg.MET_PLS_RES 0 j) ++ leBytes 4 (s.r Reg.MET_PLS_BACKLOG 0 j))
  let ivf := (List.range 40).flatMap (fun i => leBytes 2 (s.r Reg.MPT_IV_FLAGS i))
  let body := head ++ ac ++ dc ++ pls ++ ivf ++ s.billingState
  body ++ leBytes 4 (crc32c body).toNat

/-- Records may be written: SERVICE (R250). -/
def State.legalStore (s : State) : Bool := decide (s.r Reg.DEV_LIFECYCLE = 3)

/-- The copy of the newest valid record as a shutdown record, with RESTART_CKPT and BREACH when it is a checkpoint (R474): its
SEQUENCE and bytes. -/
def State.recordCopy (s : State) : Option (Nat × List Byte) :=
  match s.newestSlot (List.range 18) with
  | none => none
  | some k =>
    let seq := max s.meter.seq (s.poolByte k 8 8) + 1
    let ck := decide (s.poolByte k 6 1 = 2)
    let flags := (List.range 40).flatMap (fun i => leBytes 2 (s.poolByte k (1632 + 2 * i) 2 ||| (if ck then 0x101 else 0)))
    let body := splice (splice (splice (s.mread (poolSlot k) 2044) 6 [3]) 8 (leBytes 8 seq)) 1632 flags
    some (seq, body ++ leBytes 4 (crc32c body).toNat)

/-- A shutdown record: a snapshot in RUN. DEDUCED: before RUN the registers are not yet restored (R263), and a snapshot of them
would lose the energy of the newest valid record; that record is copied, as strand mode does (R474), and with none no record is
written. -/
def State.shutdownBytes (s : State) (last : Bool) : Option (Nat × List Byte) :=
  if s.running then some (s.meter.seq + 1, s.poolRecord 3 (s.meter.seq + 1) 0 last) else s.recordCopy

/-- Ask for the write of a pool record with its SEQUENCE and bytes. -/
def State.poolWrite (s : State) (wk : WriteKind) (slot : Nat) (q : Nat × List Byte) : State :=
  (s.modMeter (fun m => { m with seq := q.1 })).queueWrite wk (poolSlot slot) q.2

/-- The other of two ebb slots. -/
def otherSlot (k : Nat) : Nat := if k = 0 then 1 else 0

/-- The ebb slot that does not hold the newest valid record of those that count (all, or the ebb records alone), writes under
way counted. -/
def State.freeEbbSlot (s : State) (ebbOnly : Bool) : Nat :=
  let asked := (s.writesAsked.filter (fun w => decide (w.kind = .ebb ∨ ebbOnly = false))).filterMap (fun w => match w.what with
    | .bytes a _ => if a = poolSlot 0 then some 0 else if a = poolSlot 1 then some 1 else none
    | _ => none)
  match asked.getLast? with
  | some k => otherSlot k
  | none => match s.newestSlot ([0, 1].filter (fun k => !ebbOnly || decide (s.poolByte k 6 1 = 1))) with
    | some k => otherSlot k
    | none => 0

/-- The slot of an ebb record: not that of the newest valid ebb record (Table 8.8). DESIGN CHOICE: with no ebb record, not that
of the newest valid record. -/
def State.ebbSlot (s : State) : Nat :=
  s.freeEbbSlot (s.writesAsked.any (fun w => decide (w.kind = .ebb)) || (s.newestSlot ([0, 1].filter (fun k => decide (s.poolByte k 6 1 = 1)))).isSome)

/-- The slot of a shutdown or low-water record. DESIGN CHOICE (R262 and R486 say an ebb slot): not that of the newest valid
record of the two. -/
def State.shutdownSlot (s : State) : Nat := s.freeEbbSlot false

/-- CHECKPOINT_SNAPSHOT (R260): after wave 399 of tide T, outside an ebb warning. -/
def State.checkpoint (s : State) : State :=
  if s.legalStore && s.running && s.meter.ebb.isNone then
    let seq := s.meter.seq + 1
    s.poolWrite .checkpoint (2 + s.tide % 16) (seq, s.poolRecord 2 seq 0 true)
  else s

/-- SHUTDOWN_RECORD (R262): after the last sample of the wave in which a reset was ordered. -/
def State.shutdownRecord (s : State) : State :=
  if s.start.shutDue then
    let s := s.modStart (fun x => { x with shutDue := false })
    match s.shutdownBytes true with
    | some q => s.poolWrite .shutdown s.shutdownSlot q
    | none => s
  else s

/-- An ebb snapshot after the last sample of the wave, and its record (Table 8.8). -/
def State.ebbRecord (s : State) : State :=
  if !s.meter.snapDue then s
  else
    let seq := s.meter.seq + 1
    let first := s.meter.snaps = 0
    let s := s.modMeter (fun m => { m with
      snapDue := false
      snaps := m.snaps + 1
      firstEbb := if first ∧ s.legalStore = true then m.ebb.map (fun a => (seq, a)) else m.firstEbb })
    if s.legalStore then s.poolWrite .ebb s.ebbSlot (seq, s.poolRecord 1 seq s.meter.ebbSource true) else s

/-- EBB_SNAPSHOT (R261): snapshot k + 1 is due in wave a + 40 k, after its last sample. -/
def execEbbSnapshot (s : State) : Host.Outcome State Fault Refusal :=
  match s.meter.ebb with
  | some a =>
    if s.running ∧ a + 40 * s.meter.snaps ≤ s.now ∧ s.meter.snaps ≠ 0 then .next (s.modMeter (fun m => { m with snapDue := true }))
    else .next s
  | none => .next s

/-- EBB_RELEASE (R261): EBB_N high for 400 waves ends the sequence; checkpoints resume at the next boundary. -/
def execEbbRelease (s : State) : Host.Outcome State Fault Refusal :=
  if s.meter.ebb.isSome ∧ 400 ≤ s.meter.highFor then .next (s.modMeter (fun m => { m with ebb := none, snaps := 0, snapDue := false, highFor := 0, resume := true }))
  else .next s

/-- EBB_N in a wave, and how long it has read high, with the VIO33 monitor released, under an ebb warning. -/
def State.ebbWave (s : State) : State :=
  let s := s.modPins (fun p => { p with ebb := s.inp.ebb })
  if s.meter.ebb.isSome then s.modMeter (fun m => { m with highFor := if s.pins.ebb || s.inp.vioLow then 0 else m.highFor + 1 }) else s

/-- A write of bytes that failed (R267): what its place then holds is free. -/
def State.bytesFailed (s : State) (addr : Nat) (bs : List Byte) : State :=
  let n := bs.length
  let s := { s.mwrite addr ((List.range n).map (fun k => (Config.freeWord (s.free + k)).setWidth 8)) with free := s.free + n }
  if poolSlot 0 ≤ addr then s.ev Reg.MET_EVENT 2 else s

/-- Bytes stand in MRAM; a record of the pool is then the newest, and ebb record 1 gives EBB_FIRST. -/
def State.bytesDone (s : State) (addr : Nat) (bs : List Byte) : State :=
  let s := s.mwrite addr bs
  if addr < poolSlot 0 then s
  else
    let seq := ofLe ((bs.drop 8).take 8)
    let s := (s.modMeter (fun m => { m with seqDone := max m.seqDone seq })).w Reg.MET_POOL 1
    let s := (s.inc Reg.MET_RECORDS).w Reg.MET_SEQUENCE s.meter.seqDone
    match s.meter.firstEbb with
    | some (k, a) =>
      if k = seq then (s.modMeter (fun m => { m with firstEbb := none })).w Reg.MET_EBB_FIRST (min 255 (s.now - a)) else s
    | none => s

end Sys2Proof.Machine
end

