-- ==== Sys2Proof/Machine/Session.lean ====
section
/-! DEFINITION. Charging sessions: states, stop causes, the current command, insulation, records, and the messages of
the vehicle (chapter 5); the charging of token sessions (R304, R305). -/
namespace Sys2Proof.Machine

set_option cleanup.letToHave false

/-! ## Prepayment charges (R304, R305) -/

/-- Ask for the write of the prepayment record (R305, R328). -/
def State.prepSave (s : State) : State := s.queueRec .other (.prep [])

/-- The prepayment record is complete: the legal store holds the window, the balance and the credits. -/
def State.prepStored (s : State) : State :=
  (s.billRecord 4 s.tide 0).modBill (fun b => { b with prep := {
    base := s.r Reg.PREPAY_WIN_BASE
    map := (List.range 128).map (fun w => s.r Reg.PREPAY_WIN_MAP 0 w)
    balance := s.r Reg.PREPAY_BALANCE
    credit := (List.range 32).map (fun n => s.r Reg.PREPAY_CREDIT 0 n)
    src := (List.range 32).map (fun n => s.r Reg.PREPAY_CR_SRC 0 n)
    charged := b.charged } })

/-- Restore the fields that the prepayment record keeps. -/
def State.prepRestore (s : State) : State :=
  let p := s.bill.prep
  let s := (s.w Reg.PREPAY_WIN_BASE p.base).w Reg.PREPAY_BALANCE p.balance
  let s := s.each 128 (fun w s => s.w Reg.PREPAY_WIN_MAP (p.map.getD w 0) 0 w)
  let s := s.each 32 (fun n s => (s.w Reg.PREPAY_CREDIT (p.credit.getD n 0) 0 n).w Reg.PREPAY_CR_SRC (p.src.getD n 0) 0 n)
  s.modBill (fun b => { b with charged := p.charged })

/-- Charge a token session with the increase of its import reading up to a reading. -/
def State.prepCharge (s : State) (n reading : Nat) : State :=
  let src := s.r Reg.PREPAY_CR_SRC 0 n
  if src = 0 then s
  else
    let d := reading - Tab.getD s.bill.charged n reading
    let s := s.modBill (fun b => { b with charged := Tab.put b.charged n reading })
    if src = 1 then s.wi Reg.PREPAY_CREDIT (s.ri Reg.PREPAY_CREDIT 0 n - d) 0 n
    else s.wi Reg.PREPAY_BALANCE (s.ri Reg.PREPAY_BALANCE - d)

/-- Credit left at the end of a session lapses (R303). -/
def State.prepLapse (s : State) (n : Nat) : State :=
  if s.r Reg.PREPAY_CR_SRC 0 n = 0 then s
  else
    let s := (s.w Reg.PREPAY_CREDIT 0 0 n).w Reg.PREPAY_CR_SRC 0 0 n
    (s.modBill (fun b => { b with charged := Tab.del b.charged n })).prepSave

/-! ## Records (R165 to R168) -/

/-- BILL.LR_MATCH, LR_VERSION and LR_DIGEST bytes 0 to 3 stand in the record at its close. -/
def State.recordOf (s : State) (n : Nat) : Option SessRec :=
  match (s.conn n).record with
  | some no => s.session.recs.find? (fun q => decide (q.no = no))
  | none => none

/-- REC_COUNT, REC_NEWEST and REC_FREE (R168). -/
def State.recRefresh (s : State) : State :=
  let l := s.session.recs
  let ack := s.r Reg.SESSX_REC_ACK
  let held := (l.filter (fun q => q.flags.getLsbD 6 || decide (ack < q.no))).length
  let reserved := (s.session.conns.filter (fun p => p.2.reserved)).length
  let s := (s.w Reg.SESSX_REC_COUNT l.length).w Reg.SESSX_REC_FREE (8192 - held - reserved)
  s.w Reg.SESSX_REC_NEWEST (l.foldl (fun v q => if q.flags.getLsbD 6 then v else max v q.no) 0)

/-- A record takes its slot: in a full ring it overwrites the oldest acknowledged record. -/
def State.recRoom (s : State) : List SessRec :=
  let l := s.session.recs
  if l.length < 8192 then l
  else match l.find? (fun q => !q.flags.getLsbD 6 && decide (q.no ≤ s.r Reg.SESSX_REC_ACK)) with
    | some q => l.erase q
    | none => l

/-- Time status of the moment (R270). -/
def State.timeStatus (s : State) : Nat := s.r Reg.BILL_TIME_STATUS

/-- Open the session record at entry to CABLE_CHECK (R165). -/
def State.recOpen (s : State) (n : Nat) : State :=
  let no := s.session.nextNo
  let c := s.conn n
  let q : SessRec := {
    connector := n
    flags := BitVec.ofNat 8 (64 + (if s.r Reg.SESS_SERVICE n = 2 then 1 else 0))
    no := no
    startTime := s.rtc
    startTz := (s.offsetAt s.rtc).1
    startSync := s.timeStatus
    startImport := s.reading (8 + n) 0
    startExport := s.reading (8 + n) 1
    authSrc := s.r Reg.SESS_AUTH_SRC n
    ident := c.ident
    evseId := ((s.decl.evseId.find? (fun p => decide (p.1 = n))).map Prod.snd).getD [] }
  let l := s.recRoom
  let s := s.modSession (fun x => { x with recs := l ++ [q], nextNo := no + 1 })
  let s := s.modConn n (fun x => { x with record := some no, reserved := false })
  (s.w Reg.SESS_SESSION_NO no n).recRefresh

/-- The 256 bytes of a record (Table 5.8). -/
def SessRec.bytes (q : SessRec) : List Byte :=
  let pad := fun (k : Nat) (l : List Byte) => (l ++ List.replicate k (0 : Byte)).take k
  let body := leBytes 2 1 ++ leBytes 1 q.connector ++ [q.flags] ++ leBytes 4 q.no ++ leBytes 8 q.startTime ++ leBytes 8 q.endTime ++
    leBytes 2 (unsignedOf 16 q.startTz) ++ leBytes 2 (unsignedOf 16 q.endTz) ++ leBytes 1 q.startSync ++ leBytes 1 q.endSync ++
    leBytes 2 q.endReason ++ leBytes 8 q.startImport ++ leBytes 8 q.startExport ++ leBytes 8 q.endImport ++ leBytes 8 q.endExport ++
    leBytes 1 q.authSrc ++ leBytes 1 q.ident.length ++ pad 40 q.ident ++ leBytes 2 q.lrVersion ++ leBytes 4 q.peakI ++
    pad 32 q.evseId ++ leBytes 4 q.fwSvn ++ leBytes 4 q.keySlot ++ pad 96 q.signature ++ leBytes 4 q.lrDigest
  body ++ leBytes 4 (crc32c body).toNat

/-! ### OCMF text (R166) -/

/-- The character `"`. -/
def qt : String := String.singleton (Char.ofNat 34)
/-- The characters that open and close a JSON object. -/
def braced (t : String) : String := String.singleton (Char.ofNat 123) ++ t ++ String.singleton (Char.ofNat 125)
/-- A JSON member with a text value. -/
def member (k v : String) : String := qt ++ k ++ qt ++ ":" ++ qt ++ v ++ qt
/-- A JSON member with a bare value. -/
def memberBare (k v : String) : String := qt ++ k ++ qt ++ ":" ++ v

/-- The device serial as 4 groups of 8 hexadecimal digits. -/
def serialText (v : Nat) : String :=
  hexText 8 (v / 2 ^ 96) ++ "-" ++ hexText 8 (v / 2 ^ 64) ++ "-" ++ hexText 8 (v / 2 ^ 32) ++ "-" ++ hexText 8 v

/-- The identification of R306. -/
def lrText (version digest : Nat) (bad : Bool) : String :=
  "UVF9648 LR " ++ decimal 1 (version / 256) ++ "." ++ decimal 1 (version % 256) ++ " " ++ hexBytes (leBytes 4 digest) ++
    (if bad then " !" else "")

/-- Date and time of a reading. -/
def tmText (ms : Nat) (tz : Int) (sync : Nat) : String :=
  let minutes : Int := ((ms / 60000 : Nat) : Int) + tz
  let d := dateOf (minutes / 1440)
  let m := (minutes % 1440).toNat
  let sgn := if tz < 0 then "-" else "+"
  decimal 4 d.y.toNat ++ "-" ++ decimal 2 d.m ++ "-" ++ decimal 2 d.d ++ "T" ++ decimal 2 (m / 60) ++ ":" ++ decimal 2 (m % 60) ++ ":" ++
    decimal 2 (ms / 1000 % 60) ++ "," ++ decimal 3 (ms % 1000) ++ sgn ++ decimal 2 (tz.natAbs / 60) ++ decimal 2 (tz.natAbs % 60) ++
    " " ++ String.singleton (Char.ofNat sync)

/-- One reading of the payload. -/
def readingText (q : SessRec) (final imp : Bool) : String :=
  let tm := if final then tmText q.endTime q.endTz q.endSync else tmText q.startTime q.startTz q.startSync
  let wh := match final, imp with
    | false, true => q.startImport
    | false, false => q.startExport
    | true, true => q.endImport
    | true, false => q.endExport
  let ef := (if q.flags.getLsbD 4 then "E" else "") ++ (if q.flags.getLsbD 2 || q.flags.getLsbD 3 then "t" else "")
  braced (String.intercalate "," [member "TM" tm, member "TX" (if final then "E" else "B"),
    memberBare "RV" (decimal 1 (wh / 1000) ++ "." ++ decimal 3 (wh % 1000)), member "RI" (if imp then "1-b:1.8.0" else "1-b:2.8.0"),
    member "RU" "kWh", member "RT" "DC", member "EF" ef, member "ST" "G"])

/-- OCMF IL and IT of an authorisation source (Table 5.2). -/
def ocmfLevel (src : Nat) : String × String :=
  match src with
  | 1 => ("CERTIFIED", "EMAID")
  | 2 => ("TRUSTED", "CENTRAL")
  | 3 => ("VERIFIED", "KEY_CODE")
  | _ => ("NONE", "NONE")

/-- The payload section. -/
def ocmfPayload (serial : Nat) (q : SessRec) : String :=
  let gs := serialText serial
  let (il, it) := ocmfLevel q.authSrc
  braced (String.intercalate "," [member "FV" "1.0", member "GI" "UMULO UVF-9648", member "GS" gs, member "GV" (decimal 1 q.fwSvn),
    member "PG" ("T" ++ decimal 1 q.no), member "MV" "Umulo", member "MM" "UVF-9648", member "MS" (gs ++ "/" ++ decimal 2 q.connector),
    member "MF" (lrText q.lrVersion q.lrDigest (q.flags.getLsbD 7)), memberBare "IS" (if q.authSrc = 4 then "false" else "true"),
    member "IL" il, member "IT" it, member "ID" (textOf q.ident), member "CT" "EVSEID", member "CI" (textOf q.evseId),
    memberBare "RD" ("[" ++ String.intercalate "," [readingText q false true, readingText q false false, readingText q true true,
      readingText q true false] ++ "]")])

/-! ### Closing and signing (R165 to R167) -/

/-- Sign a closed record: an operation of the meter signing key, over the SHA-256 of the
payload as rendered (R166), or no signature where the vault refuses it (R167, R332). -/
def State.recSign (s : State) (no : Nat) : State :=
  let s := s.modSession (fun x => { x with unsigned := x.unsigned ++ [no] })
  let k := s.r Reg.SESSX_SIGN_KEY
  let d := match s.session.recs.find? (fun q => decide (q.no = no)) with
    | some q => (Config.sha256 (textBytes (ocmfPayload s.serial q))).toNat
    | none => 0
  match s.vaultAccept k 5 with
  | .ok (last, s) => s.modVault (fun v => { v with ops := v.ops ++ [{ slot := k, mat := Tab.getD v.mat k 0, tag := s.r Reg.KEY_TAG 0 k, record := some no, digest := d, last := last }] })
  | .error _ => s.modVault (fun v => { v with signed := Tab.put v.signed no [] })

/-- Close the open record of a connector with given end readings, end time and further flags. -/
def State.recCloseWith (s : State) (n endImport endExport endTime : Nat) (flags : BitVec 8) : State :=
  match s.recordOf n with
  | none => s
  | some q =>
    let q' : SessRec := { q with
      flags := (q.flags ||| flags ||| (if s.rb Reg.BILL_LR_MATCH then 0 else 0x80)) &&& 0xBF
      endTime := endTime
      endTz := (s.offsetAt endTime).1
      endSync := s.timeStatus
      endReason := s.r Reg.SESS_END_REASON n
      endImport := endImport
      endExport := endExport
      lrVersion := s.r Reg.BILL_LR_VERSION
      lrDigest := s.r Reg.BILL_LR_DIGEST 0 0
      peakI := (s.conn n).peak
      fwSvn := s.r Reg.DEV_FW_SVN
      keySlot := s.r Reg.SESSX_SIGN_KEY }
    let s := s.modSession (fun x => { x with recs := x.recs.map (fun y => if y.no = q.no then q' else y) })
    let s := s.modConn n (fun x => { x with record := none })
    let s := (s.recSign q.no).recRefresh
    (s.prepCharge n endImport).prepLapse n

/-- Close the open record of a connector now. -/
def State.recClose (s : State) (n : Nat) : State := s.recCloseWith n (s.reading (8 + n) 0) (s.reading (8 + n) 1) s.rtc 0

/-! ### The signature section -/

/-- DER of an unsigned integer given by its big-endian bytes. -/
def derInteger (l : List Byte) : List Byte :=
  let v := l.dropWhile (fun b => decide (b = 0))
  let v := match v with
    | [] => [(0 : Byte)]
    | b :: _ => if 128 ≤ b.toNat then (0 : Byte) :: v else v
  [(2 : Byte), BitVec.ofNat 8 v.length] ++ v

/-- DER of a signature r ‖ s; empty where there is none (R332). -/
def derSignature (l : List Byte) : List Byte :=
  if l.all (fun b => decide (b = 0)) then []
  else
    let body := derInteger (l.take 48) ++ derInteger (l.drop 48)
    [(0x30 : Byte), BitVec.ofNat 8 body.length] ++ body

/-- The OCMF text of a record. -/
def ocmfText (serial : Nat) (q : SessRec) : String :=
  "OCMF|" ++ ocmfPayload serial q ++ "|" ++ braced (String.intercalate "," [member "SA" "ECDSA-secp384r1-SHA256", member "SE" "hex",
    member "SM" "application/x-der", member "SD" (hexBytes (derSignature q.signature))])

/-! ## States and stop causes (R152 to R160) -/

/-- State of a session. -/
def State.sess (s : State) (n : Nat) : Nat := s.r Reg.SESS_STATE n

/-- The energised states. -/
def State.energised (s : State) (n : Nat) : Bool := decide (5 ≤ s.sess n ∧ s.sess n ≤ 10)

/-- The lock actuator of a connector. -/
def State.lockDrive (s : State) (n : Nat) (on : Bool) : State := s.lsCommand (s.r Reg.SESS_LOCK_LS n) on

/-- The lock is driven off unless the connector voltage holds it (R154). -/
def State.lockOff (s : State) (n : Nat) : State := if 600 ≤ s.connV n then s else s.lockDrive n false

/-- A group of a bus-connector contactor of the connector reads cut. -/
def State.connCut (s : State) (n : Nat) : Bool :=
  (s.connContactors n).any (fun k => s.matrix.cut.getLsbD (s.r Reg.MTX_CT_GROUP 0 k))

/-- Set END_REASON: the first cause, or one of a lower rank in the same wave (R159). -/
def State.stopReason (s : State) (n code rank : Nat) : State :=
  let c := s.conn n
  if !c.stopped || (decide (c.stopWave = s.now) && decide (rank < c.stopRank)) then
    let s := s.w Reg.SESS_END_REASON code n
    s.modConn n (fun x => { x with stopped := true, stopWave := s.now, stopRank := rank, hostStop := decide (code = 1) })
  else s

/-- Move a session to a state. -/
def State.sessGo (s : State) (n st : Nat) : State :=
  let leaves := decide (s.sess n = 7 ∧ st ≠ 7)
  let s := (s.w Reg.SESS_STATE st n).w Reg.SESS_STATE_TIDES 0 n
  let s := s.modConn n (fun x => { x with zero := 0, held := 0, below := 0, above := 0, locked := 0 })
  if leaves then s.mvLeaveTransfer n else s

/-- A cut of the connector's SOUT group in an energised state: FAULTED at once (R134, R159). -/
def State.sessCut (s : State) (n : Nat) : State :=
  if !s.energised n then s
  else
    let late := (s.conn n).stopped && decide ((s.conn n).stopWave ≠ s.now)
    let s := if late then s.modRecord n (fun q => { q with flags := q.flags ||| 0x20 }) else s.stopReason n 0x70B 1
    ((s.w Reg.SESS_I_CMD 0 n).dropPath n).sessGo n 12

/-- Enter a state; an energised state with a cut group is left for FAULTED (Table 5.4). -/
def State.sessTo (s : State) (n st : Nat) : State :=
  let s := s.sessGo n st
  if s.energised n && s.connCut n then s.sessCut n else s

/-- A stop cause of Table 5.5. -/
def State.stopCause (s : State) (n code rank : Nat) : State :=
  if 5 ≤ s.sess n ∧ s.sess n ≤ 8 then
    let s := s.stopReason n code rank
    (s.dropPath n).sessTo n 9
  else if s.sess n = 9 ∨ (s.sess n = 13 ∧ (s.conn n).stopped) then s.stopReason n code rank
  else s

/-- A session ends before CABLE_CHECK: no record, the lock is driven off, the reservation is released. -/
def State.closeEarly (s : State) (n code rank : Nat) : State :=
  if 1 ≤ s.sess n ∧ s.sess n ≤ 4 then
    let lock := decide (s.sess n = 4)
    let s := s.stopReason n code rank
    let s := (s.modConn n (fun x => { x with reserved := false })).recRefresh
    let s := s.prepLapse n
    (if lock then s.lockOff n else s).sessGo n 13
  else s

/-- A stop of any session under way. A session that this wave has stopped already takes a cause of a lower rank (R159). -/
def State.stopAny (s : State) (n code rank : Nat) : State := (s.closeEarly n code rank).stopCause n code rank

/-! ## Responses -/

/-- EVSENotification: 0 = none, 1 = Terminate, 2 = EmergencyShutdown (R158). -/
def State.notification (s : State) (n : Nat) : Int :=
  if s.sess n = 9 ∨ s.sess n = 13 then (if (s.conn n).hostStop then 1 else if s.sess n = 9 then 2 else 0) else 0

/-- A message on the vehicle link of a connector; a port without an owner sends nothing (R46). -/
def State.v2gSend (s : State) (n : Nat) (msg : String) (vals : List Int) : State :=
  if s.isReleased (resId 0x0C n) then s else (s.inc Reg.T1S_TX_FRAMES n).emit (.v2g n msg vals)

/-- A response: message, ResponseCode (0 = OK, 1 = FAILED), EVSENotification, and further values. -/
def State.respond (s : State) (n : Nat) (msg : String) (code : Int) (vals : List Int) : State :=
  s.v2gSend n msg ([code, s.notification n] ++ vals)

/-- A message that does not decode, is too long, or is not expected: FAILED, a stop cause of rank 3 (R159). -/
def State.protocolErr (s : State) (n : Nat) (msg : String) : State :=
  (s.stopAny n 0x713 3).respond n msg 1 []

/-- A request arrives: the sequence timer restarts; what does not decode or is longer than 8,192 bytes is answered
FAILED, and so is any request on a closed session. A vehicle that answers FAILED is a stop cause of rank 5, and gets no answer. -/
def State.v2gIn (s : State) (n : Nat) (msg : String) (q : V2g) (body : State → State) : State :=
  if !s.dialogues || !(s.conn n).tls then s
  else
    let s := s.modConn n (fun x => { x with quiet := 0 })
    if 8192 < q.size then (s.protocolErr n msg).modConn n (fun x => { x with v2g := false })
    else if !q.decodes then s.protocolErr n msg
    else if q.failed then s.stopAny n 0x713 5
    else if s.sess n = 13 then s.respond n msg 1 []
    else body s

/-- A request of an open V2G session, whose SessionID must be the session's. -/
def State.v2gReq (s : State) (n : Nat) (msg : String) (q : V2g) (body : State → State) : State :=
  s.v2gIn n msg q (fun s =>
    if !(s.conn n).v2g ∨ q.sid ≠ some (s.conn n).sid then s.protocolErr n msg else body s)

/-! ## Authorisation (R148 to R151) -/

/-- The identification modes offered: bit 0 PnC, bit 1 EIM (R148, R149). -/
def State.modesOffered (s : State) (n : Nat) : Nat :=
  let m := s.r Reg.SESS_AUTH_MODE n
  let eim := bit m 1 || bit m 3
  let pnc := bit m 0 && (s.rb Reg.BILL_RTC_VALID || !eim)
  pnc.toNat + 2 * eim.toNat

/-- Every AuthorizationRes is held Ongoing: an activation is pending (R462), or low water lasts (R486). -/
def State.authHeld (s : State) : Bool := decide (s.r Reg.UPD_STATE = 6 ∨ s.r Reg.THERM_STATE = 2)

/-- R151 refuses an authorisation, with its code. -/
def State.authRefused (s : State) : Option Nat :=
  if s.r Reg.DEV_INHIBIT % 8 ≠ 0 then some 0x714 else if s.r Reg.SESSX_REC_FREE = 0 then some 0x711 else none

/-- A session in AUTH is refused: FAILED, and CLOSED. DEDUCED: an end that Table 5.5 does not rank stands behind every ranked cause
of its wave. -/
def State.authFail (s : State) (n code : Nat) : State :=
  let asked := (s.conn n).asked || (s.conn n).chosenPnc.isSome
  let s := (s.ev Reg.SESS_EVENT 0 n).when (decide (code = 0x703)) (fun s => s.ev Reg.SESS_EVENT 1 n)
  let s := s.when (decide (code = 0x711)) (fun s => s.ev Reg.SESS_EVENT 7 n)
  let s := s.closeEarly n code 7
  if asked then s.respond n "AuthorizationRes" 1 [] else s

/-- A source is accepted (R150): the session reserves its slot and goes on to NEGOTIATE. -/
def State.authorise (s : State) (n src : Nat) (ident : List Byte) : State :=
  match s.authRefused with
  | some c => s.authFail n c
  | none =>
    let s := s.w Reg.SESS_AUTH_SRC src n
    let asked := (s.conn n).chosenPnc.isSome
    let s := (s.modConn n (fun x => { x with ident := ident.take 40, reserved := true })).recRefresh
    let s := s.sessTo n 3
    if asked then s.respond n "AuthorizationRes" 0 [0] else s

/-- R149 holds for a contract authorisation. A deny list whose CRC is wrong lets none pass (R391). -/
def State.pncPasses (s : State) (a : AuthReq) : Bool :=
  decide (a.subCas ≤ 2) &&
    s.validKeys.any (fun k => s.rb Reg.KEY_ANCHOR 0 k && decide (Tab.getD s.vault.pub k [] = a.anchor)) &&
    s.rb Reg.BILL_RTC_VALID && a.validity.all (fun p => decide (p.1 ≤ s.rtcS ∧ s.rtcS ≤ p.2)) &&
    a.keyUsageOk && a.sigOk &&
    s.rb Reg.KEY_DENY_VALID && !s.denied (Config.sha384 a.emaid).toNat

/-- Ongoing. -/
def State.authOngoing (s : State) (n : Nat) : State := s.respond n "AuthorizationRes" 0 [1]

/-- AuthorizationReq in AUTH. -/
def State.authReq (s : State) (n : Nat) (a : AuthReq) : State :=
  if !bit (s.modesOffered n) (if a.pnc then 0 else 1) then s.protocolErr n "AuthorizationRes"
  else
    let s := s.modConn n (fun x => { x with chosenPnc := some a.pnc, asked := true })
    match s.authRefused with
    | some c => s.authFail n c
    | none =>
      if s.authHeld = true then s.authOngoing n
      else match (s.conn n).token with
      | some id => if (s.conn n).tokenDone then s.authorise n 3 (textBytes (decimal 1 id)) else s.authOngoing n
      | none =>
      if a.pnc then
        if !s.pncPasses a then s.authFail n 0x703
        else
          let s := s.modConn n (fun x => { x with pncOk := true, ident := a.emaid })
          if bit (s.r Reg.SESS_AUTH_MODE n) 2 && !(s.conn n).grant then s.authOngoing n
          else s.authorise n 1 a.emaid
      else if (s.conn n).grant then s.authorise n 2 (textBytes (decimal 1 (s.r Reg.SESS_AUTH_REF n)))
      else if bit (s.r Reg.SESS_AUTH_MODE n) 3 then s.authorise n 4 []
      else s.authOngoing n

/-! ## The path and the current command (R155 to R164) -/

/-- The path is DONE and not being released. -/
def State.pathDone (s : State) (n : Nat) : Bool :=
  (s.connBus n).isSome && decide (s.r Reg.MTX_CONN_STATE 0 n = 2) && !s.matrix.releases.contains n

/-- V_test (R155). -/
def State.vTest (s : State) (n : Nat) : Nat := min (s.r Reg.SESS_V_EV_MAX n) (s.r Reg.SESS_RATED_V n)

/-- V_c (R161). -/
def State.vC (s : State) (n : Nat) : Nat := if 1000 ≤ s.r Reg.SESS_V_MEAS n then s.r Reg.SESS_V_MEAS n else s.r Reg.SESS_V_TARGET n

/-- A power in kW as a current at V_c, 0.1 A; 0 where V_c is 0. -/
def State.perV (s : State) (n p : Nat) : Nat := if s.vC n = 0 then 0 else p * 100000 / s.vC n

/-- I_REQ (Table 5.6). -/
def State.iReq (s : State) (n : Nat) : Nat :=
  let v := (s.conn n).veh
  if s.r Reg.SESS_CONTROL_MODE n = 2 then
    if s.exporting n then min (v.maxDischargeI.getD 0) (s.perV n (v.maxDischargeP.getD 0))
    else min v.maxChargeI (s.perV n v.maxChargeP)
  else if s.exporting n then
    if v.targetI < 0 then (match v.maxDischargeI with | some m => min v.targetI.natAbs m | none => v.targetI.natAbs) else 0
  else v.targetI.toNat

/-- The direction of R162: 2 = export, 1 = import. -/
def State.wantDir (s : State) (n : Nat) : Nat :=
  if s.r Reg.SESS_SERVICE n = 2 ∧ s.rb Reg.SESS_EXPORT_REQ n ∧ s.offersDischarge n then 2 else 1

/-- CAP_REQ: the vehicle's limit for the present direction. -/
def State.capReq (s : State) (n : Nat) : Nat := s.vehCap n (s.exporting n)

/-- The three limits that charge-loop responses carry (R164). -/
def State.iLimit (s : State) (n : Nat) : Nat :=
  min (s.r Reg.SESS_I_ALLOC n) (min (s.r Reg.SESS_I_CABLE n) (s.r Reg.SESS_RATED_I n))

/-- One step of I_CMD toward its target (R163). -/
def slew (cmd target : Int) (up down : Nat) : Int :=
  if 0 < cmd then
    if cmd ≤ target then min target (cmd + up) else max (max target 0) (cmd - down)
  else if cmd < 0 then
    if target ≤ cmd then max target (cmd - up) else min (min target 0) (cmd + down)
  else if 0 < target then min target (up : Int) else max target (-(up : Int))

/-- The current command of a wave (R155, R161, R163): the cable check commands current when its path is DONE. -/
def State.currentWave (s : State) (n : Nat) : State :=
  let s := (s.w Reg.SESS_I_REQ (s.iReq n) n).w Reg.SESS_I_ALLOC (s.perV n (s.ri Reg.ALLOC_CONNECTED 0 n).natAbs) n
  let s := s.w Reg.SESS_I_CABLE (s.r Reg.COOL_HEADROOM n) n
  let st := s.sess n
  let lim := min (s.r Reg.SESS_I_REQ n) (s.iLimit n)
  let dir := s.r Reg.ALLOC_DIRECTION 0 n
  let target : Int := if st = 7 then (if dir = 1 then lim else if dir = 2 then -lim else 0)
    else if (st = 5 ∧ s.pathDone n) ∨ st = 6 then s.r Reg.SESS_PRECHARGE_I n else 0
  let l := [s.r Reg.SESS_I_REQ n, s.r Reg.SESS_I_ALLOC n, s.r Reg.SESS_I_CABLE n, s.r Reg.SESS_RATED_I n]
  let src := if st = 7 then l.zipIdx.foldl (fun v p => if p.1 = target.natAbs then v + 2 ^ p.2 else v) 0 else 0
  let s := (s.wi Reg.SESS_I_TARGET target n).w Reg.SESS_I_SRC src n
  let cmd := slew (s.ri Reg.SESS_I_CMD n) target (s.r Reg.SESS_SLEW_UP n) (s.r Reg.SESS_SLEW_DOWN n)
  let s := s.wi Reg.SESS_I_CMD cmd n
  let quietI := decide (s.connI n ≤ s.r Reg.MTX_ZERO_I)
  let near := decide (st = 6 ∨ st = 8) && decide (s.r Reg.SESS_V_MEAS n - s.r Reg.SESS_V_TARGET n ≤ s.r Reg.SESS_PRECHARGE_V n ∧
    s.r Reg.SESS_V_TARGET n - s.r Reg.SESS_V_MEAS n ≤ s.r Reg.SESS_PRECHARGE_V n)
  let vLim := if st = 5 then s.vTest n else if st = 6 then s.r Reg.SESS_V_TARGET n else s.vTest n
  s.modConn n (fun x => { x with
    zero := if quietI then min 4 (x.zero + 1) else 0
    match_ := if near then min 4 (x.match_ + 1) else 0
    matchOk := near && x.matchOk
    peak := max x.peak cmd.natAbs
    vLimit := vLim })

/-- The end of the release in WELD_CHECK (Table 5.4). -/
def State.sessWeld (s : State) (n : Nat) : State :=
  if s.sess n ≠ 10 ∨ s.matrix.releases.contains n ∨ s.busyMoves.any (fun m => !s.mvCab m && decide ((s.move m).conn = some n)) then s
  else if (s.connBus n).isNone then (s.recClose n).sessTo n 11
  else
    let s := s.w Reg.SESS_END_REASON 0x70F n
    s.sessGo n 12

/-- The sessions that wait in WELD_CHECK. -/
def State.sessWelds (s : State) : State := s.each 32 (fun n s => s.sessWeld n)

/-- The sessions in one wave. -/
def State.sessWave (s : State) : State :=
  s.each 32 (fun n s =>
    let s := s.w Reg.SESS_V_MEAS (s.connV n) n
    let s := if s.energised n && s.connCut n then s.sessCut n else s
    (s.currentWave n).sessWeld n)

/-! ## The tide boundary -/

/-- The proximity input reads connected, the lock input locked: filtered state 1 (R154). -/
def State.proxOn (s : State) (n : Nat) : Bool := s.rb Reg.SAFE_SIN_STATE 0 (s.r Reg.SESS_PROX_SIN n)
/-- The lock input reads locked. -/
def State.lockOn (s : State) (n : Nat) : Bool := s.rb Reg.SAFE_SIN_STATE 0 (s.r Reg.SESS_LOCK_SIN n)

/-- A connector is declared: it has a rating. -/
def State.connDeclared (s : State) (n : Nat) : Bool := decide (0 < s.r Reg.SESS_RATED_I n)

/-- IDLE to SETUP: the link is up and the vehicle is there. -/
def State.sessBegin (s : State) (n : Nat) : State :=
  if s.dialogues ∧ s.sess n = 0 ∧ s.connDeclared n ∧ (s.conn n).link ∧ s.proxOn n then
    let s := s.modConn n (fun x => { link := x.link })
    let s := ((s.w Reg.SESS_AUTH_SRC 0 n).w Reg.SESS_CONTROL_MODE 0 n).w Reg.SESS_SERVICE 0 n
    let s := (s.w Reg.SESS_V_TARGET 0 n).w Reg.SESS_V_EV_MAX 0 n
    (s.inc Reg.SESS_SESSIONS n).sessTo n 1
  else s

/-- The insulation reading of a tide (R155). -/
def State.isoTide (s : State) (n : Nat) (r : Option Nat) : State :=
  let st := s.sess n
  let v := if st = 5 then s.vTest n else s.r Reg.SESS_V_MEAS n
  let near := decide (s.r Reg.SESS_V_MEAS n - v ≤ 200 ∧ v - s.r Reg.SESS_V_MEAS n ≤ 200)
  if !(decide (5 ≤ st ∧ st ≤ 8)) || (decide (st = 5) && !(s.pathDone n && near)) then s
  else match r with
    | none => s
    | some k =>
      let s := s.w Reg.SESS_R_ISO k n
      if k * 10000 < s.r Reg.SESS_ISO_FAULT n * v then s.stopCause n 0x707 2
      else if st = 5 ∧ !(s.conn n).isoPass then
        if s.r Reg.SESS_ISO_OK n * v ≤ k * 10000 then s.modConn n (fun x => { x with iso := x.iso + 1 })
        else s.ev Reg.SESS_EVENT 2 n
      else s

/-- DIRECTION at a tide boundary (R162). -/
def State.dirTide (s : State) (n : Nat) : State :=
  if s.sess n ≠ 7 then (s.w Reg.ALLOC_DIRECTION 0 0 n).modConn n (fun x => { x with newDir := none })
  else
    let want := s.wantDir n
    match (s.conn n).newDir with
    | some _ =>
      if s.r Reg.SESS_I_CMD n = 0 ∧ 4 ≤ (s.conn n).zero then
        (s.w Reg.ALLOC_DIRECTION want 0 n).modConn n (fun x => { x with newDir := none })
      else s
    | none =>
      if want = s.r Reg.ALLOC_DIRECTION 0 n then s
      else (s.w Reg.ALLOC_DIRECTION 0 0 n).modConn n (fun x => { x with newDir := some want })

/-- One session at a tide boundary: its timers and levels. -/
def State.connTide (s : State) (n : Nat) (riso : Option Nat) : State :=
  let s := s.incSat Reg.SESS_STATE_TIDES n
  let v := s.r Reg.SESS_V_MEAS n
  let lock := s.lockOn n
  let prox := s.proxOn n
  let attached := s.pathDone n
  let st := s.sess n
  let s := s.modConn n (fun x => { x with
    quiet := if x.v2g then x.quiet + 1 else 0
    locked := if lock then min 4 (x.locked + 1) else 0
    proxGone := if prox then 0 else min 4 (x.proxGone + 1)
    below := if v < 600 then min 10 (x.below + 1) else 0
    above := if 600 ≤ v then min 101 (x.above + 1) else 0
    held := if st = 8 ∧ attached then x.held + 1 else 0 })
  let s := s.isoTide n riso
  let s := s.dirTide n
  let s := s.w Reg.ALLOC_CAP_REQ (s.capReq n) 0 n
  let s := if s.sess n = 13 ∧ !(s.conn n).link ∧ !prox then
      let s := (s.sessGo n 0).modConn n (fun x => { link := x.link })
      s.recRefresh
    else s
  -- a lock that the connector voltage held is released once the voltage has gone
  let s := if (s.sess n = 13 ∨ s.sess n = 0) ∧ s.connDeclared n ∧ s.rb Reg.LS_LATCHED (s.r Reg.SESS_LOCK_LS n) then s.lockOff n else s
  s.sessBegin n

/-- The sessions at a tide boundary. -/
def State.sessTide (s : State) (riso : List (Option Nat)) : State :=
  s.each 32 (fun n s => if s.connDeclared n then s.connTide n (riso.getD n none) else s)

/-- The charges of the token sessions at a tide boundary; a session without credit is stopped on the device's own behalf
(R304). While a token session runs, the record is written every 100 tides (R305). -/
def State.prepTide (s : State) : State :=
  let live := (List.range 32).filter (fun n => decide (s.r Reg.PREPAY_CR_SRC 0 n ≠ 0) && s.energised n)
  let s := s.over live (fun n s =>
    let s := s.prepCharge n (s.reading (8 + n) 0)
    let left := if s.r Reg.PREPAY_CR_SRC 0 n = 1 then s.ri Reg.PREPAY_CREDIT 0 n else s.ri Reg.PREPAY_BALANCE
    if left ≤ 0 ∧ s.sess n ≤ 8 then (s.w Reg.SESS_STOP 1 n).ev Reg.PREPAY_EVENT 3 else s)
  if !live.isEmpty ∧ s.tide % 100 = 0 then s.prepSave else s

/-! ## RUN (R154, R160, R305) -/

/-- Close a record left open by a reset: from the ebb record (its end readings and time), or with the registers. -/
def State.recCloseAtRun (s : State) (q : SessRec) (ebb : Option (List Nat × List Nat × Nat)) : State :=
  let n := q.connector
  let s := (s.modConn n (fun x => { x with record := some q.no, peak := q.peakI })).w Reg.SESS_SESSION_NO q.no n
  match ebb with
  | some (imp, exp, t) => (s.w Reg.SESS_END_REASON 0x70E n).recCloseWith n (imp.getD n 0) (exp.getD n 0) t 2
  | none => (s.w Reg.SESS_END_REASON 0x70D n).recClose n

/-- The sessions at RUN: records are closed, and a connector found locked enters UNLOCK. -/
def State.sessRun (s : State) (ebb : Option (List Nat × List Nat × Nat)) : State :=
  let s := s.over (s.session.recs.filter (fun q => q.flags.getLsbD 6)) (fun q s => s.recCloseAtRun q ebb)
  let s := s.each 32 (fun n s =>
    if s.connDeclared n ∧ s.sess n = 0 ∧ s.rb Reg.LS_LATCHED (s.r Reg.SESS_LOCK_LS n) then s.sessGo n 11 else s)
  s.recRefresh

/-! ## The vehicle's messages -/

/-- Take the parameters a message carries. -/
def State.takeParams (s : State) (n : Nat) (p : EvParams) : State :=
  let s := match p.targetV with | some v => s.w Reg.SESS_V_TARGET v n | none => s
  let s := match p.maxV with | some v => s.w Reg.SESS_V_EV_MAX v n | none => s
  s.modConn n (fun x => { x with veh := {
    targetI := p.targetI.getD x.veh.targetI
    maxChargeI := p.maxChargeI.getD x.veh.maxChargeI
    maxChargeP := p.maxChargeP.getD x.veh.maxChargeP
    maxDischargeI := match p.maxDischargeI with | some v => some v | none => x.veh.maxDischargeI
    maxDischargeP := match p.maxDischargeP with | some v => some v | none => x.veh.maxDischargeP } })

/-- A bidirectional cabinet is reachable from the connector (R119). -/
def State.bidirReach (s : State) (n : Nat) : Bool :=
  let buses := match s.connBus n with
    | some b => [b]
    | none => (List.range 64).filter (fun b => !(s.busJoins b n).isEmpty)
  s.cabinets.any (fun c => s.rb Reg.CAB_BIDIR c && buses.any (fun b => !(s.cabJoins c b).isEmpty))

/-- SDP_REQUEST (R145): TLS on TCP port SECC_PORT. -/
def execSdpRequest (n : Fin 32) (s : State) : Host.Outcome State Fault Refusal :=
  if s.dialogues ∧ (s.conn n.val).link ∧ s.sess n.val ≠ 0 then
    .next (s.v2gSend n.val "SDPResponse" [s.r Reg.SESSX_SECC_PORT])
  else .next s

/-- The server's flight of a full handshake (R146): the certificate, its sub-CA certificates, and the signature of the vault key.
The digest signed is that of a transcript of TLS 1.3, and free. The answer names no PSK and accepts no 0-RTT data. -/
def State.tlsFlight (s : State) (n : Nat) : State :=
  let (d, s) := s.freeBlock
  let (sig, s) := s.signWith s.decl.seccKey d.toNat
  let s := s.over s.decl.seccChain (fun c s => s.v2gSend n "Certificate" (c.map (fun b => (b.toNat : Int))))
  (s.v2gSend n "CertificateVerify" (sig.map (fun b => (b.toNat : Int)))).v2gSend n "TLS" [0]

/-- TLS_CLIENT_HELLO (R146): a full handshake, whatever PSK the hello offers and whatever 0-RTT data it sends. The hello is refused
unless it offers the one suite, group and signature algorithm; DEDUCED: it is refused too where the vault refuses the server's
key, or no certificate is there. -/
def execTlsClientHello (n : Fin 32) (h : ClientHello) (s : State) : Host.Outcome State Fault Refusal :=
  if s.dialogues ∧ (s.conn n.val).link ∧ s.sess n.val ≠ 0 then
    if h.suite && h.group && h.sigAlg && !s.decl.seccChain.isEmpty then
      match s.vaultAccept s.decl.seccKey 5 with
      | .error _ => .next (s.v2gSend n.val "TLS" [1])
      | .ok (last, s) =>
        let s := (s.tlsFlight n.val).counterEnd s.decl.seccKey last
        .next (s.modConn n.val (fun x => { x with tls := true, app := false }))
    else .next (s.v2gSend n.val "TLS" [1])
  else .next s

/-- SUPPORTED_APP_PROTOCOL_REQ (R145): the DC namespace of ISO 15118-20, priority 1. -/
def execSupportedAppProtocolReq (n : Fin 32) (q : V2g) (dc : Bool) (s : State) : Host.Outcome State Fault Refusal :=
  .next (s.v2gIn n.val "SupportedAppProtocolRes" q (fun s =>
    if s.sess n.val = 1 ∨ (s.sess n.val = 8 ∧ (s.conn n.val).suspended) then
      if dc then (s.modConn n.val (fun x => { x with app := true })).respond n.val "SupportedAppProtocolRes" 0 [1]
      else s.respond n.val "SupportedAppProtocolRes" 1 []
    else s.protocolErr n.val "SupportedAppProtocolRes"))

/-- SESSION_SETUP_REQ (R153, R157). The SessionID the device gives is free. -/
def execSessionSetupReq (n : Fin 32) (q : V2g) (s : State) : Host.Outcome State Fault Refusal :=
  .next (s.v2gIn n.val "SessionSetupRes" q (fun s =>
    let c := s.conn n.val
    if s.sess n.val = 1 ∧ c.app then
      if s.modesOffered n.val = 0 then (s.closeEarly n.val 0x715 7).respond n.val "SessionSetupRes" 1 []
      else
        let (w, s) := s.freeWord
        let s := s.modConn n.val (fun x => { x with v2g := true, sid := w.toNat })
        (s.sessTo n.val 2).respond n.val "SessionSetupRes" 0 [w.toNat]
    else if s.sess n.val = 8 then
      if q.sid = some c.sid then
        if c.suspended ∧ c.app then
          let s := s.modConn n.val (fun x => { x with v2g := true, suspended := false, resumed := true })
          let s := s.modPair (fun p => { p with resume := Tab.del p.resume n.val })
          s.respond n.val "SessionSetupRes" 0 [c.sid]
        else s.protocolErr n.val "SessionSetupRes"
      else (s.respond n.val "SessionSetupRes" 1 []).stopCause n.val 0 5
    else s.protocolErr n.val "SessionSetupRes"))

/-- AUTHORIZATION_SETUP_REQ (R148): the modes, and a GenChallenge that is free. -/
def execAuthorizationSetupReq (n : Fin 32) (q : V2g) (s : State) : Host.Outcome State Fault Refusal :=
  .next (s.v2gReq n.val "AuthorizationSetupRes" q (fun s =>
    if s.sess n.val = 2 ∨ s.sess n.val = 3 ∨ (s.sess n.val = 8 ∧ (s.conn n.val).resumed) then
      let (w, s) := s.freeWord
      s.respond n.val "AuthorizationSetupRes" 0 [s.modesOffered n.val, w.toNat]
    else s.protocolErr n.val "AuthorizationSetupRes"))

/-- AUTHORIZATION_REQ (R148 to R151); a session already authorised, and a resumed one, is answered Finished. -/
def execAuthorizationReq (n : Fin 32) (q : V2g) (a : AuthReq) (s : State) : Host.Outcome State Fault Refusal :=
  .next (s.v2gReq n.val "AuthorizationRes" q (fun s =>
    if s.sess n.val = 2 then s.authReq n.val a
    else if s.sess n.val = 3 ∨ (s.sess n.val = 8 ∧ (s.conn n.val).resumed) then s.respond n.val "AuthorizationRes" 0 [0]
    else s.protocolErr n.val "AuthorizationRes"))

/-- AUTH_GRANT (R150): the applied value 1 returns to 0; in AUTH it is held and acts on the request. -/
def execAuthGrant (n : Fin 32) (s : State) : Host.Outcome State Fault Refusal :=
  if s.r Reg.SESS_AUTH_GRANT n.val = 1 then
    let s := s.w Reg.SESS_AUTH_GRANT 0 n.val
    if s.sess n.val ≠ 2 then .next s
    else
      let s := s.modConn n.val (fun x => { x with grant := true })
      let c := s.conn n.val
      if s.authHeld = true ∨ c.token.isSome then .next s
      else match c.chosenPnc with
        | some true => if bit (s.r Reg.SESS_AUTH_MODE n.val) 2 && c.pncOk then .next (s.authorise n.val 1 c.ident) else .next s
        | some false => .next (s.authorise n.val 2 (textBytes (decimal 1 (s.r Reg.SESS_AUTH_REF n.val))))
        | none => .next s
  else .next s

/-- AUTH_DENY (R150): the applied value 2 returns to 0; in AUTH it ends the session with 0x0701. -/
def execAuthDeny (n : Fin 32) (s : State) : Host.Outcome State Fault Refusal :=
  if s.r Reg.SESS_AUTH_GRANT n.val = 2 then
    let s := s.w Reg.SESS_AUTH_GRANT 0 n.val
    if s.sess n.val = 2 then .next (s.authFail n.val 0x701) else .next s
  else .next s

/-- AUTH_WAIT_EXPIRY (R153). -/
def execAuthWaitExpiry (n : Fin 32) (s : State) : Host.Outcome State Fault Refusal :=
  if s.sess n.val = 2 ∧ s.r Reg.SESS_AUTH_WAIT n.val ≤ s.r Reg.SESS_STATE_TIDES n.val then .next (s.authFail n.val 0x702)
  else .next s

/-- The states in which service messages are answered: NEGOTIATE, and a resumed session in PAUSE. -/
def State.negotiating (s : State) (n : Nat) : Bool := decide (s.sess n = 3) || (decide (s.sess n = 8) && (s.conn n).resumed)

/-- SERVICE_DISCOVERY_REQ (R145): DC, and DC_BPT where a bidirectional cabinet is reachable. -/
def execServiceDiscoveryReq (n : Fin 32) (q : V2g) (s : State) : Host.Outcome State Fault Refusal :=
  .next (s.v2gReq n.val "ServiceDiscoveryRes" q (fun s =>
    if s.negotiating n.val then s.respond n.val "ServiceDiscoveryRes" 0 ([1] ++ (if s.bidirReach n.val then [2] else []))
    else s.protocolErr n.val "ServiceDiscoveryRes"))

/-- SERVICE_SELECTION_REQ (R145): service 1 = DC, 2 = DC_BPT; control mode 1 = Scheduled, 2 = Dynamic. What was not
offered is answered FAILED. -/
def execServiceSelectionReq (n : Fin 32) (q : V2g) (service mode : Nat) (s : State) : Host.Outcome State Fault Refusal :=
  .next (s.v2gReq n.val "ServiceSelectionRes" q (fun s =>
    if s.negotiating n.val then
      if (service = 1 ∨ (service = 2 ∧ s.bidirReach n.val)) ∧ (mode = 1 ∨ mode = 2) then
        if s.sess n.val = 3 then
          ((s.w Reg.SESS_SERVICE service n.val).w Reg.SESS_CONTROL_MODE mode n.val).respond n.val "ServiceSelectionRes" 0 []
        else s.respond n.val "ServiceSelectionRes" 0 []
      else s.respond n.val "ServiceSelectionRes" 1 []
    else s.protocolErr n.val "ServiceSelectionRes"))

/-- CHARGE_PARAMETER_DISCOVERY_REQ (R145): the vehicle's parameters, answered with the connector's ratings. -/
def execChargeParameterDiscoveryReq (n : Fin 32) (q : V2g) (p : EvParams) (s : State) : Host.Outcome State Fault Refusal :=
  .next (s.v2gReq n.val "DC_ChargeParameterDiscoveryRes" q (fun s =>
    if s.negotiating n.val then
      let s := s.takeParams n.val p
      s.respond n.val "DC_ChargeParameterDiscoveryRes" 0 [s.r Reg.SESS_RATED_I n.val, s.r Reg.SESS_RATED_V n.val]
    else s.protocolErr n.val "DC_ChargeParameterDiscoveryRes"))

/-- SCHEDULE_EXCHANGE_REQ (R145, R153): one schedule of 86,400 s at the connector rating; LOCK_LS is driven on. A
renegotiation in TRANSFER, and a resumed session, is answered alike. -/
def execScheduleExchangeReq (n : Fin 32) (q : V2g) (s : State) : Host.Outcome State Fault Refusal :=
  .next (s.v2gReq n.val "ScheduleExchangeRes" q (fun s =>
    let vals : List Int := [86400, s.r Reg.ALLOC_RATING 0 n.val]
    if s.sess n.val = 3 ∧ s.r Reg.SESS_SERVICE n.val ≠ 0 then
      ((s.respond n.val "ScheduleExchangeRes" 0 vals).lockDrive n.val true).sessTo n.val 4
    else if s.sess n.val = 7 ∨ (s.sess n.val = 8 ∧ (s.conn n.val).resumed) then s.respond n.val "ScheduleExchangeRes" 0 vals
    else s.protocolErr n.val "ScheduleExchangeRes"))

/-- LOCK_CONFIRMED (R153): the record is opened, and a path is requested. -/
def execLockConfirmed (n : Fin 32) (s : State) : Host.Outcome State Fault Refusal :=
  if s.sess n.val = 4 ∧ 4 ≤ (s.conn n.val).locked then .next (((s.recOpen n.val).askPath n.val).sessTo n.val 5)
  else .next s

/-- LOCK_WAIT_EXPIRY (R153). -/
def execLockWaitExpiry (n : Fin 32) (s : State) : Host.Outcome State Fault Refusal :=
  if s.sess n.val = 4 ∧ s.r Reg.SESS_LOCK_WAIT n.val ≤ s.r Reg.SESS_STATE_TIDES n.val then
    .next ((s.ev Reg.SESS_EVENT 5 n.val).closeEarly n.val 0x706 7)
  else .next s

/-- CABLE_CHECK_REQ (R155): Ongoing until the check passes. -/
def execCableCheckReq (n : Fin 32) (q : V2g) (s : State) : Host.Outcome State Fault Refusal :=
  .next (s.v2gReq n.val "DC_CableCheckRes" q (fun s =>
    let st := s.sess n.val
    if st = 4 ∨ st = 5 ∨ st = 9 ∨ (st = 8 ∧ (s.conn n.val).resumed) then
      s.respond n.val "DC_CableCheckRes" 0 [if (s.conn n.val).isoPass then 0 else 1]
    else s.protocolErr n.val "DC_CableCheckRes"))

/-- CABLE_CHECK_PASS (R155). -/
def execCableCheckPass (n : Fin 32) (s : State) : Host.Outcome State Fault Refusal :=
  if s.sess n.val = 5 ∧ 200 ≤ (s.conn n.val).iso then .next (s.modConn n.val (fun x => { x with isoPass := true }))
  else .next s

/-- CABLE_WAIT_EXPIRY (R153). -/
def execCableWaitExpiry (n : Fin 32) (s : State) : Host.Outcome State Fault Refusal :=
  if s.sess n.val = 5 ∧ s.r Reg.SESS_CABLE_WAIT n.val ≤ s.r Reg.SESS_STATE_TIDES n.val then
    if !s.pathDone n.val then .next (s.stopCause n.val 0x70A 6)
    else if (s.conn n.val).isoPass then .next s
    else .next (s.stopCause n.val 0x708 6)
  else .next s

/-- PRECHARGE_REQ (R156): precharge toward EVTargetVoltage. -/
def execPrechargeReq (n : Fin 32) (q : V2g) (targetV : Nat) (s : State) : Host.Outcome State Fault Refusal :=
  .next (s.v2gReq n.val "DC_PreChargeRes" q (fun s =>
    let st := s.sess n.val
    if st = 5 ∧ (s.conn n.val).isoPass then
      let s := (s.w Reg.SESS_V_TARGET targetV n.val).modConn n.val (fun x => { x with matchOk := false, match_ := 0 })
      (s.sessTo n.val 6).respond n.val "DC_PreChargeRes" 0 [1, s.r Reg.SESS_V_MEAS n.val]
    else if st = 6 then
      let same := decide (s.r Reg.SESS_V_TARGET n.val = targetV)
      let s := s.w Reg.SESS_V_TARGET targetV n.val
      let s := if same then s else s.modConn n.val (fun x => { x with matchOk := false, match_ := 0 })
      s.respond n.val "DC_PreChargeRes" 0 [if (s.conn n.val).matchOk then 0 else 1, s.r Reg.SESS_V_MEAS n.val]
    else if st = 9 ∨ (st = 8 ∧ (s.conn n.val).resumed) then s.respond n.val "DC_PreChargeRes" 0 [1, s.r Reg.SESS_V_MEAS n.val]
    else s.protocolErr n.val "DC_PreChargeRes"))

/-- PRECHARGE_MATCH (R156): the voltage has matched for 4 waves. -/
def execPrechargeMatch (n : Fin 32) (s : State) : Host.Outcome State Fault Refusal :=
  if (s.sess n.val = 6 ∨ s.sess n.val = 8) ∧ 4 ≤ (s.conn n.val).match_ then .next (s.modConn n.val (fun x => { x with matchOk := true }))
  else .next s

/-- PRECHARGE_WAIT_EXPIRY (R153). -/
def execPrechargeWaitExpiry (n : Fin 32) (s : State) : Host.Outcome State Fault Refusal :=
  if s.sess n.val = 6 ∧ s.r Reg.SESS_PRECHARGE_WAIT n.val ≤ s.r Reg.SESS_STATE_TIDES n.val then
    .next ((s.ev Reg.SESS_EVENT 3 n.val).stopCause n.val 0x709 6)
  else .next s

/-- Enter TRANSFER: DIRECTION is set (R162). -/
def State.enterTransfer (s : State) (n : Nat) : State :=
  ((s.w Reg.ALLOC_DIRECTION (s.wantDir n) 0 n).modConn n (fun x => { x with newDir := none })).sessTo n 7

/-- POWER_DELIVERY_REQ (R153). -/
def execPowerDeliveryReq (n : Fin 32) (q : V2g) (k : Progress) (s : State) : Host.Outcome State Fault Refusal :=
  .next (s.v2gReq n.val "PowerDeliveryRes" q (fun s =>
    let ok := fun (s : State) (v : Int) => s.respond n.val "PowerDeliveryRes" 0 [v]
    match s.sess n.val, k with
    | 6, .start => if (s.conn n.val).matchOk ∧ s.pathDone n.val then ok (s.enterTransfer n.val) 0 else ok s 1
    | 7, .standby => ok (s.sessTo n.val 8) 0
    | 7, .renegotiate => ok s 0
    | 8, .start =>
      if s.pathDone n.val then
        if (s.conn n.val).matchOk then ok (s.enterTransfer n.val) 0
        else ok ((s.modConn n.val (fun x => { x with match_ := 0 })).sessTo n.val 6) 1
      else ok ((s.askPath n.val).sessTo n.val 6) 1
    | 5, .stop => ok (s.stopCause n.val 0 5) 0
    | 6, .stop => ok (s.stopCause n.val 0 5) 0
    | 7, .stop => ok (s.stopCause n.val 0 5) 0
    | 8, .stop => ok (s.stopCause n.val 0 5) 0
    | 9, _ => ok s 0
    | _, _ => s.protocolErr n.val "PowerDeliveryRes"))

/-- CHARGE_LOOP_REQ (R164): present values from the metrology engine, 0.1 A and 0.1 V, and the limits. -/
def execChargeLoopReq (n : Fin 32) (q : V2g) (p : EvParams) (s : State) : Host.Outcome State Fault Refusal :=
  .next (s.v2gReq n.val "DC_ChargeLoopRes" q (fun s =>
    let st := s.sess n.val
    if st = 7 ∨ st = 8 ∨ st = 9 then
      let s := if st = 9 then s else s.takeParams n.val p
      let present : List Int := [Int.tdiv (s.ri Reg.MPT_I (dcPoint n.val)) 100, s.r Reg.SESS_V_MEAS n.val]
      let lims : List Int := [s.iLimit n.val, (s.ri Reg.ALLOC_CONNECTED 0 n.val).natAbs]
      s.respond n.val "DC_ChargeLoopRes" 0 (present ++ lims)
    else s.protocolErr n.val "DC_ChargeLoopRes"))

/-- PATH_HOLD_EXPIRY (R157): the path of a paused session is released after PATH_HOLD tides; with PATH_HOLD = 0 once the current
is zero. DEDUCED: the current is zero where I_CMD and the connector current are, the latter within MTX.ZERO_I. -/
def execPathHoldExpiry (n : Fin 32) (s : State) : Host.Outcome State Fault Refusal :=
  let hold := s.r Reg.SESS_PATH_HOLD n.val
  let zero := decide (s.r Reg.SESS_I_CMD n.val = 0 ∧ s.connI n.val ≤ s.r Reg.MTX_ZERO_I)
  if s.sess n.val = 8 ∧ s.pathDone n.val ∧ (if hold = 0 then zero else decide (hold ≤ (s.conn n.val).held)) then
    .next (s.askRelease n.val)
  else .next s

/-- PAUSE_MAX_EXPIRY (R153). -/
def execPauseMaxExpiry (n : Fin 32) (s : State) : Host.Outcome State Fault Refusal :=
  if s.sess n.val = 8 ∧ s.r Reg.SESS_PAUSE_MAX n.val ≤ s.r Reg.SESS_STATE_TIDES n.val then .next (s.stopCause n.val 0x70C 6)
  else .next s

/-- SESSION_STOP_REQ (R157, R158). -/
def execSessionStopReq (n : Fin 32) (q : V2g) (k : StopKind) (s : State) : Host.Outcome State Fault Refusal :=
  let late := decide (9 ≤ s.sess n.val) && q.decodes && !q.failed && decide (q.size ≤ 8192) && (s.conn n.val).tls && s.dialogues
  match late, k with
  | true, .terminate =>
    let s := s.respond n.val "SessionStopRes" 0 []
    .next (s.modConn n.val (fun x => { x with tls := false, app := false, v2g := false, quiet := 0 }))
  | _, _ => .next (s.v2gReq n.val "SessionStopRes" q (fun s =>
      match k with
      | .serviceRenegotiation => s.respond n.val "SessionStopRes" 1 []
      | .pause =>
        if s.sess n.val = 7 ∨ s.sess n.val = 8 then
          let s := if s.sess n.val = 7 then s.sessTo n.val 8 else s
          let s := s.respond n.val "SessionStopRes" 0 []
          s.modConn n.val (fun x => { x with suspended := true, resumed := false, v2g := false })
        else s.protocolErr n.val "SessionStopRes"
      | .terminate => (s.stopAny n.val 0 5).respond n.val "SessionStopRes" 0 []))

/-- WELDING_DETECTION_REQ (R158): the measured voltage. -/
def execWeldingDetectionReq (n : Fin 32) (q : V2g) (s : State) : Host.Outcome State Fault Refusal :=
  .next (s.v2gReq n.val "DC_WeldingDetectionRes" q (fun s =>
    if 9 ≤ s.sess n.val then s.respond n.val "DC_WeldingDetectionRes" 0 [s.r Reg.SESS_V_MEAS n.val]
    else s.protocolErr n.val "DC_WeldingDetectionRes"))

/-- STOPPING_ZERO (R153): the path is released. -/
def execStoppingZero (n : Fin 32) (s : State) : Host.Outcome State Fault Refusal :=
  if s.sess n.val = 9 ∧ s.r Reg.SESS_I_CMD n.val = 0 ∧ 4 ≤ (s.conn n.val).zero then
    .next ((s.askRelease n.val).sessTo n.val 10)
  else .next s

/-- UNLOCK_VOLTAGE_SAFE (R153): the record is closed if it is open, and the lock is released. -/
def execUnlockVoltageSafe (n : Fin 32) (s : State) : Host.Outcome State Fault Refusal :=
  if (s.sess n.val = 11 ∨ s.sess n.val = 12) ∧ 10 ≤ (s.conn n.val).below then
    .next (((s.recClose n.val).lockDrive n.val false).sessGo n.val 13)
  else .next s

/-- UNLOCK_HELD (R170): EVENT bit 6 and the report 0x0710; the session waits. -/
def execUnlockHeld (n : Fin 32) (s : State) : Host.Outcome State Fault Refusal :=
  if (s.sess n.val = 11 ∨ s.sess n.val = 12) ∧ 100 < (s.conn n.val).above then
    .next ((s.ev Reg.SESS_EVENT 6 n.val).emit (.report 0x0710 n.val))
  else .next s

/-- SESSION_RECORD_SIGNED (R165): the oldest closed record whose signature is there is written. -/
def execSessionRecordSigned (s : State) : Host.Outcome State Fault Refusal :=
  match s.session.unsigned.find? (fun no => (Tab.find s.vault.signed no).isSome) with
  | none => .next s
  | some no =>
    let sig := Tab.getD s.vault.signed no []
    let s := s.modVault (fun v => { v with signed := Tab.del v.signed no })
    .next (s.modSession (fun x => { x with
      unsigned := x.unsigned.erase no
      recs := x.recs.map (fun q => if q.no = no then { q with signature := sig } else q) }))

/-- The TCP connection of a vehicle link is gone. -/
def State.tcpGone (s : State) (n : Nat) : State := s.modConn n (fun x => { x with tls := false, app := false })

/-- V2G_SEQUENCE_TIMEOUT (R147). -/
def execV2gSequenceTimeout (n : Fin 32) (s : State) : Host.Outcome State Fault Refusal :=
  if (s.conn n.val).v2g ∧ 6000 ≤ (s.conn n.val).quiet then
    .next (((s.tcpGone n.val).modConn n.val (fun x => { x with v2g := false, quiet := 0 })).stopAny n.val 0x705 3)
  else .next s

/-- The link or the connection of a session is lost: a stop cause of rank 3 but for a suspended session (R157), which also
outranks a stop of rank 4 to 6 of the same wave (R159). -/
def State.linkLost (s : State) (n : Nat) : State :=
  if s.sess n = 8 ∧ (s.conn n).suspended then s.tcpGone n
  else
    let c := s.conn n
    let live := decide (1 ≤ s.sess n ∧ s.sess n ≤ 8) || (decide (s.sess n = 9 ∨ s.sess n = 13) && c.stopped && decide (c.stopWave = s.now))
    let s := (s.tcpGone n).modConn n (fun x => { x with v2g := false })
    if live then (s.ev Reg.SESS_EVENT 4 n).stopAny n 0x704 3 else s

/-- VEHICLE_TCP_CLOSE (R159): before the handshake has completed too. -/
def execVehicleTcpClose (n : Fin 32) (s : State) : Host.Outcome State Fault Refusal :=
  if s.dialogues then .next (s.linkLost n.val) else .next s

/-- PROX_DISCONNECT (R157). -/
def execProxDisconnect (n : Fin 32) (s : State) : Host.Outcome State Fault Refusal :=
  if s.sess n.val = 8 ∧ (s.conn n.val).suspended ∧ 4 ≤ (s.conn n.val).proxGone then
    .next ((s.ev Reg.SESS_EVENT 4 n.val).stopCause n.val 0x704 3)
  else .next s

/-- HOST_STOP (R159): the applied STOP returns to 0. -/
def execHostStop (n : Fin 32) (s : State) : Host.Outcome State Fault Refusal :=
  if s.rb Reg.SESS_STOP n.val then
    let s := s.w Reg.SESS_STOP 0 n.val
    if s.sess n.val = 9 then .next s else .next (s.stopAny n.val 1 4)
  else .next s

/-- REC_ACK (R168): the acceptance of a write of SESS[32].REC_ACK. -/
def execRecAck (e : Env) (value : Nat) (s : State) : Host.Outcome State Fault Refusal :=
  if !s.serving then .next s
  else .next (s.serve e 1 false false (fun s _ =>
    let now := s.rWith s.command.ri Reg.SESSX_REC_ACK
    if 4294967296 ≤ value then ({ result := 0x1901 }, s)
    else if s.r Reg.SESSX_REC_NEWEST < value ∨ value < now then ({ result := 0x712 }, s)
    else ({ apply := some s.applyTide }, s.queueRi ⟨Reg.SESSX_REC_ACK.addr 0 0 0, Reg.SESSX_REC_ACK.lo, value⟩)))

/-- RECORD_READ (R448): the record, or its OCMF text. -/
def execRecordRead (e : Env) (no : Nat) (ocmf : Bool) (s : State) : Host.Outcome State Fault Refusal :=
  if !s.serving then .next s
  else .next (s.serve e 0 true false (fun s _ =>
    match s.session.recs.find? (fun q => decide (q.no = no)) with
    | none => ({ result := Config.noRecord.toNat + 1 }, s)
    | some q =>
      if !ocmf then ({ data := byteData q.bytes }, s)
      else if q.flags.getLsbD 6 then ({ result := Config.noRecord.toNat + 1 }, s)
      else ({ data := byteData (textBytes (ocmfText s.serial q)) }, s)))

/-! ## Group cuts and the ends of releases -/

/-- SOUT_GROUP_CUT (R134, R153): the matrix acts, and the sessions of the group enter FAULTED. -/
def execSoutGroupCut (g : Fin 16) (s : State) : Host.Outcome State Fault Refusal :=
  if s.running ∧ s.groupReadsCut g.val then
    let s := s.matrixCut g.val
    .next (s.each 32 (fun n s => if s.energised n && s.connCut n then s.sessCut n else s))
  else .next s

/-- OPEN_WAIT_EXPIRY (R130): abort 0x0503; a session whose release it was enters FAULTED. -/
def execOpenWaitExpiry (m : Fin 8) (s : State) : Host.Outcome State Fault Refusal := .next (s.openWaitExpiry m.val).sessWelds

/-- WELD_CONFIRM_DONE (R130): the mirror has read open for WELD_CONFIRM waves; a session whose release is DONE unlocks. -/
def execWeldConfirmDone (m : Fin 8) (s : State) : Host.Outcome State Fault Refusal := .next (s.weldConfirmDone m.val).sessWelds

end Sys2Proof.Machine
end

