-- ==== Sys2Proof/Machine/Tamper.lean ====
section
/-! DEFINITION. Tamper classes and seals (R294 to R297, R330 to R333), and the events of metering that raise one. -/
namespace Sys2Proof.Machine

set_option cleanup.letToHave false

/-- Show which classes are sealed. -/
def State.sealRefresh (s : State) : State :=
  s.w Reg.TAMPX_SEALED_MASK ((List.range 16).foldl (fun v c => if s.rb Reg.TAMP_SEALED c then v + 2 ^ c else v) 0)

/-- Ask for the write of a class's record (R328). -/
def State.tamperSave (s : State) (c : Nat) : State := s.queueRec .other (.tamper c)

/-- The read-only fields of a class (Table 9.11), in its order. -/
def tamperFields : List Fld :=
  [Reg.TAMP_COUNT, Reg.TAMP_FIRST_LO, Reg.TAMP_FIRST_HI, Reg.TAMP_LAST_LO, Reg.TAMP_LAST_HI, Reg.TAMP_ACTIVE, Reg.TAMP_SEALED,
   Reg.TAMP_SEAL_CLEARS]

/-- The record of a class is complete: the legal store holds its fields. -/
def State.tamperStored (s : State) (c : Nat) : State :=
  (s.billRecord (16 + c) s.tide 0).modBill (fun b => { b with tampers := Tab.put b.tampers c (tamperFields.map (fun f => s.r f c)) })

/-- A class shows what its record in the legal store holds. -/
def State.tamperRestore (s : State) (c : Nat) : State :=
  let l := Tab.getD s.bill.tampers c []
  (s.over tamperFields.zipIdx (fun x s => s.w x.1 (l.getD x.2 0) c)).sealRefresh

/-- Events of a class with given count and times (TAMPER_EVENT, R294 to R296): the class record, and the response. -/
def State.tamperEvents (s : State) (c count first last : Nat) : State :=
  if count = 0 then s
  else
    let s := if s.r Reg.TAMP_COUNT c = 0 then s.w64 Reg.TAMP_FIRST_LO Reg.TAMP_FIRST_HI first c else s
    let s := s.w Reg.TAMP_COUNT (min 4294967295 (s.r Reg.TAMP_COUNT c + count)) c
    let s := (s.w64 Reg.TAMP_LAST_LO Reg.TAMP_LAST_HI last c).ev Reg.TAMPX_EVENT c
    let s := match s.r Reg.TAMP_RESPONSE c with
      | 1 => ((s.w Reg.TAMP_SEALED 1 c).sealRefresh).w Reg.PROF_IV_STATUS (s.r Reg.PROF_IV_STATUS ||| 0x40)
      | 2 => if c < 8 then s.eraseLedge.w Reg.TAMPX_ERASED 1 else s
      | _ => s
    s.tamperSave c

/-- One event of a class now. -/
def State.tamperEvent (s : State) (c : Nat) : State := s.tamperEvents c 1 s.rtc s.rtc

/-- A condition arises: one event; while it stands none. -/
def State.tamperArise (s : State) (c : Nat) (present : Bool) : State :=
  if present && !s.rb Reg.TAMP_ACTIVE c then (s.w Reg.TAMP_ACTIVE 1 c).tamperEvent c
  else s.wb Reg.TAMP_ACTIVE present c

/-- The conditions of the classes that are no inputs and stand for a time: 8, 11, 13. -/
def State.tamperTide (s : State) : State :=
  let s := s.wb Reg.TAMP_ACTIVE ((List.range 8).any (fun p => (Tab.getD s.meter.ac p {}).neutral)) 8
  let s := s.wb Reg.TAMP_ACTIVE s.ebbLatched 11
  let s := s.wb Reg.TAMP_ACTIVE (!s.rb Reg.BILL_RTC_VALID) 9
  s.wb Reg.TAMP_ACTIVE (!s.bill.locked.isEmpty) 13

/-- A TAMP input that becomes active while the firmware does not run (R295, R296, R330): the ledge domain keeps its count, first
and last time, and an ERASE response acts at once. -/
def State.tamperLedge (s : State) (c ms : Nat) : State :=
  let t := s.rtc + ms
  let s := s.modBill (fun b => { b with ledge := Tab.upd b.ledge c (0, t, t) (fun x => (x.1 + 1, x.2.1, t)) })
  if s.r Reg.TAMP_RESPONSE c = 2 then s.eraseLedge.w Reg.TAMPX_ERASED 1 else s

/-- TAMPER_INPUT_ACTIVE (R295): an enabled input is sampled twice at a level, the one that TAMP_POL selects; `ms` is the time of
the oscillator since the logic die stopped, where it does not run. -/
def execTamperInputActive (c : Fin 8) (level : Bool) (ms : Nat) (s : State) : Host.Outcome State Fault Refusal :=
  let c := c.val
  if !s.rb Reg.TAMP_TAMP_EN c ∨ level ≠ s.rb Reg.TAMP_TAMP_POL c then .next s
  else if s.alive ∨ s.phase = .retired ∨ s.phase = .strand then .next (s.tamperArise c true)
  else if s.rb Reg.TAMP_ACTIVE c then .next s
  else .next ((s.w Reg.TAMP_ACTIVE 1 c).tamperLedge c ms)

/-- TAMPER_INPUT_INACTIVE (R295): two samples at the other level. -/
def execTamperInputInactive (c : Fin 8) (level : Bool) (s : State) : Host.Outcome State Fault Refusal :=
  if s.rb Reg.TAMP_TAMP_EN c.val ∧ level ≠ s.rb Reg.TAMP_TAMP_POL c.val then .next (s.w Reg.TAMP_ACTIVE 0 c.val) else .next s

/-- SEAL_CLR (R297): the applied 1 clears the seal and returns to 0. -/
def execSealClr (c : Fin 16) (s : State) : Host.Outcome State Fault Refusal :=
  if s.rb Reg.TAMP_SEAL_CLR c.val then
    let s := s.w Reg.TAMP_SEAL_CLR 0 c.val
    if s.rb Reg.TAMP_SEALED c.val then .next (((s.w Reg.TAMP_SEALED 0 c.val).inc Reg.TAMP_SEAL_CLEARS c.val).sealRefresh.tamperSave c.val)
    else .next s
  else .next s

/-- NEUTRAL_SET (R244): 50 consecutive cycles over NEUTRAL_TOL; tamper class 8. -/
def execNeutralSet (p : Fin 8) (s : State) : Host.Outcome State Fault Refusal :=
  if 50 ≤ (s.acI p.val).beyond ∧ !(s.acI p.val).neutral then
    let s := s.modAc p.val (fun x => { x with neutral := true })
    let s := (s.wbit Reg.MPT_IV_FLAGS 6 true p.val).ev Reg.MPT_EVENT 4 p.val
    .next ((s.w Reg.TAMP_ACTIVE 1 8).tamperEvent 8)
  else .next s

/-- EBB_WARNING (R261): in RUN the warning is latched with its source (bit 0 EBB_N, bit 1 the VIO33 monitor); snapshot 1
is due after the last sample of the wave; tamper class 11 follows. -/
def execEbbWarning (source : BitVec 2) (s : State) : Host.Outcome State Fault Refusal :=
  let s := if source.getLsbD 0 then s.modPins (fun p => { p with ebb := true }) else s
  if !s.running ∨ s.ebbLatched ∨ source = 0 then .next s
  else
    let s := s.modMeter (fun m => { m with ebb := some s.now, ebbSource := source.toNat, snaps := 0, snapDue := true, highFor := 0, resume := false })
    .next (((s.inc Reg.MET_EBB_EVENTS).w Reg.TAMP_ACTIVE 1 11).tamperEvent 11)

end Sys2Proof.Machine
end

