-- ==== Sys2Proof/Machine/Bill.lean ====
section
/-! DEFINITION. Wall-clock time, the tariff calendar, intervals, demand, billing periods, the profile, and the boundary
journal (chapter 9, R318 to R325). -/
namespace Sys2Proof.Machine

set_option cleanup.letToHave false

/-! ## Wall-clock time (R270 to R275) -/

/-- Set the RTC. -/
def State.setRtc (s : State) (v : Nat) : State := s.w64 Reg.BILL_RTC_LO Reg.BILL_RTC_HI v

/-- The high-water mark. -/
def State.hwm (s : State) : Nat := s.r64 Reg.BILL_HWM_LO Reg.BILL_HWM_HI

/-- The RTC reaches a time: HWM follows. -/
def State.hwmUp (s : State) : State := if s.hwm < s.rtc then s.w64 Reg.BILL_HWM_LO Reg.BILL_HWM_HI s.rtc else s

/-- TIME_STATUS, LOCAL_OFFSET and DST of the moment (R270, R275). -/
def State.timeRefresh (s : State) : State :=
  let st := if !s.rb Reg.BILL_RTC_VALID then 0x55
    else if s.r Reg.BILL_LAST_SYNC ≠ 0 ∧ s.rtcS - s.r Reg.BILL_LAST_SYNC ≤ s.r Reg.BILL_SYNC_AGE then 0x53 else 0x49
  let (o, d) := s.offsetAt s.rtc
  let s := ((s.w Reg.BILL_TIME_STATUS st).wi Reg.BILL_LOCAL_OFFSET o).wb Reg.BILL_DST d
  if st = 0x55 then s.w Reg.PROF_IV_STATUS (s.r Reg.PROF_IV_STATUS ||| 0x20) else s

/-- The ledge-domain oscillator counts `ms` milliseconds, with the slew that is due (R272). -/
def State.rtcRun (s : State) (ms : Nat) : State :=
  let s := s.modBill (fun b => { b with hwmWas := s.hwm })
  let left := s.ri Reg.BILL_SLEW_LEFT
  let ns := s.bill.slewNs + (if left = 0 then 0 else ms * s.r Reg.BILL_SLEW_PPM)
  let k := min (ns / 1000000) left.natAbs
  let d : Int := if left < 0 then -(k : Int) else k
  let s := s.wi Reg.BILL_SLEW_LEFT (left - d)
  let s := s.modBill (fun b => { b with slewNs := if left - d = 0 then 0 else ns - k * 1000000 })
  (s.setRtc ((s.rtc + ms : Nat) + d).toNat).hwmUp

/-- Enter a step in the step log; entry 0 is the newest (R273, R308). -/
def State.stepLog (s : State) (old new src : Nat) : State :=
  let s := s.each 63 (fun i s =>
    let k := 63 - i
    let s := (s.w Reg.BILL_STEP_OLD (s.r Reg.BILL_STEP_OLD 0 (k - 1)) 0 k).w Reg.BILL_STEP_NEW (s.r Reg.BILL_STEP_NEW 0 (k - 1)) 0 k
    (s.w Reg.BILL_STEP_SRC (s.r Reg.BILL_STEP_SRC 0 (k - 1)) 0 k).w Reg.BILL_STEP_TIDE (s.r Reg.BILL_STEP_TIDE 0 (k - 1)) 0 k)
  let s := ((s.w Reg.BILL_STEP_OLD (old / 1000)).w Reg.BILL_STEP_NEW (new / 1000)).w Reg.BILL_STEP_SRC src
  (s.w Reg.BILL_STEP_TIDE s.tide).inc Reg.BILL_STEPS

/-- RTC_STEP (R273). -/
def State.rtcStep (s : State) (d : Int) (src : Nat) : State :=
  let old := s.rtc
  let new := ((old : Int) + d).toNat
  let src := if s.rb Reg.BILL_RTC_VALID then src else 3
  let s := ((s.setRtc new).w Reg.BILL_SLEW_LEFT 0).modBill (fun b => { b with slewNs := 0 })
  let s := (s.w Reg.BILL_RTC_VALID 1).stepLog old new src
  let s := (s.tamperEvent 10).ev Reg.BILL_EVENT (if 0 ≤ d then 0 else 1)
  let s := s.modSession (fun x => { x with recs := x.recs.map (fun q => if q.flags.getLsbD 6 then { q with flags := q.flags ||| 8 } else q) })
  let s := if s.bill.open_ then s.wbit Reg.BILLP_P_FLAGS 1 true 0 else s
  (s.w Reg.BILL_LAST_SYNC s.rtcS).hwmUp

/-- TIME_ADJUSTMENT, step 3 of a boundary (R271): answers the outcome 0 = none, 1 = slew, 2 = forward step, 3 = backward
step. An ebb warning defers it (R327). DEDUCED: a tide in which 802.1AS is synchronised counts as a correction (R270) only where
TIME_SRC takes that time. -/
def State.timeAdjust (s : State) (asMs : Nat) : Nat × State :=
  if s.ebbLatched then (0, s)
  else
    let synced := decide (s.r Reg.BILL_TIME_SRC = 1) && s.rb Reg.TSNX_AS_SYNC
    let go := s.rb Reg.BILL_SET_GO
    let s := s.w Reg.BILL_SET_GO 0
    if !synced && !go then (0, s)
    else
      let d : Int := if synced then (asMs : Int) - s.rtc else (s.r64 Reg.BILL_SET_LO Reg.BILL_SET_HI : Int) - s.bill.setAt
      if !s.rb Reg.BILL_RTC_VALID ∨ s.r Reg.BILL_ADJ_LIMIT < d.natAbs then
        (if 0 ≤ d then 2 else 3, s.rtcStep d (if synced then 1 else 2))
      else
        let s := s.w Reg.BILL_LAST_SYNC s.rtcS
        if d.natAbs ≤ 2 then (0, s)
        else (1, (s.wi Reg.BILL_SLEW_LEFT d).modBill (fun b => { b with slewNs := 0 }))

/-- A command time lies in the range of R271. -/
def setInRange (ms : Nat) : Bool := decide (1704067200000 ≤ ms ∧ ms ≤ 4291747199000)

/-- A SET_GO write is refused (R271). -/
def State.setRefused (s : State) (set : Nat) : Bool :=
  (decide (s.r Reg.BILL_TIME_SRC = 1) && s.rb Reg.TSNX_AS_SYNC) || !setInRange set

/-- TIME_SET (R271): the acceptance of a write of SET and SET_GO = 1; it is applied at the next boundary. -/
def execTimeSet (e : Env) (set : Nat) (s : State) : Host.Outcome State Fault Refusal :=
  if !s.serving then .next s
  else .next (s.serve e 1 false false (fun s _ =>
    if s.setRefused set then ({ result := 0x0E02 }, s.ev Reg.BILL_EVENT 3)
    else
      let s := s.modBill (fun b => { b with setAt := s.rtc })
      let s := s.queueRi ⟨Reg.BILL_SET_LO.addr 0 0 0, 0, set % 4294967296⟩
      let s := s.queueRi ⟨Reg.BILL_SET_HI.addr 0 0 0, 0, set / 4294967296⟩
      ({ apply := some s.applyTide }, s.queueRi ⟨Reg.BILL_SET_GO.addr 0 0 0, 0, 1⟩)))

/-! ## The tariff calendar (R276, R277) -/

/-- The day type of a weekday in a season's week profile. -/
def State.weekType (s : State) (season wd : Nat) : Nat := s.r Reg.BILL_SEA_WEEK 0 season / 2 ^ (3 * wd) % 8

/-- The latest-starting of some seasons. -/
def State.latestSeason (s : State) (l : List Nat) : Option Nat :=
  let key := fun i => s.r Reg.BILL_SEA_MONTH 0 i * 32 + s.r Reg.BILL_SEA_DAY 0 i
  l.foldl (fun x i => match x with
    | none => some i
    | some y => if key y < key i then some i else some y) none

/-- Day type, season and rate at a UTC time in ms. -/
def State.tariffAt (s : State) (ms : Nat) : Nat × Nat × Nat :=
  let m := s.localMinutes ms
  let days := m / 1440
  let d := dateOf days
  let minute := (m % 1440).toNat
  let valid := (List.range 4).filter (fun i => s.rb Reg.BILL_SEA_VALID 0 i)
  let before := valid.filter (fun i => decide (s.r Reg.BILL_SEA_MONTH 0 i * 32 + s.r Reg.BILL_SEA_DAY 0 i ≤ d.m * 32 + d.d))
  let season := s.latestSeason (if before.isEmpty then valid else before)
  let special := (List.range 32).find? (fun i => s.rb Reg.BILL_SPC_VALID 0 i &&
    decide (s.r Reg.BILL_SPC_MONTH 0 i = d.m ∧ s.r Reg.BILL_SPC_DAY 0 i = d.d) &&
    decide (s.r Reg.BILL_SPC_YEAR 0 i = 0 ∨ (s.r Reg.BILL_SPC_YEAR 0 i : Int) = d.y))
  let type := match special, season with
    | some i, _ => some (s.r Reg.BILL_SPC_TYPE 0 i)
    | none, some k => some (s.weekType k (weekday days))
    | none, none => none
  match type with
  | none => (0, 0, 0)
  | some t =>
    let l := (List.range 64).filter (fun i => s.rb Reg.BILL_SW_VALID 0 i &&
      decide (s.r Reg.BILL_SW_TYPE 0 i = t ∧ s.r Reg.BILL_SW_MINUTE 0 i ≤ minute))
    let best := l.foldl (fun x i => match x with
      | none => some i
      | some y => if s.r Reg.BILL_SW_MINUTE 0 y < s.r Reg.BILL_SW_MINUTE 0 i then some i else some y) none
    (t, season.getD 0, match best with | some i => s.r Reg.BILL_SW_RATE 0 i | none => 0)

/-- A calendar with a list of changes taken as in force passes R276. -/
def State.calendarOk (s : State) (l : List PendingField) : Bool :=
  let r := fun (f : Fld) i => s.rWith l f 0 i
  let seasons := (List.range 4).filter (fun i => decide (r Reg.BILL_SEA_VALID i ≠ 0))
  let specials := (List.range 32).filter (fun i => decide (r Reg.BILL_SPC_VALID i ≠ 0))
  let types := seasons.flatMap (fun i => (List.range 7).map (fun w => r Reg.BILL_SEA_WEEK i / 2 ^ (3 * w) % 8)) ++
    specials.map (fun i => r Reg.BILL_SPC_TYPE i)
  let zero := (List.range 64).filter (fun i => decide (r Reg.BILL_SW_VALID i ≠ 0 ∧ r Reg.BILL_SW_MINUTE i = 0))
  types.all (fun t => zero.any (fun i => decide (r Reg.BILL_SW_TYPE i = t))) &&
    seasons.all (fun i => seasons.all (fun k => decide (i = k) ||
      !decide (r Reg.BILL_SEA_MONTH i = r Reg.BILL_SEA_MONTH k ∧ r Reg.BILL_SEA_DAY i = r Reg.BILL_SEA_DAY k))) &&
    (List.range 64).all (fun i => decide (r Reg.BILL_SW_VALID i = 0) || decide (r Reg.BILL_SW_MINUTE i % 15 = 0))

/-! ## Intervals and periods (R279 to R286) -/

/-- The next multiple of `k` ms after a time. -/
def nextMultiple (k t : Nat) : Nat := (t / k + 1) * k

/-- The first quarter-hour, among `k` of them, at which the local date has become a day that it was not before. -/
def State.dayStart (s : State) (day : Int) : Nat → Int → Option Int
  | 0, _ => none
  | k + 1, u =>
    let localDay := fun (v : Int) => s.localMinutes (v * 60000).toNat / 1440
    if localDay u = day ∧ localDay (u - 1) < day then some u else State.dayStart s day k (u + 15)

/-- The end of a billing period that starts at a time in ms (R284). -/
def State.periodEndAfter (s : State) (t : Nat) : Nat :=
  let day := s.localMinutes t / 1440
  let d := dateOf day
  let bd := s.r Reg.BILL_BILL_DAY
  let target := if d.d < bd then dayOf d.y d.m bd else if d.m = 12 then dayOf (d.y + 1) 1 bd else dayOf d.y (d.m + 1) bd
  let std := s.ri Reg.BILL_STD_OFFSET
  let dst : Int := s.r Reg.BILL_DST_OFFSET
  let u := (s.dayStart target (s.r Reg.BILL_DST_OFFSET / 15 + 1) (target * 1440 - std - dst)).getD (target * 1440 - std)
  (u * 60000).toNat

/-- The ends of the periods that have passed at a time, and the end of the period that is open then. -/
def State.periodEnds (s : State) (now : Nat) : Nat → Nat → List Nat × Nat
  | 0, e => ([], e)
  | k + 1, e =>
    if e ≤ now then
      let (l, f) := State.periodEnds s now k (s.periodEndAfter e)
      (e :: l, f)
    else ([], e)

/-- ACC of every register of every enabled point. -/
def State.closing (s : State) : Tab Nat :=
  s.points.flatMap (fun p => (List.range (if p < 8 then 7 else 2)).map (fun r => (p * 16 + r, s.acc p r)))

/-- Length of a demand sub-interval in ms: a profile interval in block mode, 3 min in sliding mode. -/
def subLength (mode : Nat) : Nat := if mode = 1 then 180000 else 900000

/-- IV_STATUS of an interval that opens at a time, REPEATED or not (R280, R290). -/
def State.ivStatusAt (s : State) (start : Nat) (repeated : Bool) : Nat :=
  (if start % 900000 = 0 then 0 else 1) + (if repeated then 2 else 0) + (if s.r Reg.BILL_TIME_STATUS = 0x55 then 0x20 else 0) +
    (if s.r Reg.TAMPX_SEALED_MASK ≠ 0 then 0x40 else 0)

/-- The billing work due at a boundary (R318), with what its steps take: `adj` is the outcome of step 3, `old` the RTC
before it; `atRun` says that this is the first boundary of RUN (R289). -/
def State.billPlan (s : State) (adj old : Nat) (atRun : Bool) : Option BndRec :=
  let b := s.bill
  let rtc := s.rtc
  let step := decide (adj = 2 ∨ adj = 3)
  let fresh := !b.open_
  let iv := !fresh && (step || decide (b.ivEnd ≤ rtc))
  let sub := !fresh && (iv || decide (b.subEnd ≤ rtc))
  let pEnd := s.r64 Reg.BILLP_END_LO Reg.BILLP_END_HI
  let (ends, after) := if fresh then ([], s.periodEndAfter rtc) else if adj = 3 then ([], pEnd) else s.periodEnds rtc 1300 pEnd
  let per := !ends.isEmpty
  let closeAt := if step then (if atRun then min old b.ivEnd else old) else b.ivEnd
  let subAt := if step then (if atRun then min old b.subEnd else old) else b.subEnd
  let gap := (adj = 2) || (atRun && iv && decide (closeAt < rtc))
  let startNew := if fresh || step || (atRun && iv) then rtc else if iv then closeAt else b.ivStart
  let subNew := if fresh || step || atRun then rtc else if iv then startNew else subAt
  let (dt, sea, rate) := if iv || fresh then s.tariffAt rtc else (s.r Reg.BILL_DAY_TYPE, s.r Reg.BILL_SEASON, s.r Reg.BILL_RATE)
  let plan := (if sub then 1 else 0) + (if iv then 2 else 0) + (if per then 4 else 0) + (if iv || fresh then 8 else 0) +
    (if sub || per || fresh then 16 else 0)
  if plan = 0 ∨ !s.legalStore then none
  else some {
    plan := plan, adj := adj, seq := b.seq + 1, tide := s.tide, rtcOld := old, rtcNew := rtc
    rateOld := s.r Reg.BILL_RATE, rateNew := rate, mode := b.mode
    ivStatus := s.r Reg.PROF_IV_STATUS % 128 ||| (if step then 1 else 0) ||| (if s.r Reg.BILL_TIME_STATUS = 0x49 then 0x10 else 0)
    ivEnd := if iv || fresh then nextMultiple 900000 startNew else b.ivEnd
    periodEnd := if per || fresh then after else 0
    acc := s.closing, flags := s.points.map (fun p => (p, s.r Reg.MPT_IV_FLAGS p))
    slot := b.slot, marks := 0
    closeAt := closeAt, subAt := subAt, subSplit := step || (atRun && sub)
    gap := if gap && iv then some rtc else none, stepGap := step
    ends := ends, startNew := startNew, subNew := subNew
    modeNew := if iv || fresh then s.r Reg.BILL_DEMAND_MODE else b.mode
    dayType := dt, season := sea
    repeated := decide (startNew < if startNew = rtc then s.hwm else b.hwmWas) }

/-! ## The journal (R320, R321) -/

/-- The base of a journal slot. -/
def journalSlot (k : Nat) : Nat := 0x05FF6000 + 0x800 * k

/-- The 1,920 bytes of a boundary record (Table 10.2). -/
def BndRec.bytes (q : BndRec) : List Byte :=
  let head := leBytes 4 0x31444E42 ++ leBytes 2 1 ++ leBytes 1 q.plan ++ leBytes 1 q.adj ++ leBytes 8 q.seq ++ leBytes 8 q.tide ++
    leBytes 8 q.rtcOld ++ leBytes 8 q.rtcNew ++ leBytes 1 q.rateOld ++ leBytes 1 q.rateNew ++ leBytes 1 q.mode ++ leBytes 1 q.ivStatus ++
    leBytes 4 q.ends.length ++ leBytes 8 q.ivEnd ++ leBytes 8 q.periodEnd
  let ac := (List.range 56).flatMap (fun k => leBytes 8 (Tab.getD q.acc (k / 7 * 16 + k % 7) 0))
  let dc := (List.range 64).flatMap (fun k => leBytes 8 (Tab.getD q.acc ((8 + k / 2) * 16 + k % 2) 0))
  let fl := (List.range 40).flatMap (fun i => leBytes 2 (Tab.getD q.flags i 0))
  let body := head ++ ac ++ dc ++ fl ++ List.replicate 812 0
  body ++ leBytes 4 (crc32c body).toNat

/-- A step mark (Table 10.3). -/
def markBytes (seq tide done closed wofs oofs : Nat) : List Byte :=
  let body := leBytes 4 0x314B4D42 ++ leBytes 4 seq ++ leBytes 4 (tide % 4294967296) ++ leBytes 1 done ++ List.replicate 3 0 ++
    leBytes 4 closed ++ leBytes 4 wofs ++ leBytes 4 oofs ++ List.replicate 32 0
  body ++ leBytes 4 (crc32c body).toNat

/-- Write the next mark of a boundary record: marks alternate between the two blocks of the slot. -/
def State.mark (s : State) (q : BndRec) (done closed : Nat) : State × BndRec :=
  (s.mwrite (journalSlot q.slot + 1920 + 64 * (q.marks % 2))
    (markBytes q.marks q.tide done closed (s.r Reg.PROF_WRITE_OFS) (s.r Reg.PROF_OLDEST_OFS)), { q with marks := q.marks + 1, done := done })

/-- A boundary record is complete with its MARK_0, in the slot that does not hold the newest (R320, R321): its steps may run. -/
def State.journalDone (s : State) (q : BndRec) : State :=
  let q := { q with seq := s.bill.seq + 1, slot := 1 - s.bill.slot }
  let s := s.mwrite (journalSlot q.slot) q.bytes
  let (s, q) := s.mark q 3 0
  s.modBill (fun b => { b with seq := q.seq, slot := q.slot, journal := b.journal ++ [q] })

/-! ## Step 4: demand (R281 to R283) -/

/-- The closing reading of a register in a boundary record, Wh. -/
def BndRec.read (q : BndRec) (p r : Nat) : Nat := Tab.getD q.acc (p * 16 + r) 0 / 1000000

/-- The readings of import and export of every point. -/
def BndRec.reads (q : BndRec) : Tab Nat := q.acc.map (fun x => (x.1, x.2 / 1000000))

/-- A maximum demand of the open period. -/
def State.maxDemand (s : State) (v t : Fld) (p d tS : Nat) : State :=
  if s.r v 0 p < d then (s.w v d 0 p).w t tS 0 p else s

/-- Form the demand of the window, or none. -/
def State.stepDemand (s : State) (q : BndRec) : State :=
  let b := s.bill
  let bad := b.spoilt || q.subSplit
  let subs := if q.mode = 1 then (if bad then [] else (q.reads :: b.subs).take 6) else []
  let start : Option (Tab Nat) := if bad then none else if q.mode = 1 then subs[5]? else some b.openRead
  let held := if q.mode = 1 then min 5 (subs.length - 1) else if bad then 0 else 1
  let s := s.over s.points (fun p s =>
    let s := (s.wb Reg.PROF_DEM_VALID start.isSome 0 p).w Reg.PROF_DEM_SUBS held 0 p
    match start with
    | none => s
    | some t =>
      let imp := 4 * (q.read p 0 - Tab.getD t (p * 16) 0)
      let exp := 4 * (q.read p 1 - Tab.getD t (p * 16 + 1) 0)
      let tS := q.subAt / 1000
      let s := ((s.w Reg.PROF_DEM_IMP imp 0 p).w Reg.PROF_DEM_EXP exp 0 p).w Reg.PROF_DEM_T tS 0 p
      (s.maxDemand Reg.BILLP_MAXD_IMP Reg.BILLP_MAXD_IMP_T p imp tS).maxDemand Reg.BILLP_MAXD_EXP Reg.BILLP_MAXD_EXP_T p exp tS)
  ((s.modBill (fun b => { b with subs := subs })).billRecord 0 q.tide 4).billRecord 1 q.tide 4

/-! ## Step 5: the profile (R285, R290, R291) -/

/-- Bytes of the profile region. -/
def profSize : Nat := 0x01C00000
/-- Base of the profile region. -/
def profBase : Nat := 0x04000000

/-- The entries of one record: `delta` gives the deltas, `status` the STATUS of every entry. -/
def profEntries (pts : List Nat) (endS status : Nat) (flags : Nat → Nat) (delta : Nat → Nat → Nat) : List Byte :=
  let entry := fun (first : Bool) p =>
    leBytes 4 endS ++ leBytes 1 p ++ leBytes 1 (status % 128 + (if first then 128 else 0)) ++ leBytes 2 (flags p) ++
      (List.range (if p < 8 then 6 else 2)).flatMap (fun r => leBytes 4 (delta p r))
  let body := pts.zipIdx.flatMap (fun x => entry (decide (x.2 = 0)) x.1)
  let dc := (pts.filter (fun p => decide (8 ≤ p))).length
  if dc % 2 = 1 then body ++ (leBytes 4 0 ++ [0xFF] ++ List.replicate 11 0) else body

/-- The next offset after an entry. -/
def State.entryAfter (s : State) (ofs : Nat) : Nat :=
  (ofs + (if (memRead s.mem (profBase + ofs + 4)).toNat < 8 then 32 else 16)) % profSize

/-- The first entry of the record after one: the next entry with STATUS bit 7, or the write offset. -/
def State.recordAfter (s : State) : Nat → Nat → Nat
  | 0, ofs => ofs
  | k + 1, ofs =>
    if ofs = s.r Reg.PROF_WRITE_OFS ∨ (memRead s.mem (profBase + ofs + 5)).getLsbD 7 then ofs else State.recordAfter s k (s.entryAfter ofs)

/-- Discard oldest records that a record of `len` bytes would overwrite. -/
def State.profRoom (s : State) (len : Nat) : Nat → State
  | 0 => s
  | k + 1 =>
    let o := s.r Reg.PROF_OLDEST_OFS
    if s.r Reg.PROF_RECORDS ≠ 0 ∧ (o + profSize - s.r Reg.PROF_WRITE_OFS) % profSize < len then
      let s := (s.w Reg.PROF_OLDEST_OFS (s.recordAfter 48 (s.entryAfter o))).dec Reg.PROF_RECORDS
      State.profRoom ((s.inc Reg.PROF_DISCARDED).ev Reg.PROF_EVENT 1) len k
    else s

/-- Append a record to the ring. -/
def State.profAppend (s : State) (bytes : List Byte) (noData : Bool) : State :=
  if bytes.isEmpty then s
  else
    let len := bytes.length
    let s := s.profRoom len 49
    let w := s.r Reg.PROF_WRITE_OFS
    let head := bytes.take (profSize - w)
    let s := (s.mwrite (profBase + w) head).mwrite profBase (bytes.drop (profSize - w))
    let s := (s.w Reg.PROF_WRITE_OFS ((w + len) % profSize)).inc Reg.PROF_RECORDS
    let s := (s.w Reg.PROF_REC_LEN len).ev Reg.PROF_EVENT 0
    if noData then s.ev Reg.PROF_EVENT 2 else s

/-- Close the profile interval: its energy to the old rate, its record, and the no-data records of the span. DESIGN CHOICE: a
no-data entry carries IV_FLAGS 0, and the time status and seal of the boundary. -/
def State.stepProfile (s : State) (q : BndRec) : State :=
  let pts := s.points
  let old := s.bill.openRead
  let delta := fun p r => q.read p r - Tab.getD old (p * 16 + r) 0
  let s := s.over pts (fun p s =>
    let i := s.r64 Reg.BILLP_RIMP_LO Reg.BILLP_RIMP_HI 0 p q.rateOld
    let e := s.r64 Reg.BILLP_REXP_LO Reg.BILLP_REXP_HI 0 p q.rateOld
    (s.w64 Reg.BILLP_RIMP_LO Reg.BILLP_RIMP_HI (i + delta p 0) 0 p q.rateOld).w64 Reg.BILLP_REXP_LO Reg.BILLP_REXP_HI (e + delta p 1) 0 p q.rateOld)
  let s := if bit q.ivStatus 1 then s.wbit Reg.BILLP_P_FLAGS 0 true 0 else s
  let s := if pts.any (fun p => bit (Tab.getD q.flags p 0) 0) then s.wbit Reg.BILLP_P_FLAGS 4 true 0 else s
  let s := s.profAppend (profEntries pts (q.closeAt / 1000) q.ivStatus (fun p => Tab.getD q.flags p 0) delta) false
  let s := match q.gap with
    | none => s
    | some t =>
      let cuts := (q.ends.filter (fun e => decide (q.closeAt < e ∧ e < t))) ++ [t]
      let status := 4 + (if q.stepGap then 8 else 0) + (if s.r Reg.BILL_TIME_STATUS = 0x49 then 16 else 0) +
        (if s.r Reg.BILL_TIME_STATUS = 0x55 then 32 else 0) + (if s.r Reg.TAMPX_SEALED_MASK ≠ 0 then 64 else 0)
      s.over cuts (fun e s => s.profAppend (profEntries pts (e / 1000) status (fun _ => 0) (fun _ _ => 0)) true)
  s.billRecord 1 q.tide 5

/-! ## Step 6: billing periods (R285, R288, R310) -/

/-- One key step per instance of the period instances. -/
def periodKeys : Nat := 0x10000 * 32
/-- Lowest key of the open period. -/
def periodBase : Nat := 0x0E010000 * 32

/-- The open period enters the history as the newest closed one; the oldest is dropped. -/
def shiftPeriods (t : Tab (BitVec 32)) : Tab (BitVec 32) :=
  let lo := t.filter (fun p => decide (p.1 < periodBase))
  let mid := t.filter (fun p => decide (periodBase ≤ p.1 ∧ p.1 < periodBase + 24 * periodKeys))
  let hi := t.filter (fun p => decide (periodBase + 25 * periodKeys ≤ p.1))
  lo ++ mid.map (fun p => (p.1 + periodKeys, p.2)) ++ hi

/-- CRC of a stored period record: its 10,496 bytes with the CRC field taken as 0. -/
def State.periodCrc (s : State) (n : Nat) : Nat :=
  let t := s.w Reg.BILLP_CRC 0 n
  (crc32c ((List.range 2624).flatMap (fun k => leBytes 4 (t.readWord (0x0E010000 + n * 0x10000 + 4 * k))))).toNat

/-- Open a period in instance 1 with opening readings. -/
def State.periodOpen (s : State) (q : BndRec) (no start end_ flags : Nat) : State :=
  let s := ((s.w Reg.BILLP_PERIOD_NO no).w Reg.BILLP_P_STATE 1).w Reg.BILLP_P_FLAGS flags
  let s := (s.w64 Reg.BILLP_START_LO Reg.BILLP_START_HI start).w64 Reg.BILLP_END_LO Reg.BILLP_END_HI end_
  let s := s.over q.acc (fun x s => s.w64 Reg.BILLP_READ_LO Reg.BILLP_READ_HI (x.2 / 1000000) 0 (x.1 / 16) (x.1 % 16))
  s.w Reg.BILL_PERIOD_NO no

/-- Close the open period: closing readings, state, CRC; it moves to the history. -/
def State.periodClose (s : State) (q : BndRec) : State :=
  let s := s.over q.acc (fun x s => s.w64 Reg.BILLP_READ_LO Reg.BILLP_READ_HI (x.2 / 1000000) 0 (x.1 / 16) (x.1 % 16))
  let s := s.w Reg.BILLP_P_STATE 2
  let s := s.w Reg.BILLP_CRC (s.periodCrc 0)
  ({ s with regs := shiftPeriods s.regs }.billRecord 3 q.tide 6).ev Reg.BILL_EVENT 4

/-- Close the periods that are due, oldest first; the ones after the first are skipped periods. A mark follows each but the last,
whose mark is that of the step (R322). -/
def State.stepPeriods (s : State) (q : BndRec) : Nat → List Nat → State × BndRec
  | _, [] => (s, q)
  | k, e :: rest =>
    let no := s.r Reg.BILL_PERIOD_NO
    let s := s.periodClose q
    match rest with
    | [] => (s.w Reg.BILL_PERIOD_NO no, q)
    | e' :: _ =>
      let (s, q) := s.mark q q.done (k + 1)
      State.stepPeriods (s.periodOpen q (no + 1) e e' 4) q (k + 1) rest

/-! ## Steps 7 and 8 (R278, R280) -/

/-- Switch the rate. -/
def State.stepRate (s : State) (q : BndRec) : State :=
  let s := if s.r Reg.BILL_RATE = q.rateNew then s else s.inc Reg.BILL_SWITCHES
  ((s.w Reg.BILL_RATE q.rateNew).w Reg.BILL_DAY_TYPE q.dayType).w Reg.BILL_SEASON q.season

/-- Open the new intervals and period. -/
def State.stepOpen (s : State) (q : BndRec) : State :=
  let fresh := !s.bill.open_
  let iv := bit q.plan 1 || fresh
  let s := if iv then
      let st := s.ivStatusAt q.startNew q.repeated
      let s := (s.w Reg.PROF_IV_STATUS st).when (bit st 1) (fun s => s.ev Reg.BILL_EVENT 2)
      let s := (s.w Reg.PROF_IV_START (q.startNew / 1000)).w Reg.PROF_IV_END (q.ivEnd / 1000)
      let s := s.over s.points (fun p s => s.w Reg.MPT_IV_FLAGS (s.r Reg.MPT_IV_FLAGS p ^^^ (s.r Reg.MPT_IV_FLAGS p &&& Tab.getD q.flags p 0)) p)
      s.modBill (fun b => { b with ivStart := q.startNew, ivEnd := q.ivEnd, openRead := q.reads })
    else s
  let s := if bit q.plan 0 || fresh then
      let change := decide (q.modeNew ≠ s.bill.mode)
      let off := decide (q.subNew % subLength q.modeNew ≠ 0)
      s.modBill (fun b => { b with
        mode := q.modeNew
        subStart := q.subNew
        subEnd := nextMultiple (subLength q.modeNew) q.subNew
        spoilt := off
        subs := if q.modeNew ≠ 1 then [] else if change || b.subs.isEmpty || fresh then [q.reads] else b.subs })
    else s
  let s := if bit q.plan 2 || fresh then
      let start := match q.ends.getLast? with | some e => e | none => q.rtcNew
      s.periodOpen q (s.r Reg.BILL_PERIOD_NO + 1) start q.periodEnd (if s.r Reg.TAMPX_SEALED_MASK ≠ 0 then 8 else 0)
    else s
  ((s.modBill (fun b => { b with open_ := true })).billRecord 2 q.tide 8).billRecord 1 q.tide 8

/-! ## The steps and their marks (R321 to R324) -/

/-- Carry out step 4 + i. -/
def State.billStep (s : State) (q : BndRec) : Nat → State × BndRec
  | 0 => (s.stepDemand q, q)
  | 1 => (s.stepProfile q, q)
  | 2 => s.stepPeriods q 0 q.ends
  | 3 => (s.stepRate q, q)
  | _ => (s.stepOpen q, q)

/-- The steps of PLAN that the mark in force does not show done, as i of step 4 + i. -/
def BndRec.left (q : BndRec) : List Nat := (List.range 5).filter (fun i => bit q.plan i && decide (q.done < 4 + i))

/-- PERIODS_CLOSED of a mark for step 4 + i. -/
def BndRec.closed (q : BndRec) (i : Nat) : Nat := if i < 2 then 0 else q.ends.length

/-- The final record of a step (Table 10.4); step 7 has none. -/
def finalRecord (i : Nat) : Option Nat := if i = 3 then none else if i = 2 then some 3 else some 1

/-- The final record of step 4 + i bears the boundary's BTIDE and the step (R323). -/
def State.stepBears (s : State) (q : BndRec) (i : Nat) : Bool :=
  match (finalRecord i).bind (Tab.find s.bill.heads) with
  | some h => decide (h.btide = q.tide % 4294967296 ∧ h.bstep = 4 + i)
  | none => false

/-- Write the mark that a cut left out after a step's final record (R323). -/
def State.markMissing (s : State) (q : BndRec) : State × BndRec :=
  match q.left with
  | i :: _ => if s.stepBears q i then s.mark q (4 + i) (q.closed i) else (s, q)
  | [] => (s, q)

/-- Carry out the steps of a list in order, each with its mark (R322), but that of the last where it is cut off. -/
def State.billSteps (s : State) (q : BndRec) (marked : Bool) : List Nat → State × BndRec
  | [] => (s, q)
  | i :: rest =>
    let (s, q) := s.billStep q i
    let (s, q) := if marked || !rest.isEmpty then s.mark q (4 + i) (q.closed i) else (s, q)
    State.billSteps s q marked rest

/-- The outstanding steps of boundary records, oldest first, through step 4 + `upTo` of the oldest that is then not complete
(R319). -/
def State.billJournal (s : State) (upTo : Nat) (marked : Bool) : List BndRec → State
  | [] => s.modBill (fun b => { b with journal := [] })
  | q :: rest =>
    let (s, q) := s.markMissing q
    let (s, q) := s.billSteps q marked (q.left.filter (fun i => decide (i ≤ upTo)))
    if q.left.isEmpty then State.billJournal s upTo marked rest else s.modBill (fun b => { b with journal := q :: rest })

/-- Every outstanding step. -/
def State.billRunSteps (s : State) : State := s.billJournal 4 true s.bill.journal

/-- BILLING_STEPS (R318, R319): the steps 4 to 8 that are outstanding run on through step 4 + `upTo`; with `marked` false the mark
of the last of them is not yet written. -/
def execBillingSteps (upTo : Fin 5) (marked : Bool) (s : State) : Host.Outcome State Fault Refusal :=
  if s.running then .next (s.billJournal upTo.val marked s.bill.journal) else .next s

/-- A boundary record waits to be complete. -/
def State.boundaryAsked (s : State) : Bool := s.writesAsked.any (fun w => decide (w.kind = .boundary))

/-- The billing side of a boundary: step 3, what the times mark, and the boundary record when a step is due. The steps of
the boundary before are complete by then; while its record is not, the closures wait (R319). `atRun`: the first boundary of RUN (R324, R289). -/
def State.billTide (s : State) (asMs : Nat) (atRun : Bool) : State :=
  let s := s.billRunSteps
  let old := s.rtc
  let (adj, s) := s.timeAdjust asMs
  let s := s.timeRefresh
  let s := if s.rtc < s.hwm then
      s.modSession (fun x => { x with recs := x.recs.map (fun q => if q.flags.getLsbD 6 then { q with flags := q.flags ||| 4 } else q) })
    else s
  let s := if s.bill.open_ ∧ s.r Reg.TAMPX_SEALED_MASK ≠ 0 then
      (s.wbit Reg.BILLP_P_FLAGS 3 true 0).w Reg.PROF_IV_STATUS (s.r Reg.PROF_IV_STATUS ||| 0x40)
    else s
  if s.boundaryAsked then s
  else match s.billPlan adj old atRun with
    | some q => s.queueRec .boundary (.boundary q)
    | none => s

/-! ## RUN (R274, R325) -/

/-- A word of a journal slot. -/
def State.journalWord (s : State) (k ofs len : Nat) : Nat := s.mword (journalSlot k + ofs) len

/-- A journal slot is valid (R320). -/
def State.journalValid (s : State) (k : Nat) : Bool :=
  decide (s.journalWord k 0 4 = 0x31444E42 ∧ s.journalWord k 4 2 = 1) &&
    decide ((crc32c (s.mread (journalSlot k) 1916)).toNat = s.journalWord k 1916 4)

/-- The valid step mark of a journal slot in a block: MARK_SEQ and STEP_DONE (R321). -/
def State.markAt (s : State) (k j : Nat) : Option (Nat × Nat) :=
  let o := 1920 + 64 * j
  if s.journalWord k o 4 = 0x314B4D42 ∧ s.journalWord k (o + 8) 4 = s.journalWord k 16 4 ∧
      (crc32c (s.mread (journalSlot k + o) 60)).toNat = s.journalWord k (o + 60) 4 then
    some (s.journalWord k (o + 4) 4, s.journalWord k (o + 12) 1)
  else none

/-- The mark in force of a journal slot: the valid one with the higher MARK_SEQ (R321). -/
def State.markInForce (s : State) (k : Nat) : Option (Nat × Nat) :=
  match s.markAt k 0, s.markAt k 1 with
  | some a, some b => if a.1 < b.1 then some b else some a
  | some a, none => some a
  | none, b => b

/-- The journal as RUN reads it (R324): the boundary records whose slot holds them, with the mark in force. -/
def State.journalRead (s : State) : State :=
  s.modBill (fun b => { b with journal := b.journal.filterMap (fun q =>
    if s.journalValid q.slot && decide (s.journalWord q.slot 8 8 = q.seq) then
      match s.markInForce q.slot with
      | some m => some { q with marks := m.1 + 1, done := m.2 }
      | none => none
    else none) })

/-- The RTC at RUN (R274): where it is invalid it starts from the greater of HWM and the RTC_MS of the restored record. -/
def State.rtcRunStart (s : State) (rtcMs : Nat) : State :=
  let s := if s.rb Reg.BILL_RTC_VALID then s else (s.setRtc (max s.hwm rtcMs)).ev Reg.BILL_EVENT 5
  s.hwmUp.timeRefresh

/-- The billing state at RUN: from the restored pool record where its JOURNAL_SEQ is that of the newest billing record,
else from the journal (R325); the RTC of an invalid ledge domain (R274). -/
def State.billRun (s : State) (slot : Option Nat) : State :=
  let fits := match slot with
    | some k => decide (s.poolByte k 1776 4 = s.bill.seq % 4294967296)
    | none => false
  let k := slot.getD 0
  let jr := ((List.range 2).filter s.journalValid).foldl (fun v j => max v (s.journalWord j 32 8)) 0
  let hwm := if fits then s.poolByte k 1744 8 else jr
  let s := s.w64 Reg.BILL_HWM_LO Reg.BILL_HWM_HI hwm
  let s := if fits then (s.w Reg.PROF_IV_STATUS (s.poolByte k 1716 4 % 128)).w Reg.BILL_SLEW_LEFT (s.poolByte k 1764 4)
    else (s.w Reg.PROF_IV_STATUS 0).w Reg.BILL_SLEW_LEFT 0
  s.journalRead.rtcRunStart (match slot with | some k => s.poolByte k 32 8 | none => 0)

end Sys2Proof.Machine
end

