-- ==== Sys2Proof/Machine/Image.lean ====
section
/-! DEFINITION. The images of the tide store: loading a tide table image into the object maps, and the checks of steps 3
and 4 of a start, which VERIFY runs as well (R18, R24, R43, R54 to R57, R460). -/
namespace Sys2Proof.Machine
set_option cleanup.letToHave false

/-! ## Loading (step 6) -/

/-- An image gives a field its initial value: a setting (RT or RI), or a read-only field that describes the site. DESIGN CHOICE:
what an image names beside these is left as it is; the spec does not say what becomes of it. -/
def Fld.settable (f : Fld) : Bool := decide (f.acc = .rt ∨ f.acc = .ri) || f.fromImage

/-- Write an initial value of the image. -/
def State.wInit (s : State) (q : FieldInit) : State :=
  match pendPlace ⟨q.addr, q.lo, q.value⟩ with
  | some p => if p.f.settable then s.w p.f q.value p.n p.i p.j else s
  | none => s

/-- Write the descriptors of a partition. -/
def State.loadPart (s : State) (p : Nat) (d : PartDef) : State :=
  let s := s.w Reg.TIDE_PART_CLASS d.cls 0 p
  let s := s.over ((List.range 32).zip d.regions) (fun x s =>
    let s := (s.w Reg.TIDE_REG_BASE (x.2.base / 64) 0 p x.1).w Reg.TIDE_REG_LIMIT (x.2.limit / 64) 0 p x.1
    (s.w Reg.TIDE_REG_RIGHTS x.2.rights.toNat 0 p x.1).wb Reg.TIDE_REG_VALID x.2.valid 0 p x.1)
  s.wb Reg.TIDE_PART_VALID (d.regions.any (·.valid)) 0 p

/-- Insert an entry at its place by resource identifier. -/
def ownInsert (o : OwnDef) : List OwnDef → List OwnDef
  | [] => [o]
  | x :: l => if o.id ≤ x.id then o :: x :: l else x :: ownInsert o l

/-- The entries in ascending resource identifier, as the map holds them (R42). -/
def ownSorted (l : List OwnDef) : List OwnDef := l.foldr ownInsert []

/-- Write the ownership map (R42). DMA channels show their owner, and the resources that the map leaves without an owner
start in their released state (R46; chapter 14 for links). -/
def State.loadOwn (s : State) (l : List OwnDef) : State :=
  let s := s.over ((List.range 4096).zip (ownSorted l)) (fun x s =>
    let s := s.w Reg.TIDE_OWN_ID x.2.id 0 x.1
    match x.2.owner with
    | some p =>
      let s := (s.w Reg.TIDE_OWN_PART p 0 x.1).w Reg.TIDE_OWN_OWNED 1 0 x.1
      if x.2.id / 0x1000000 = 0x12 then
        (s.wb Reg.TIDE_DMA_OWNED true 0 (x.2.id % 0x10000)).w Reg.TIDE_DMA_OWNER p 0 (x.2.id % 0x10000)
      else s
    | none => s.w Reg.TIDE_OWN_OWNED 0 0 x.1)
  s.modFabric (fun f => { f with released := releasable.filter (fun r => !l.any (fun o => decide (o.id = r) && o.owner.isSome)) })

/-- Owner of a resource in a loaded map. -/
def State.ownerOf (s : State) (rid : Nat) : Option Nat :=
  match s.ownEntry rid with
  | some i => if s.rb Reg.TIDE_OWN_OWNED 0 i then some (s.r Reg.TIDE_OWN_PART 0 i) else none
  | none => none

/-- What the METERING section settles for the points (R225, R268): a point is served by the partition that owns its inputs, a
DC point takes the OTP calibration and the rating of its connector, and instance 0x28 holds the cove sums. -/
def State.loadPoints (s : State) : State :=
  let s := s.over ((List.range 32).filter (fun k => s.rb Reg.COOL_PRESENT k)) (fun k s =>
    s.wbit Reg.COOLC_CABLES k true (s.r Reg.COOL_CIRCUIT k))
  (s.w Reg.MPT_KIND 3 40).over ((List.range 40).filter (fun p => decide (s.r Reg.MPT_KIND p ≠ 0))) (fun p s =>
    let s := match s.ownerOf (resId 6 ((pointMods p).1.headD 0)) with
      | some q => s.w Reg.MPT_PARTITION q p
      | none => s
    if p < 8 then s else (s.w Reg.MPT_LEGAL 1 p).w Reg.MPT_P_RATED (s.r Reg.ALLOC_RATING 0 (p - 8)) p)

/-- Write what a tide table image sets in the object maps. -/
def State.loadImage (s : State) (t : TtImage) : State :=
  let s := s.over ((List.range 32).zip t.credits) (fun x s => s.w Reg.TIDE_CREDIT x.2 0 x.1)
  let s := s.w Reg.TIDE_CREDIT_SUM (t.credits.foldl (· + ·) 0)
  let s := s.over ((List.range 64).zip t.parts) (fun x s => s.loadPart x.1 x.2)
  ((s.loadOwn t.ownership).over t.fields (fun q s => s.wInit q)).loadPoints

/-! ## Checks of the schedule (Table 1.10) -/

/-- Largest credit limit of a requester (Table 1.2). -/
def creditMax (q : Nat) : Nat := if q < 24 then 32 else if q < 28 then 16 else if q < 30 then 32 else 64

/-- R18: 32 limits, each in its range, their sum at most 256. -/
def creditsOk (l : List Nat) : Bool :=
  decide (l.length = 32) && decide (l.foldl (· + ·) 0 ≤ 256) &&
    ((List.range 32).zip l).all (fun x => decide (1 ≤ x.2 ∧ x.2 ≤ creditMax x.1))

/-- R15: the period of a slot. A phase outside the tide, or a tide number modulo the period that no tide has, is refused as
no phase at all. -/
def periodOk (d : SlotDef) : Bool :=
  if d.perTide then decide (1 ≤ d.period ∧ d.period ≤ 65535 ∧ d.phase < d.period)
  else decide (1 ≤ d.period ∧ 400 % d.period = 0 ∧ d.phase < 400)

/-- Two tide-period slots run in some common tide. -/
def slotsMeet (a b : SlotDef) : Bool := decide (a.phase % Nat.gcd a.period b.period = b.phase % Nat.gcd a.period b.period)

/-- The largest sum of bounds of tide-period slots that run in one tide together with those chosen. -/
def tideLoad : List SlotDef → List SlotDef → Nat
  | _, [] => 0
  | chosen, d :: l => max (tideLoad chosen l) (if chosen.all (slotsMeet d) then d.bound + tideLoad (d :: chosen) l else 0)

/-- The bound-sum of an engine in a wave of the tide, over its slots of one wave; tide-period slots run at wave 0. -/
def waveLoad (l : List SlotDef) (w : Nat) : Nat :=
  let one := l.filter (fun d => decide (d.span ≤ 1))
  let waves := (one.filter (fun d => !d.perTide && decide (w % d.period = d.phase % d.period))).foldl (fun v d => v + d.bound) 0
  if w = 0 then waves + tideLoad [] (one.filter (·.perTide)) else waves

/-- A slot holds a wave of the tide, in the tides it runs: its first wave, or a later one of its span. -/
def slotHolds (d : SlotDef) (w : Nat) : Bool :=
  if d.perTide then decide (w < max 1 d.span) else decide ((w + 400 - d.phase % max 1 d.period) % max 1 d.period < max 1 d.span)

/-- Two slots of one engine share a wave. -/
def slotsShare (a b : SlotDef) : Bool :=
  (!(a.perTide && b.perTide) || slotsMeet a b) && (List.range 400).any (fun w => slotHolds a w && slotHolds b w)

/-- A slot that spans waves has its engine to itself (R24): no other slot of it, and no later run of the same slot, falls in its
span. -/
def spanAlone (l : List SlotDef) : Bool :=
  l.all (fun d => decide (d.span ≤ 1) || (d.perTide || decide (d.span ≤ d.period))) &&
    decide (l.Pairwise (fun a b => (decide (a.span ≤ 1) && decide (b.span ≤ 1) || !slotsShare a b) = true))

/-- R24: the bound-sums of every engine. -/
def boundsOk (l : List SlotDef) : Bool :=
  l.all (fun d => decide (1 ≤ d.span ∧ d.span ≤ 400) && decide (d.bound ≤ 500 * max d.span 1)) &&
    (List.range 128).all (fun e =>
      let mine := l.filter (fun d => decide (d.engine = e))
      mine.isEmpty || (spanAlone mine && (List.range 400).all (fun w => decide (waveLoad mine w ≤ 500))))

/-- R26: every partition has one class, and partition 0x00, the firmware kernel, has class S. -/
def classesOk (l : List PartDef) : Bool :=
  l.all (fun p => decide (p.cls ≤ 4)) && (match l with | [] => true | p :: _ => decide (p.cls = 0))

/-- R43, first case: a resource named twice. -/
def ownDistinct (l : List OwnDef) : Bool := decide ((l.map (·.id)).Pairwise (· ≠ ·))

/-- R43, second case: a WRITE region of a partition that overlaps a buffer owned by another. -/
def buffersOk (t : TtImage) : Bool :=
  t.decl.buffers.all (fun b =>
    match t.ownership.find? (fun o => decide (o.id = b.id)) with
    | some ⟨_, some p⟩ =>
      ((List.range 64).zip t.parts).all (fun x => decide (x.1 = p) || x.2.regions.all (fun r =>
        !(r.valid && r.rights.getLsbD 1 && decide (r.base < b.base + b.size) && decide (b.base ≤ r.limit))))
    | _ => true)

/-! ## Further refusals with exit 0x0108, over the object maps the image would load -/

/-- A resource is owned by a class M partition. -/
def State.ownedM (s : State) (rid : Nat) : Bool :=
  match s.ownerOf rid with
  | some p => decide (s.r Reg.TIDE_PART_CLASS 0 p = 1)
  | none => false

/-- R146: the server of the vehicle links presents its certificate and at most 2 sub-CA certificates. -/
def seccOk (d : Decl) : Bool := decide (d.seccChain.length ≤ 3)

/-- R518: the allocation partition is of class C, and every slot of the allocation task carries it. -/
def State.allocPartOk (s : State) (t : TtImage) : Bool :=
  let p := s.r Reg.ALLOC_ALLOC_PART
  decide (s.r Reg.TIDE_PART_CLASS 0 p = 2) && t.decl.slots.all (fun d => decide (d.task = t.decl.allocTask → d.part = p))

/-- The contactors a cabinet, a bus or a connector has (R121). -/
def State.required (s : State) : List (List Nat) :=
  let cts := s.contactors
  let cabs := (List.range 64).map (fun c => cts.filter (fun k => decide (s.r Reg.MTX_CT_KIND 0 k = 1 ∧ s.r Reg.MTX_CT_FROM 0 k = c)))
  let buses := (List.range 64).map (fun b => cts.filter (fun k => decide (s.r Reg.MTX_CT_KIND 0 k = 2 ∧ s.r Reg.MTX_CT_FROM 0 k = b)))
  let conns := (List.range 32).map (fun n => cts.filter (fun k => decide (s.r Reg.MTX_CT_KIND 0 k = 2 ∧ s.r Reg.MTX_CT_TO 0 k = n)))
  cabs ++ buses ++ conns

/-- Members of a guard set. -/
def State.guardMembers (s : State) (g : Nat) : List Nat :=
  (List.range 256).filter (fun k => s.rbit Reg.MTX_GUARD_MASK (k % 32) 0 g (k / 32))

/-- R118: every initial value of the matrix, its cabinets and its connectors lies in the maps, the counts are within Table 4.1,
and a bus-connector contactor leads to a connector. -/
def State.matrixFits (s : State) (t : TtImage) : Bool :=
  t.fields.all (fun q => !([4, 5, 6].contains (q.addr / 0x1000000)) || (placesAt q.addr).any (fun p => decide (p.f.lo = q.lo))) &&
    decide (s.r Reg.MTX_CONTACTORS ≤ 256 ∧ s.r Reg.MTX_BUSES ≤ 64 ∧ s.r Reg.MTX_GUARD_SETS ≤ 192) &&
    s.contactors.all (fun k => decide (s.r Reg.MTX_CT_KIND 0 k = 1 ∨ s.r Reg.MTX_CT_TO 0 k < 32)) &&
    (List.range 32).all (fun n => decide (s.r Reg.ALLOC_RATING 0 n ≤ 3750))

/-- R118 and R121: the limits of contactors per element, and the required guard sets. -/
def State.matrixOk (s : State) (t : TtImage) : Bool :=
  let sets := (List.range 192).map s.guardMembers
  s.matrixFits t && s.required.all (fun l => decide (l.length ≤ 8) && (decide (l.length < 2) || sets.contains l))

/-- R118: a contactor is declared twice. -/
def contactorTwice (t : TtImage) : Bool :=
  let kinds := t.fields.filter (fun q => (List.range 256).any (fun k => decide (q.addr = Reg.MTX_CT_KIND.addr 0 k 0 ∧ q.lo = Reg.MTX_CT_KIND.lo)))
  !decide ((kinds.map (·.addr)).Pairwise (· ≠ ·))

/-- Kind of a loop signal code. -/
def codeKind (c : Nat) : Nat := c / 0x1000000
/-- A loop signal code of a role: none, or a kind of the role with its index in range (Table 6.1). -/
def codeOk (c : Nat) (kinds : List (Nat × Nat)) : Bool :=
  decide (c = 0) || kinds.any (fun x => decide (c / 0x1000000 = x.1 ∧ c % 0x1000000 < x.2))
/-- Measured and feed-forward kinds. -/
def measuredKinds : List (Nat × Nat) := [(1, 16), (2, 16), (3, 32), (4, 8), (5, 32), (6, 32)]
/-- Resource of an output signal (R172). -/
def outResource (c : Nat) : Option Nat :=
  if codeKind c = 0x10 then some (resId 5 (c % 65536)) else if codeKind c = 0x11 then some (resId 4 (c % 65536)) else none

/-- R172: the sensor codes of a cable are measured signals. -/
def State.cableCodesOk (s : State) : Bool :=
  (List.range 32).all (fun k => [Reg.COOL_INLET_SRC, Reg.COOL_OUTLET_SRC, Reg.COOL_FLOW_SRC, Reg.COOL_AMB_SRC].all (fun f =>
    codeOk (s.r f k) measuredKinds))

/-- R172 and R219: every entry of the LOOPS section. -/
def State.loopsOk (s : State) : Bool :=
  let outs := ((List.range 128).map (fun i => s.r Reg.LOOP_OUT_DST i)).filter (· ≠ 0)
  s.cableCodesOk && decide (outs.Pairwise (· ≠ ·)) && (List.range 128).all (fun i =>
    let out := s.r Reg.LOOP_OUT_DST i
    codeOk (s.r Reg.LOOP_MEAS_SRC i) measuredKinds && codeOk (s.r Reg.LOOP_FF_SRC i) measuredKinds &&
    codeOk (s.r Reg.LOOP_REF_SRC i) [(7, 8), (8, 1)] && codeOk out [(0x10, 6), (0x11, 32), (0x12, 1)] &&
    (match outResource out with
      | some r => (s.ownerOf r).isSome && decide (s.ownerOf r = s.ownerOf (resId 0x13 i))
      | none => true) &&
    (decide (s.r Reg.ALLOC_GRID_LOOP = i) || (decide (codeKind (s.r Reg.LOOP_REF_SRC i) ≠ 8) && decide (codeKind out ≠ 0x12))) &&
    decide (0 < s.r Reg.LOOP_PERIOD i ∧ 400 % s.r Reg.LOOP_PERIOD i = 0) &&
    (decide (codeKind out ≠ 0x11) || decide (s.r Reg.LS_FUNCTION (out % 65536) = 3)))

/-- R225: the inputs and clocks of the enabled points belong to class M partitions. -/
def State.pointsOk (s : State) : Bool :=
  ((List.range 40).filter (fun p => decide (s.r Reg.MPT_KIND p ≠ 0))).all (fun p =>
    (pointMods p).1.all (fun m => s.ownedM (resId 6 m)) && s.ownedM (resId 7 (pointMods p).2))

/-- Rated power of a point in kW (R225): the connector's rating for a DC point. -/
def State.ratedKw (s : State) (p : Nat) : Nat := if p < 8 then s.r Reg.MPT_P_RATED p else s.r Reg.ALLOC_RATING 0 (p - 8)

/-- R253: the meter constants of the bound pulse outputs. -/
def State.pulsesOk (s : State) : Bool :=
  (List.range 16).all (fun j =>
    let p := s.r Reg.MET_PLS_POINT 0 j
    decide (40 ≤ p) || decide (s.r Reg.MET_PLS_CONST 0 j * s.ratedKw p * s.r Reg.MET_PLS_WIDTH 0 j ≤ 1800000))

/-- The test-pulse sources some input names. -/
def State.wiredSources (s : State) : List Nat :=
  (List.range 8).filter (fun t => (List.range 32).any (fun i => decide (s.r Reg.SAFE_SIN_TP 0 i = t)))

/-- R340: the pulses of two sources fall in overlapping waves: of one tide, or that of `a` runs on into the next tide, where the
periods let that of `b` follow it. -/
def State.pulsesOverlap (s : State) (a b : Nat) : Bool :=
  let wa := s.r Reg.SAFE_TP_WAVE 0 a
  let wb := s.r Reg.SAFE_TP_WAVE 0 b
  let ea := wa + s.r Reg.SAFE_TP_WIDTH 0 a
  decide (wa < wb + s.r Reg.SAFE_TP_WIDTH 0 b) && decide (wb < ea) ||
    decide (wb + 400 < ea) && decide (Nat.gcd (s.r Reg.SAFE_TP_PERIOD 0 a) (s.r Reg.SAFE_TP_PERIOD 0 b) = 1)

/-- Source code of a SIN (R342). -/
def sinSource (k : Nat) : Nat := 0x1000 + k

/-- R340, R343 and R347: the SAFETY section. -/
def State.safetyOk (s : State) : Bool :=
  let src := s.wiredSources
  let entries := (List.range 64).filter (fun k => decide (s.r Reg.SAFE_FN_TYPE 0 k ≠ 0))
  let groups := s.contactors.map (fun k => s.r Reg.MTX_CT_GROUP 0 k)
  let model := (List.range 32).flatMap (fun c => if s.rb Reg.COOL_PRESENT c then
    [Reg.COOL_INLET_SRC, Reg.COOL_OUTLET_SRC, Reg.COOL_FLOW_SRC, Reg.COOL_AMB_SRC].map (fun f => s.r f c) else [])
  src.all (fun a => src.all (fun b => decide (a = b) || !s.pulsesOverlap a b)) &&
  entries.all (fun k =>
    let a := s.r Reg.SAFE_FN_SRC_A 0 k
    let b := s.r Reg.SAFE_FN_SRC_B 0 k
    let n := s.r Reg.SAFE_FN_CONN 0 k
    match s.r Reg.SAFE_FN_TYPE 0 k with
    | 4 => decide (a = sinSource (s.r Reg.SESS_LOCK_SIN n) ∧ b = sinSource (s.r Reg.SESS_PROX_SIN n))
    | 3 => !model.contains (0x03000000 + a % 4096)
    | _ => true) &&
  groups.all (fun g => entries.any (fun k => decide (s.r Reg.SAFE_FN_TYPE 0 k = 5 ∧ s.r Reg.SAFE_FN_SRC_A 0 k = 0x4000 + g))) &&
  ((List.range 32).filter (fun c => decide (s.r Reg.SAFE_CN_ROLE 0 c ≠ 0))).all (fun c =>
    decide (s.r Reg.SAFE_CN_PORT_A 0 c < 8 ∧ 8 ≤ s.r Reg.SAFE_CN_PORT_B 0 c))

/-- R410: the gate control lists. -/
def State.gatesOk (s : State) : Bool :=
  (List.range 16).all (fun p =>
    let k := s.r Reg.TSN_GCL_LEN p
    decide (k = 0) || (decide ((List.range k).foldl (fun v i => v + s.r Reg.TSN_GCL_DUR p i) 0 = 625 * s.r Reg.TSN_GCL_CYCLE p) &&
      decide (0 < s.r Reg.TSN_GCL_CYCLE p ∧ 400 % s.r Reg.TSN_GCL_CYCLE p = 0)))

/-- R359: HOME_SEL agrees with the declared place: the home unit has it set. -/
def pairPlaceOk (t : TtImage) (homeSel : Bool) : Bool :=
  match t.decl.pair with
  | some d => decide (d.twin = !homeSel)
  | none => true

/-- R56: the image header and the directory. DEDUCED: the header and the reserved bits of the directory stand as Table 2.4a
gives them, the sections lie within the image behind the directory, and a section of a type that Table 2.5 does not list is
refused where its flag says that the firmware must know it. -/
def layoutOk (t : TtImage) : Bool :=
  decide (t.magic = 0x53525244 ∧ t.format = 3 ∧ t.count = t.sections.length ∧ 2 ≤ t.count ∧ t.count ≤ 32 ∧ t.lengthField = t.length) &&
    t.reservedZero && t.sections.all (fun x => decide (x.flags / 2 = 0 ∧ x.offset % 64 = 0 ∧ 64 + 16 * t.count ≤ x.offset ∧
      x.offset + x.size ≤ t.length) && (decide (1 ≤ x.kind ∧ x.kind ≤ 0x0E) || decide (x.flags % 2 = 0)))

/-- R57: mandatory sections once each, SIGNATURE last, every section's CRC. -/
def sectionsOk (t : TtImage) : Bool :=
  let kinds := t.sections.map (·.kind)
  layoutOk t && [1, 2, 3, 4, 5, 6, 8, 9, 0x0B, 0x0D, 0x0E].all (fun k => decide (kinds.count k = 1)) &&
    (match t.sections.getLast? with
      | some x => decide (x.kind = 0x0E) && t.sections.all (fun y => decide (y.kind = 0x0E ∨ y.offset + y.size ≤ x.offset))
      | none => false) && t.sections.all (·.crcOk)

/-- R15: the periods and phases of the slots. -/
def slotPeriodsOk (t : TtImage) : Bool := t.decl.slots.all periodOk

/-- TT_CHECK (exit 0x0108): none when the image passes, else the code of Table 1.10, 0 for a refusal without one. -/
def ttCheck (t : TtImage) (homeSel : Bool) : Option Nat :=
  if !sectionsOk t then some 0
  else if !creditsOk t.credits then some 0x0203
  else if !slotPeriodsOk t || !classesOk t.parts || decide (4096 < t.ownership.length) then some 0
  else if !boundsOk t.decl.slots then some 0x0204
  else if !ownDistinct t.ownership then some 0x0201
  else if !buffersOk t then some 0x0202
  else
    let s := ({} : State).loadImage t
    if contactorTwice t || !s.allocPartOk t || !s.matrixOk t || !s.loopsOk || !s.pointsOk || !s.pulsesOk ||
        !s.safetyOk || !s.gatesOk || !pairPlaceOk t homeSel || !seccOk t.decl || (t.decl.tariff && !s.calendarOk []) then some 0
    else none

/-! ## Checks of a bank (steps 3 and 4) -/

/-- Firmware image of a bank. -/
def State.fwOf (s : State) (b : Bool) : Option FwImage := if b then s.store.fwB else s.store.fwA
/-- Tide table image of a bank. -/
def State.ttOf (s : State) (b : Bool) : Option TtImage := if b then s.store.ttB else s.store.ttA

/-- Words of the active POLICY generation (Table 13.6): none where no generation is active. -/
def State.policyWords (s : State) (word count : Nat) : Option Nat :=
  (Tab.find s.otp.active 2).map (fun g => s.otpNat Reg.OTP_POLICY_WORD g word count)

/-- Least firmware and tide table versions. -/
def State.minFwSvn (s : State) : Nat := (s.policyWords 50 1).getD 0
/-- Least tide table version. -/
def State.minTtSvn (s : State) : Nat := (s.policyWords 51 1).getD 0

/-- The hash of the firmware key an image names: the manufacturing key of ROM in BLANK and MANUFACTURE (Table 2.7). -/
def State.fwKeyHash (s : State) (i : Nat) : Option Nat :=
  if s.r Reg.DEV_LIFECYCLE ≤ 1 then some Config.mfgRoot.toNat
  else if 3 < i then none else s.policyWords (2 + 12 * i) 12

/-- Firmware signature and security version (exit 0x0105). -/
def State.fwSigOk (s : State) (d : BankDesc) (f : FwImage) : Bool :=
  f.keyHash.isSome && decide (f.keyHash = s.fwKeyHash f.keyIndex) && decide (f.svn = d.fwSvn ∧ s.minFwSvn ≤ f.svn)

/-- Integrator certificate, tide table signature and version (exit 0x0106). -/
def State.ttSigOk (s : State) (t : TtImage) : Bool :=
  s.certValid t.cert && t.cert.rights.getLsbD 7 && t.sigOk && decide (s.minTtSvn ≤ t.svn)

/-- The checks of steps 3 and 4 on a bank: none when it passes, else exit and detail (Table 2.6). -/
def State.bankCheck (s : State) (b homeSel : Bool) : Option (Nat × Nat) :=
  let d := s.headerNow.bank b
  match s.fwOf b, s.ttOf b with
  | some f, some t =>
    if f.digest ≠ d.fwDigest ∨ t.digest ≠ d.ttDigest then some (0x0104, 0)
    else if !s.fwSigOk d f then some (0x0105, 0)
    else if !s.ttSigOk t then some (0x0106, 0)
    else if t.deviceId ≠ s.serial then some (0x0107, 0)
    else (ttCheck t homeSel).map (fun c => (0x0108, c))
  | _, _ => some (0x0104, 0)

/-! ## The banks (Table 2.2) -/

/-- Byte offset of a bank's part in the tide store (Table 2.2). -/
def partOffset (b tt : Bool) : Nat := match b, tt with
  | false, false => 0x00100000
  | false, true => 0x01900000
  | true, false => 0x02000000
  | true, true => 0x03800000

/-- Program a byte: a byte of 0xFF is not listed. -/
def storePut (m : List Host.Cell) (a : Nat) (b : Byte) : List Host.Cell := if b = 0xFF then memDel m a else memIns m a b

/-- Program bytes from an offset upward. -/
def storePutAll : List Host.Cell → Nat → List Byte → List Host.Cell
  | m, _, [] => m
  | m, a, b :: bs => storePutAll (storePut m a b) (a + 1) bs

/-- Erase a bank. -/
def State.bankErase (s : State) (b : Bool) : State :=
  let lo := partOffset b false
  s.modStore (fun x =>
    let f := x.flash.filter (fun c => decide (c.1 < lo ∨ lo + 0x1C00000 ≤ c.1))
    if b then { x with flash := f, fwB := none, ttB := none } else { x with flash := f, fwA := none, ttA := none })

/-- Copy the firmware bytes of a bank into the other. -/
def State.bankCopyFw (s : State) (src : Bool) : State :=
  let o := partOffset src false
  let t := partOffset (!src) false
  s.modStore (fun x =>
    let cells := x.flash.filter (fun c => decide (o ≤ c.1 ∧ c.1 < o + 0x1800000))
    let f := cells.foldl (fun m c => memIns m (c.1 - o + t) c.2) x.flash
    if src then { x with flash := f, fwA := x.fwB } else { x with flash := f, fwB := x.fwA })

end Sys2Proof.Machine
end

