-- ==== Sys2Proof/Machine/Prepay.lean ====
section
/-! DEFINITION. Credit tokens and keypads (R298 to R303). -/
namespace Sys2Proof.Machine

set_option cleanup.letToHave false

/-- A sum of Wh in a 32-bit two's-complement field; what the field shows of a sum outside its range is free. -/
def State.addWh (s : State) (f : Fld) (d : Int) (i : Nat) : State :=
  let v := s.ri f 0 i + d
  if -2147483648 ≤ v ∧ v ≤ 2147483647 then s.wi f v 0 i
  else
    let (w, s) := s.freeWord
    s.w f w.toNat 0 i

/-- The number of decimal digits, most significant first. -/
def ofDigits (l : List Nat) : Nat := l.foldl (fun v d => v * 10 + d) 0

/-- The 25 bytes under a token's HMAC (R299). -/
def State.tokenMessage (s : State) (t : Nat) : List Byte := ascii "UTK1" ++ leBytes 16 s.serial ++ leBytes 5 (t % 1099511627776)

/-- The window's marks as one number. -/
def State.winMap (s : State) : Nat := (List.range 128).foldl (fun v w => v + s.r Reg.PREPAY_WIN_MAP 0 w * 2 ^ (32 * w)) 0

/-- Raise the window and mark an identifier (R300). -/
def State.winMark (s : State) (id : Nat) : State :=
  let base := s.r Reg.PREPAY_WIN_BASE
  let base' := if base + 4096 ≤ id then id - 4095 else base
  let m := setBit (s.winMap / 2 ^ (base' - base)) (id - base') true
  (s.w Reg.PREPAY_WIN_BASE base').each 128 (fun w s => s.w Reg.PREPAY_WIN_MAP (m / 2 ^ (32 * w) % 4294967296) 0 w)

/-- The first failing check of a token, or none (R300). A session for which a token is accepted already takes no second one:
the later token is not consumed (R150). -/
def State.tokenError (s : State) (n : Nat) (digits : List Nat) : Option Nat :=
  let t := ofDigits digits
  let k := s.r Reg.PREPAY_TOKEN_KEY
  let mac := (Config.hmac384 (Tab.getD s.vault.mat k 0) (s.tokenMessage t)).toNat % 16777216
  let id := t / 1048576 % 1048576
  let scope := t / 131072 % 8
  let base := s.r Reg.PREPAY_WIN_BASE
  if digits.length ≠ 20 ∨ 18446744073709551615 < t then some 0x1001
  else if s.bill.locked.contains n then some 0x1007
  else if !s.rb Reg.PREPAY_KEY_VALID then some 0x1008
  else if t / 1099511627776 ≠ mac then some 0x1002
  else if 1 < scope then some 0x1003
  else if id < base then some 0x1004
  else if id < base + 4096 ∧ s.winMap.testBit (id - base) then some 0x1005
  else if scope = 0 ∧ (s.sess n ≠ 2 ∨ (s.conn n).token.isSome ∨ s.authRefused.isSome) then some 0x1006
  else none

/-- A DISPLAY frame of a keypad (Table 14.3). -/
def displayFrame (node n code : Nat) : List Byte :=
  let head := leBytes 1 0x61 ++ leBytes 1 node ++ leBytes 1 n ++ [0] ++ leBytes 2 code ++ [0, 0] ++ leBytes 20 (Config.displayText code).toNat
  head ++ leBytes 4 (crc32c head).toNat

/-- Show a result on a connector's keypad; a port without an owner sends nothing (R46). -/
def State.display (s : State) (n code : Nat) : State :=
  match s.decl.keypads.find? (fun k => decide (k.1 = n)) with
  | some (_, port, node) =>
    if s.isReleased (resId 0x0C port) then s
    else (s.inc Reg.T1S_TX_FRAMES port).emit (.link "T1S" port ((etherType ++ displayFrame node n code).map BitVec.toNat))
  | none => s

/-- The result of a token: the map, and the keypad's display within 20 tides. -/
def State.tokenResult (s : State) (n code : Nat) : State := (s.w Reg.PREPAY_KP_RESULT code 0 n).display n code

/-- A token's record is complete, and the token takes effect (R300, R303): a session token gives the session its credit, a site
token adds to BALANCE; the session it was accepted for is authorised, at once unless a pending activation holds sessions in AUTH
(R462). A session that has left AUTH meanwhile takes none of it. -/
def State.tokenEffect (s : State) (n t : Nat) : State :=
  let id := t / 1048576 % 1048576
  let scope := t / 131072 % 8
  let wh := t % 131072 * 1000
  let mine := decide (s.sess n = 2 ∧ (s.conn n).token = some id) && !(s.conn n).tokenDone
  let s := if scope = 0 then (if mine then s.w Reg.PREPAY_CREDIT wh 0 n else s) else s.addWh Reg.PREPAY_BALANCE wh 0
  if !mine then s
  else
    let s := s.w Reg.PREPAY_CR_SRC (if scope = 0 then 1 else 2) 0 n
    let s := s.modBill (fun b => { b with charged := Tab.put b.charged n (s.reading (8 + n) 0) })
    let s := s.modConn n (fun x => { x with tokenDone := true })
    if s.authHeld = true then s else s.authorise n 3 (textBytes (decimal 1 id))

/-- A token that passes every check: its identifier is marked, and its record is asked for, with which it takes effect (R300). Where
the connector's session is in AUTH and nothing refuses it, the token is the source accepted for it (R150). -/
def State.tokenAccept (s : State) (n t : Nat) : State :=
  let id := t / 1048576 % 1048576
  let scope := t / 131072 % 8
  let amount := t % 131072
  let s := s.winMark id
  let s := (s.inc Reg.PREPAY_ACCEPTED).ev Reg.PREPAY_EVENT 0
  let s := ((s.w Reg.PREPAY_LAST_ID id).w Reg.PREPAY_LAST_SCOPE scope).w Reg.PREPAY_LAST_CONN n
  let s := ((s.w Reg.PREPAY_LAST_AMOUNT amount).w Reg.PREPAY_LAST_TIME s.rtcS).w Reg.PREPAY_KP_FAILS 0 0 n
  let s := if s.sess n = 2 ∧ !s.authRefused.isSome ∧ !(s.conn n).token.isSome then s.modConn n (fun x => { x with token := some id }) else s
  (s.queueRec .other (.prep [(n, t)])).tokenResult n 0

/-- A token that fails a check; FAIL_LIMIT consecutive MAC failures lock the keypad (R302). -/
def State.tokenReject (s : State) (n code : Nat) : State :=
  let s := ((s.inc Reg.PREPAY_REJECTED).ev Reg.PREPAY_EVENT 1).tokenResult n code
  if code ≠ 0x1002 then s
  else
    let f := s.r Reg.PREPAY_KP_FAILS 0 n + 1
    if f < s.r Reg.PREPAY_FAIL_LIMIT then s.w Reg.PREPAY_KP_FAILS f 0 n
    else
      let s := (s.w Reg.PREPAY_KP_FAILS 0 0 n).w Reg.PREPAY_KP_LOCK (s.r Reg.PREPAY_LOCK_TIDES) 0 n
      let s := (s.modBill (fun b => { b with locked := b.locked ++ [n] })).ev Reg.PREPAY_EVENT 2
      (s.w Reg.TAMP_ACTIVE 1 13).tamperEvent 13

/-- The check of a token's MAC is one use of the token key (R381). -/
def State.tokenUse (s : State) (n : Nat) (digits : List Nat) : State :=
  if digits.length ≠ 20 ∨ 18446744073709551615 < ofDigits digits ∨ s.bill.locked.contains n ∨ !s.rb Reg.PREPAY_KEY_VALID then s
  else match s.vaultAccept (s.r Reg.PREPAY_TOKEN_KEY) 7 with
    | .ok (last, s) => s.counterEnd (s.r Reg.PREPAY_TOKEN_KEY) last
    | .error _ => s

/-- A valid frame of a peripheral node (R417). -/
def State.nodeSeen (s : State) (p j : Nat) : State :=
  (s.wbit Reg.T1S_NODES (j - 1) true p).modLinks (fun x => { x with nodes := Tab.put x.nodes (p * 16 + j) 0 })

/-- TOKEN_CHECK (R300): a submitted entry is checked and taken or rejected. -/
def State.tokenCheck (s : State) (n : Nat) (digits : List Nat) : State :=
  let e := s.tokenError n digits
  let s := s.tokenUse n digits
  match e with
  | some c => s.tokenReject n c
  | none => s.tokenAccept n (ofDigits digits)

/-- The entries submitted in a wave are checked as it ends, in ascending connector number (R301). -/
def State.tokenWave (s : State) : State :=
  let l := s.bill.entries
  (s.modBill (fun b => { b with entries := [] })).over l (fun x s => s.tokenCheck x.1 x.2)

/-- KEYPAD_KEY (R301, R418): a KEY frame with a digit 0 to 9, 10 = `*`, 11 = `#`. A frame whose SEQ is that of the last
accepted one is discarded. -/
def execKeypadKey (n : Fin 32) (seq : BitVec 16) (key : Fin 12) (s : State) : Host.Outcome State Fault Refusal :=
  match s.decl.keypads.find? (fun k => decide (k.1 = n.val)) with
  | none => .next s
  | some (_, port, node) =>
  if !s.running then .next s
  else if Tab.find s.links.keySeq n.val = some seq.toNat then .next (s.nodeSeen port node)
  else
    let n := n.val
    let s := (s.nodeSeen port node).modLinks (fun x => { x with keySeq := Tab.put x.keySeq n seq.toNat })
    let l := Tab.getD s.bill.keys n []
    let s := s.modBill (fun b => { b with keyAge := Tab.put b.keyAge n 0 })
    if key.val < 10 then .next (s.modBill (fun b => { b with keys := Tab.put b.keys n ((l ++ [key.val]).take 21) }))
    else
      let s := s.modBill (fun b => { b with keys := Tab.del b.keys n, keyAge := Tab.del b.keyAge n })
      if key.val = 10 then .next s
      else
        .next (s.modBill (fun b => { b with entries := Tab.put b.entries n l }))

/-- KEYPAD_ENTRY_TIMEOUT (R301). -/
def execKeypadEntryTimeout (n : Fin 32) (s : State) : Host.Outcome State Fault Refusal :=
  match Tab.find s.bill.keyAge n.val with
  | some a =>
    if s.r Reg.PREPAY_ENTRY_TIMEOUT < a then
      .next (s.modBill (fun b => { b with keys := Tab.del b.keys n.val, keyAge := Tab.del b.keyAge n.val }))
    else .next s
  | none => .next s

/-- KEYPAD_UNLOCK (R302): LOCK_TIDES have elapsed. -/
def execKeypadUnlock (n : Fin 32) (s : State) : Host.Outcome State Fault Refusal :=
  if s.bill.locked.contains n.val ∧ s.r Reg.PREPAY_KP_LOCK 0 n.val = 0 then
    .next (s.modBill (fun b => { b with locked := b.locked.filter (· ≠ n.val) }))
  else .next s

/-- The keypads at a tide boundary: their timers run. -/
def State.keypadTide (s : State) : State :=
  let s := s.modBill (fun b => { b with keyAge := b.keyAge.map (fun q => (q.1, q.2 + 1)) })
  s.over s.bill.locked (fun n s => s.dec Reg.PREPAY_KP_LOCK 0 n)

end Sys2Proof.Machine
end

