-- ==== Sys2Proof/Machine/Links.lean ====
section
/-! DEFINITION. Network and field links (chapter 14): the TSN switch, 10BASE-T1S, CAN FD, SENT. The chain links are in
Chain. -/
namespace Sys2Proof.Machine

set_option cleanup.letToHave false

/-! ## TSN switch (R407 to R412) -/

/-- Members of a VLAN among the ports; the internal port belongs to every declared VLAN. -/
def State.vlanPorts (s : State) (vid : Nat) : List Nat :=
  match s.decl.vlans.find? (fun v => decide (v.1 = vid)) with
  | none => []
  | some v => ((List.range 16).filter (fun p => v.2.getLsbD p && decide (s.r Reg.TSN_MODE p ≠ 0))) ++ [16]

/-- Show the entries in use. -/
def State.fdbShow (s : State) : State := s.w Reg.TSNX_FDB_USED (s.links.fdb.length + s.decl.fdbStatic.length)

/-- Learn a source address (R408). -/
def State.fdbLearn (s : State) (vid mac port : Nat) : State :=
  if s.decl.fdbStatic.any (fun e => decide (e.1 = vid ∧ e.2.1 = mac)) then s
  else
    let e : FdbEntry := ⟨vid, mac, port, s.tideStart⟩
    if s.links.fdb.any (fun x => decide (x.vid = vid ∧ x.mac = mac)) then
      s.modLinks (fun x => { x with fdb := x.fdb.map (fun y => if y.vid = vid ∧ y.mac = mac then e else y) })
    else if s.links.fdb.length + s.decl.fdbStatic.length < 16384 then
      (s.modLinks (fun x => { x with fdb := x.fdb ++ [e] })).fdbShow
    else s.ev Reg.TSNX_EVENT 3

/-- The egress ports of a frame: its forwarding entry, or a flood within the VLAN, never back to its ingress (R408). -/
def State.fdbPorts (s : State) (vid mac ingress : Nat) : List Nat :=
  let members := (s.vlanPorts vid).filter (fun p => decide (p ≠ ingress))
  let group := bit mac 40
  match s.decl.fdbStatic.find? (fun e => decide (e.1 = vid ∧ e.2.1 = mac)) with
  | some e => members.filter (fun p => decide (p < 16) && e.2.2.getLsbD p)
  | none =>
    if group then members
    else match s.links.fdb.find? (fun e => decide (e.vid = vid ∧ e.mac = mac)) with
      | some e => members.filter (fun p => decide (p = e.port))
      | none => members

/-- TSN_FRAME_RECEIVE (R408, R409): at an external port, or at port 16 from the device itself. -/
def execTsnFrameReceive (p : Fin 17) (tick : Fin 625) (f : TsnFrame) (s : State) : Host.Outcome State Fault Refusal :=
  let n := p.val
  if !s.alive || !s.tsnUp n then .next s
  else if n < 16 ∧ (!f.fcsOk ∨ f.len < 64 ∨ 1522 < f.len) then .next (s.inc Reg.TSN_RX_ERRORS n)
  else
    let s := if n < 16 then s.inc Reg.TSN_RX_FRAMES n else s
    let (vid, cls) := match f.tag with
      | some (v, c) => (if v = 0 then (if n < 16 then s.r Reg.TSN_PVID n else 0) else v, c.val)
      | none => (if n < 16 then s.r Reg.TSN_PVID n else 0, 0)
    if !(s.vlanPorts vid).contains n then .next s
    else
      let s := s.fdbLearn vid f.src.toNat n
      .next (s.over ((s.fdbPorts vid f.dst.toNat n).filter (fun q => s.tsnUp q)) (fun q s =>
        s.tsnQueue ⟨q, cls, f.dst.toNat, f.src.toNat, vid, f.len, s.now, tick.val, false, f.data⟩))

/-- Gate mask of entry `e` of a port. -/
def State.gateMask (s : State) (p e : Nat) : Nat := s.r Reg.TSN_GCL_GATES p e

/-- Ticks for which class `c` stays open from tick `t` of entry `e` on, looking `k` entries ahead (R411). -/
def State.openFor (s : State) (p c : Nat) : Nat → Nat → Nat → Nat
  | 0, _, _ => 0
  | k + 1, e, left =>
    if bit (s.gateMask p e) c then
      left + State.openFor s p c k ((e + 1) % max 1 (s.r Reg.TSN_GCL_LEN p)) (s.r Reg.TSN_GCL_DUR p ((e + 1) % max 1 (s.r Reg.TSN_GCL_LEN p)))
    else 0

/-- The entry in force at a tick of the cycle, and the ticks left in it. -/
def State.gateAt (s : State) (p : Nat) : Nat → Nat → Nat → Nat × Nat
  | 0, e, _ => (e, 0)
  | k + 1, e, pos =>
    let d := s.r Reg.TSN_GCL_DUR p e
    if pos < d then (e, d - pos) else State.gateAt s p k (e + 1) (pos - d)

/-- Ticks a frame occupies on the wire, with preamble and gap, rounded up (R411): SPEED in Gb/s × 10, 40 ns a tick. -/
def wireTicks (speed len : Nat) : Nat :=
  let gb10 := match speed with | 1 => 10 | 2 => 25 | _ => 100
  ((len + 20) * 80 + gb10 * 40 - 1) / (gb10 * 40)

/-- A frame may start at a tick of the present wave: it ends before its gate closes (R411). -/
def State.gateFits (s : State) (p cls len tick : Nat) : Bool :=
  let n := s.r Reg.TSN_GCL_LEN p
  if n = 0 then true
  else
    let pos := s.wave % max 1 (s.r Reg.TSN_GCL_CYCLE p) * 625 + tick
    let (e, left) := s.gateAt p n 0 pos
    decide (wireTicks (s.r Reg.TSN_SPEED p) len < s.openFor p cls (n + 1) e left)

/-- Wave time (R413). -/
def State.waveTime (s : State) (tick : Nat) : Nat := s.tide * 10000000 + s.wave * 25000 + tick * 40

/-- TSN_FRAME_TRANSMIT (R410 to R412): at a tick of the wave, the oldest frame of the highest class that may start (PRESUMED from
IEEE 802.1Q: the classes go in strict priority). The frame leaves with the wave time of its start. -/
def execTsnFrameTransmit (p : Fin 16) (tick : Fin 625) (s : State) : Host.Outcome State Fault Refusal :=
  let n := p.val
  if !s.alive || !s.tsnUp n then .next s
  else
    let head := fun c => s.links.tsn.find? (fun q => decide (q.port = n ∧ q.cls = c))
    let pick := [7, 6, 5, 4, 3, 2, 1, 0].filterMap (fun c => match head c with
      | some q => if s.gateFits n c q.len tick.val then some q else none
      | none => none)
    match pick with
    | [] => .next s
    | q :: _ =>
      let s := (s.modLinks (fun x => { x with tsn := x.tsn.erase q })).tsnCells
      let s := (s.inc Reg.TSN_TX_FRAMES n).emit (.link "TSN" n ([q.dst, q.src, q.vid, q.cls, q.len, s.waveTime tick.val] ++ q.data.map BitVec.toNat))
      let wait := (s.now - q.wave) * 625 + tick.val - q.tick
      .next (if q.cls = 7 then s.w Reg.TSN_TC7_WAIT (max (s.r Reg.TSN_TC7_WAIT n) (min 65535 wait)) n else s)

/-- GATE_CONTROL_ENTRY (R410): the next entry's mask applies. -/
def execGateControlEntry (p : Fin 16) (s : State) : Host.Outcome State Fault Refusal :=
  let n := p.val
  let len := s.r Reg.TSN_GCL_LEN n
  if len = 0 then .next s
  else
    let e := (Tab.getD s.links.gate n 0 + 1) % len
    .next ((s.modLinks (fun x => { x with gate := Tab.put x.gate n e })).w Reg.TSN_GATE_STATE (s.gateMask n e) n)

/-- FDB_AGE_OUT (R408): an entry not seen for AGE_TIME. -/
def execFdbAgeOut (vid : Nat) (mac : BitVec 48) (s : State) : Host.Outcome State Fault Refusal :=
  let keep := s.links.fdb.filter (fun e => !(decide (e.vid = vid ∧ e.mac = mac.toNat ∧ s.r Reg.TSNX_AGE_TIME * 100 ≤ s.tidesSince e.seen)))
  .next ((s.modLinks (fun x => { x with fdb := keep })).fdbShow)

/-- SPEED of a port mode (Table 14.1). -/
def modeSpeed : Nat → Nat
  | 1 => 1
  | 2 => 1
  | 3 => 2
  | 4 => 3
  | 5 => 3
  | _ => 0

/-- TSN_LINK_CHANGE (R407): the link of an enabled port goes up at the rate of its mode, or down. -/
def execTsnLinkChange (p : Fin 16) (up : Bool) (s : State) : Host.Outcome State Fault Refusal :=
  let n := p.val
  if s.r Reg.TSN_MODE n = 0 ∨ !s.alive ∨ s.isReleased (resId 0x0B n) then .next s
  else
    let was := s.rb Reg.TSN_LINK n
    let s := (s.wb Reg.TSN_LINK up n).w Reg.TSN_SPEED (if up then modeSpeed (s.r Reg.TSN_MODE n) else 0) n
    .next (if was && !up then s.ev Reg.TSN_EVENT 0 n else s)

/-- The switch at the start of a wave: class 7 frames of the wave before are late (R412), and gate cycles begin (R410). -/
def State.tsnWave (s : State) : State :=
  let now := s.now
  let late := s.links.tsn.filter (fun q => decide (q.cls = 7 ∧ q.late = false ∧ q.wave < now))
  let s := s.over late (fun q s => (s.inc Reg.TSN_TC7_LATE q.port).ev Reg.TSN_EVENT 2 q.port)
  let s := s.modLinks (fun x => { x with tsn := x.tsn.map (fun q => if q.cls = 7 ∧ q.wave < now then { q with late := true } else q) })
  s.each 16 (fun p s =>
    if s.r Reg.TSN_GCL_LEN p ≠ 0 ∧ s.wave % max 1 (s.r Reg.TSN_GCL_CYCLE p) = 0 then
      (s.modLinks (fun x => { x with gate := Tab.put x.gate p 0 })).w Reg.TSN_GATE_STATE (s.gateMask p 0) p
    else s)

/-! ## 802.1AS (R413, R414) and the host endpoint (R415) -/

/-- The group address of 802.1AS messages (PRESUMED from IEEE 802.1AS). -/
def asGroup : Nat := 0x0180C200000E

/-- Queue an 802.1AS message in traffic class 6 (R412). The model names it by one byte: 0 a Sync of domain 0, 1 of domain 1, 2 a
Pdelay request; the time it carries is that of its start. -/
def State.asSend (s : State) (port msg : Nat) : State := s.tsnOwn port 6 0 asGroup (leBytes 1 msg)

/-- AS_SYNC_RECEIVE (R413): domain 0 is followed and bridged; domain 1 is the device's own. -/
def execAsSyncReceive (p : Fin 16) (m : SyncMsg) (s : State) : Host.Outcome State Fault Refusal :=
  let n := p.val
  if !s.alive || !s.tsnUp n || !s.rb Reg.TSN_AS_EN n || decide (m.domain ≠ 0) || !m.valid then .next s
  else
    let ports := (List.range 16).filter (fun q => s.rb Reg.TSN_AS_EN q && decide (s.r Reg.TSN_MODE q ≠ 0))
    let s := if m.best then
        let s := s.over ports (fun q s => s.w Reg.TSN_AS_ROLE (if q = n then 2 else 1) q)
        s.modLinks (fun x => { x with as := { x.as with port := some n } })
      else s
    if s.links.as.port ≠ some n then .next s
    else
      let s := s.modLinks (fun x => { x with as := { x.as with age := 0, mapping := m.mapping, offset := m.offset, worst := max x.as.worst m.offset.natAbs } })
      .next (s.over (ports.filter (fun q => decide (q ≠ n) && s.tsnUp q)) (fun q s => s.asSend q 0))

/-- AS_MESSAGE_TIMER (R413): a Sync of domain 1 with wave time, or a Pdelay request. -/
def execAsMessageTimer (p : Fin 16) (sync : Bool) (s : State) : Host.Outcome State Fault Refusal :=
  if !s.alive || !s.tsnUp p.val || !s.rb Reg.TSN_AS_EN p.val then .next s
  else .next (s.asSend p.val (if sync then 1 else 2))

/-- ICMP_ECHO (R415). -/
def execIcmpEcho (v6 : Bool) (s : State) : Host.Outcome State Fault Refusal :=
  .next (if s.alive then s.emit (.link "ICMP" 16 [v6.toNat]) else s)

/-- AS_SYNC_STATE (R414) at a tide boundary. 3 Sync intervals of 125 ms are 37.5 tides. -/
def State.asTide (s : State) : State :=
  let a := s.links.as
  let ok := a.port.isSome && decide (a.age ≤ 37) && a.mapping && decide (a.worst ≤ 1000000)
  let lim : Int := max (-2147483648) (min 2147483647 a.offset)
  let was := s.rb Reg.TSNX_AS_SYNC
  let s := (s.wb Reg.TSNX_AS_SYNC ok).wi Reg.TSNX_AS_OFFSET lim
  let s := if ok then s.w Reg.TSNX_AS_LAST s.tide else s
  let s := if ok && !was then s.ev Reg.TSNX_EVENT 0 else if was && !ok then s.ev Reg.TSNX_EVENT 1 else s
  let s := match a.port with
    | some p => if a.age = 38 then s.ev Reg.TSN_EVENT 3 p else s
    | none => s
  s.modLinks (fun x => { x with as := { x.as with age := x.as.age + 1, worst := x.as.offset.natAbs } })

/-! ## 10BASE-T1S (R416 to R418) -/

/-- T1S_FRAME_RECEIVE (R416 to R418): a vehicle link's frame is seen; a frame of a declared node is passed on, but for a keypad's KEY
frame, whose key KEYPAD_KEY takes; one of an undeclared node counts and is discarded. -/
def execT1sFrameReceive (p : Fin 48) (f : T1sFrame) (s : State) : Host.Outcome State Fault Refusal :=
  let n := p.val
  if s.r Reg.T1S_ROLE n = 0 ∨ !s.alive then .next s
  else
    let s := if s.rb Reg.T1S_PLCA_EN n then s else s.add Reg.T1S_COLLISIONS f.collisions n
    if !f.ok then .next (s.inc Reg.T1S_RX_ERRORS n)
    else if s.rb Reg.T1S_PLCA_EN n ∧ !(s.decl.t1sNodes.contains (n, f.node)) then
      .next ((s.inc Reg.T1S_PLCA_ERR n).ev Reg.T1S_EVENT 3 n)
    else
      let s := s.inc Reg.T1S_RX_FRAMES n
      if s.r Reg.T1S_ROLE n = 1 then .next (s.modLinks (fun x => { x with vehicle := Tab.put x.vehicle n 0 }))
      else
        let s := s.nodeSeen n f.node
        .next (if f.payload.head? = some 0x60 then s else s.emit (.bytes "T1S" f.payload))

/-- PLCA_BEACON (R416). -/
def execPlcaBeacon (p : Fin 48) (s : State) : Host.Outcome State Fault Refusal :=
  if s.alive ∧ s.r Reg.T1S_ROLE p.val ≠ 0 ∧ s.rb Reg.T1S_PLCA_EN p.val ∧ !s.isReleased (resId 0x0C p.val) then
    .next (s.emit (.link "PLCA" p.val [s.r Reg.T1S_NODE_COUNT p.val]))
  else .next s

/-- VEHICLE_LINK_UP (R417, Table 5.4). -/
def execVehicleLinkUp (n : Fin 32) (s : State) : Host.Outcome State Fault Refusal :=
  if s.alive ∧ s.r Reg.T1S_ROLE n.val = 1 ∧ !s.rb Reg.T1S_LINK n.val ∧ Tab.find s.links.vehicle n.val = some 0 then
    let s := (s.wb Reg.T1S_LINK true n.val).ev Reg.T1S_EVENT 0 n.val
    .next ((s.modConn n.val (fun x => { x with link := true })).sessBegin n.val)
  else .next s

/-- VEHICLE_LINK_DOWN (R417): LINK_HOLD tides without a valid frame. -/
def execVehicleLinkDown (n : Fin 32) (s : State) : Host.Outcome State Fault Refusal :=
  if s.alive ∧ s.rb Reg.T1S_LINK n.val ∧ s.r Reg.T1S_LINK_HOLD n.val ≤ Tab.getD s.links.vehicle n.val 0 then
    let s := (s.wb Reg.T1S_LINK false n.val).ev Reg.T1S_EVENT 1 n.val
    .next ((s.modConn n.val (fun x => { x with link := false })).linkLost n.val)
  else .next s

/-- T1S_NODE_LOST (R417, R301): NODE_MISS tides without a valid frame; a lost keypad clears its entry. -/
def execT1sNodeLost (p : Fin 48) (j : Fin 8) (s : State) : Host.Outcome State Fault Refusal :=
  let n := p.val
  let node := j.val + 1
  if s.rbit Reg.T1S_NODES j.val n ∧ s.r Reg.T1S_NODE_MISS n ≤ Tab.getD s.links.nodes (n * 16 + node) 0 then
    let s := (s.wbit Reg.T1S_NODES j.val false n).ev Reg.T1S_EVENT 2 n
    .next (s.over (s.decl.keypads.filter (fun k => decide (k.2.1 = n ∧ k.2.2 = node))) (fun k s =>
      s.modBill (fun b => { b with keys := Tab.del b.keys k.1, keyAge := Tab.del b.keyAge k.1 })))
  else .next s

/-! ## CAN FD (R419 to R424) -/

/-- What the model keeps of a controller. -/
def State.can (s : State) (c : Nat) : CanI := Tab.getD s.links.can c {}

/-- Update what the model keeps of a controller. -/
def State.modCan (s : State) (c : Nat) (g : CanI → CanI) : State := s.modLinks (fun x => { x with can := Tab.upd x.can c {} g })

/-- Error state from the error counts (ISO 11898-1): passive from 128, bus-off from 256; the lone state stays. -/
def State.canErrors (s : State) (c tec rec : Nat) : State :=
  let was := s.r Reg.CAN_BUS_STATE c
  let s := (s.w Reg.CAN_TEC (min 511 tec) c).w Reg.CAN_REC (min 511 rec) c
  if 256 ≤ tec then
    if was = 2 then s else ((s.w Reg.CAN_BUS_STATE 2 c).ev Reg.CAN_EVENT 2 c).modCan c (fun x => { x with recovered := false, restart := false })
  else if was = 3 ∨ was = 2 then s
  else if 128 ≤ tec ∨ 128 ≤ rec then (if was = 1 then s else (s.w Reg.CAN_BUS_STATE 1 c).ev Reg.CAN_EVENT 1 c)
  else s.w Reg.CAN_BUS_STATE 0 c

/-- The 80 bytes of a ring entry (Table 14.4). -/
def State.ringEntry (s : State) (f : CanFrame) (dropped : Bool) : List Byte :=
  let id := f.id.toNat + f.ide.toNat * 2 ^ 29 + f.fdf.toNat * 2 ^ 30 + f.brs.toNat * 2 ^ 31
  let flags := f.esi.toNat + 2 * f.remote.toNat + 4 * dropped.toNat
  let data := (f.data ++ List.replicate 64 0).take 64
  leBytes 4 (s.tide % 4294967296) ++ leBytes 2 s.wave ++ leBytes 2 f.tick.val ++ leBytes 4 id ++
    [BitVec.ofNat 8 f.dlc.val, BitVec.ofNat 8 flags, 0, 0] ++ data

/-- Write a frame to the receive ring, or drop it (R420). -/
def State.ringPut (s : State) (c : Nat) (f : CanFrame) : State :=
  let len := s.r Reg.CAN_RING_LEN c
  let x := s.can c
  if len = 0 then s
  else if len ≤ x.fill then ((s.inc Reg.CAN_RING_DROPS c).ev Reg.CAN_EVENT 0 c).modCan c (fun y => { y with dropped := true })
  else
    let w := s.r Reg.CAN_RING_WR c
    let s := s.mwrite (s.r Reg.CAN_RING_BASE c + 80 * w) (s.ringEntry f x.dropped)
    (s.w Reg.CAN_RING_WR ((w + 1) % len) c).modCan c (fun y => { y with dropped := false, fill := y.fill + 1 })

/-- SHADOW_UPDATE (R421). -/
def State.shadowPut (s : State) (c : Nat) (f : CanFrame) : State :=
  match (List.range 64).find? (fun k => s.rb Reg.CAN_SH_EN c k && decide (s.r Reg.CAN_SH_ID c k = f.id.toNat) && decide (s.rb Reg.CAN_SH_IDE c k = f.ide)) with
  | none => s
  | some k =>
    let s := ((s.inc Reg.CAN_SH_SEQ c k).w Reg.CAN_SH_AGE 0 c k).w Reg.CAN_SH_DLC f.dlc.val c k
    s.modLinks (fun x => { x with shadows := Tab.put x.shadows (c * 64 + k) f.data })

/-- The valid candidates of rate detection, ascending. -/
def State.candidates (s : State) (c : Nat) : List Nat := (List.range 8).filter (fun k => decide (s.r Reg.CAN_CAND_NBR c k ≠ 0))

/-- RATE_LOCK (R423): RATE_FRAMES good frames in a row, one with BRS where the candidate has a data rate. -/
def State.rateLock (s : State) (c : Nat) : State :=
  let x := s.can c
  let nb := s.r Reg.CAN_CAND_NBR c x.cand * 1000
  let db := s.r Reg.CAN_CAND_DBR c x.cand * 100000
  if s.r Reg.CAN_RATE_FRAMES c ≤ x.run ∧ (db = 0 ∨ x.brs = true) then
    let s := (s.w Reg.CAN_NBR nb c).w Reg.CAN_DET_NBR nb c
    let s := (if db = 0 then s else s.w Reg.CAN_DBR db c).w Reg.CAN_DET_DBR db c
    let s := (s.w Reg.CAN_DETECT_STATE 2 c).ev Reg.CAN_EVENT 4 c
    s.w Reg.CAN_MODE (if s.rb Reg.CAN_LISTEN_AFTER c then 2 else 1) c
  else s

/-- CAN_FRAME_RECEIVE (R420, R421, R423). -/
def execCanFrameReceive (c : Fin 8) (f : CanFrame) (s : State) : Host.Outcome State Fault Refusal :=
  let n := c.val
  let mode := s.r Reg.CAN_MODE n
  if mode = 0 ∨ !s.alive ∨ s.r Reg.CAN_BUS_STATE n = 2 then .next s
  else
    -- entries read by the partition
    let len := s.r Reg.CAN_RING_LEN n
    let taken := min f.taken (s.can n).fill
    let s := (s.w Reg.CAN_RING_RD ((s.r Reg.CAN_RING_RD n + taken) % max 1 len) n).modCan n (fun x => { x with fill := x.fill - taken })
    let s := s.canErrors n (s.r Reg.CAN_TEC n) f.rxErrors
    let searching := decide (mode = 3 ∧ s.r Reg.CAN_DETECT_STATE n = 1)
    if !f.ok ∨ (f.fdf ∧ !s.rb Reg.CAN_FD_EN n) then
      .next (if searching then s.modCan n (fun x => { x with run := 0, brs := false }) else s)
    else
      let s := ((s.inc Reg.CAN_RX_FRAMES n).ringPut n f).shadowPut n f
      if searching then .next ((s.modCan n (fun x => { x with run := x.run + 1, brs := x.brs || f.brs })).rateLock n) else .next s

/-- The frame that goes first: lowest identifier, the oldest of equals (R422). A base identifier stands above an extended
one with the same leading bits. -/
def canPick (l : List CanTx) : Option CanTx :=
  let key := fun (x : CanTx) => if x.box.ide then x.box.id.toNat * 2 + 1 else x.box.id.toNat % 2048 * 2 ^ 19
  l.foldl (fun b x => match b with
    | none => some x
    | some y => if key x < key y then some x else some y) none

/-- Queue the frames the partition put in mailboxes; 32 at most (R422). -/
def State.canQueue (s : State) (c : Nat) (l : List CanBox) : State :=
  let now := s.now
  s.modCan c (fun x => { x with boxes := (x.boxes ++ l.map (fun b => ({ box := b, wave := now } : CanTx))).take 32 })

/-- The controller may drive the bus: normal mode, owned. -/
def State.canDrives (s : State) (c : Nat) : Bool :=
  s.alive && decide (s.r Reg.CAN_MODE c = 1) && !s.isReleased (resId 0x0D c)

/-- Send a mailbox frame with its outcome. -/
def State.canSend (s : State) (c : Nat) (x : CanTx) (acked : Bool) (tec : Nat) : State :=
  let s := s.emit (.link "CAN" c (x.box.id.toNat :: x.box.ide.toNat :: x.box.fdf.toNat :: x.box.data.map (·.toNat)))
  let s := s.canErrors c tec (s.r Reg.CAN_REC c)
  if acked then (s.inc Reg.CAN_TX_FRAMES c).modCan c (fun y => { y with boxes := y.boxes.erase x })
  else s.modCan c (fun y => { y with boxes := y.boxes.map (fun b => if b = x then { b with fails := b.fails + 1 } else b) })

/-- CAN_TRANSMIT (R422): `queued` are the frames its partition has queued since, `acked` and `tec` the outcome of the
attempt with the first frame. -/
def execCanTransmit (c : Fin 8) (queued : List CanBox) (acked : Bool) (tec : Nat) (s : State) : Host.Outcome State Fault Refusal :=
  let n := c.val
  if !s.alive then .next s
  else
    let s := s.canQueue n queued
    if !s.canDrives n ∨ 2 ≤ s.r Reg.CAN_BUS_STATE n then .next s
    else match canPick ((s.can n).boxes.filter (fun x => !x.box.fdf || s.rb Reg.CAN_FD_EN n)) with
      | none => .next s
      | some x => .next (s.canSend n x acked tec)

/-- Abort a mailbox frame. -/
def State.canAbort (s : State) (c : Nat) (x : CanTx) : State :=
  ((s.inc Reg.CAN_TX_ABORTS c).ev Reg.CAN_EVENT 5 c).modCan c (fun y => { y with boxes := y.boxes.erase x })

/-- CAN_TX_TIMEOUT (R422): every frame queued TX_TIMEOUT waves ago or longer is aborted. -/
def execCanTxTimeout (c : Fin 8) (s : State) : Host.Outcome State Fault Refusal :=
  let l := (s.can c.val).boxes.filter (fun x => decide (s.r Reg.CAN_TX_TIMEOUT c.val ≤ s.now - x.wave))
  .next (s.over l (fun x s => s.canAbort c.val x))

/-- CAN_ACK_ERROR (R424): the frame that met LONE_LIMIT consecutive acknowledge errors is aborted. -/
def execCanAckError (c : Fin 8) (s : State) : Host.Outcome State Fault Refusal :=
  let n := c.val
  match (s.can n).boxes.find? (fun x => decide (s.r Reg.CAN_LONE_LIMIT n ≤ x.fails)) with
  | some x =>
    if s.r Reg.CAN_BUS_STATE n < 2 then
      .next ((((s.canAbort n x).w Reg.CAN_BUS_STATE 3 n).ev Reg.CAN_EVENT 3 n).modCan n (fun x => { x with probe := 0 }))
    else .next s
  | none => .next s

/-- CAN_LONE_PROBE (R424): one attempt; an acknowledge ends the lone state. -/
def execCanLoneProbe (c : Fin 8) (acked : Bool) (tec : Nat) (s : State) : Host.Outcome State Fault Refusal :=
  let n := c.val
  if s.r Reg.CAN_BUS_STATE n = 3 ∧ s.r Reg.CAN_LONE_PROBE n ≤ (s.can n).probe ∧ s.canDrives n then
    let s := s.modCan n (fun x => { x with probe := 0 })
    match canPick (s.can n).boxes with
    | none => .next s
    | some x =>
      let s := if acked then s.w Reg.CAN_BUS_STATE 0 n else s
      .next (s.canSend n x acked tec)
  else .next s

/-- The controller restarts after bus-off. -/
def State.canRestart (s : State) (c : Nat) : State :=
  (((s.w Reg.CAN_BUS_STATE 0 c).w Reg.CAN_TEC 0 c).w Reg.CAN_REC 0 c).modCan c (fun x => { x with recovered := false, restart := false })

/-- CAN_BUSOFF_RECOVERY (R424): 128 × 11 recessive bits have passed. -/
def execCanBusoffRecovery (c : Fin 8) (s : State) : Host.Outcome State Fault Refusal :=
  let n := c.val
  if s.r Reg.CAN_BUS_STATE n = 2 then
    if s.rb Reg.CAN_BUSOFF_AUTO n ∨ (s.can n).restart = true then .next (s.canRestart n)
    else .next (s.modCan n (fun x => { x with recovered := true }))
  else .next s

/-- BUSOFF_RESTART (R424): the applied 1 restarts the controller once the recessive bits have passed. -/
def execBusoffRestart (c : Fin 8) (s : State) : Host.Outcome State Fault Refusal :=
  let n := c.val
  if s.rb Reg.CAN_BUSOFF_RESTART n then
    let s := s.w Reg.CAN_BUSOFF_RESTART 0 n
    if s.r Reg.CAN_BUS_STATE n ≠ 2 then .next s
    else if (s.can n).recovered then .next (s.canRestart n)
    else .next (s.modCan n (fun x => { x with restart := true }))
  else .next s

/-- RATE_DETECT_DWELL (R423): DETECT_DWELL tides at a candidate without a lock. -/
def execRateDetectDwell (c : Fin 8) (s : State) : Host.Outcome State Fault Refusal :=
  let n := c.val
  let x := s.can n
  if s.r Reg.CAN_MODE n = 3 ∧ s.r Reg.CAN_DETECT_STATE n = 1 ∧ s.r Reg.CAN_DETECT_DWELL n ≤ x.dwell then
    let l := s.candidates n
    let next := match l.find? (fun k => decide (x.cand < k)) with
      | some k => k
      | none => l.headD 0
    .next (s.modCan n (fun y => { y with cand := next, dwell := 0, run := 0, brs := false }))
  else .next s

/-- A commit of MODE starts or leaves rate detection (R423). -/
def State.canApplied (s : State) (f : Fld) (c : Nat) : State :=
  if f = Reg.CAN_MODE then
    if s.r Reg.CAN_MODE c = 3 then
      let first := (s.candidates c).headD 0
      (s.w Reg.CAN_DETECT_STATE 1 c).modCan c (fun x => { x with cand := first, dwell := 0, run := 0, brs := false })
    else s.w Reg.CAN_DETECT_STATE 0 c
  else s

/-! ## SENT (R431, R432) -/

/-- VALUE of a channel: OFFSET + trunc(raw × GAIN / 65,536); outside 32 bits the spec states none. -/
def State.sentValue (s : State) (i : Nat) (gain offset value valid lo hi : Fld) (raw : Nat) : State :=
  let v := s.ri offset i + Int.tdiv ((raw : Int) * s.ri gain i) 65536
  let s := if -2147483648 ≤ v ∧ v < 2147483648 then s.wi value v i
    else let (w, s) := s.freeWord; s.w value w.toNat i
  let ok := decide (s.r lo i ≤ raw ∧ raw ≤ s.r hi i)
  let s := s.wb valid ok i
  if ok then s else s.ev Reg.SENT_EVENT 2 i

/-- Bits of channel 1 or 2 of a fast-channel format (Table 14.8). -/
def sentBits (fmt ch : Nat) : Nat :=
  match fmt, ch with
  | 3, 1 => 14
  | 3, _ => 10
  | 4, 1 => 16
  | 4, _ => 8
  | _, _ => 12

/-- SENT_FRAME_RECEIVE (R431, R432). -/
def execSentFrameReceive (i : Fin 16) (f : SentFrame) (s : State) : Host.Outcome State Fault Refusal :=
  let n := i.val
  if !s.rb Reg.SENT_EN n ∨ !s.alive then .next s
  else
    let nom := s.r Reg.SENT_TICK_NS n
    let x := Tab.getD s.links.sent n {}
    let far := decide (nom * 3 > f.tickNs * 4 ∨ f.tickNs * 4 > nom * 5)
    let jump := match x.tick with
      | some t => decide ((f.tickNs - t) + (t - f.tickNs) > t / 64)
      | none => false
    let now := s.now
    let s := s.w Reg.SENT_TICK_MEAS (min 131071 f.tickNs) n
    let s := s.modLinks (fun l => { l with sent := Tab.put l.sent n { x with tick := some f.tickNs } })
    if far || jump || !f.nibblesOk || !f.crcOk then
      let s := (s.inc Reg.SENT_ERRORS n).ev Reg.SENT_EVENT 0 n
      let s := if far || jump then s.ev Reg.SENT_EVENT 3 n else s
      .next ((s.wb Reg.SENT_VALID1 false n).wb Reg.SENT_VALID2 false n)
    else
      let s := s.modLinks (fun l => { l with sent := Tab.put l.sent n { tick := some f.tickNs, last := now } })
      let s := (s.inc Reg.SENT_FRAMES n).w Reg.SENT_STATUS f.status.val n
      let raw1 := f.raw1.toNat % 2 ^ sentBits (s.r Reg.SENT_FORMAT n) 1
      let raw2 := f.raw2.toNat % 2 ^ sentBits (s.r Reg.SENT_FORMAT n) 2
      let s := (s.w Reg.SENT_RAW1 raw1 n).w Reg.SENT_RAW2 (if s.r Reg.SENT_FORMAT n = 2 then 0 else raw2) n
      let s := match f.slow with
        | some (id, d) => (s.w Reg.SENT_SLOW_ID id.toNat n).w Reg.SENT_SLOW_DATA d.toNat n
        | none => s
      let s := s.sentValue n Reg.SENT_GAIN1 Reg.SENT_OFFSET1 Reg.SENT_VALUE1 Reg.SENT_VALID1 Reg.SENT_VALID_LO1 Reg.SENT_VALID_HI1 raw1
      .next (if s.r Reg.SENT_FORMAT n = 2 then s.wb Reg.SENT_VALID2 false n
        else s.sentValue n Reg.SENT_GAIN2 Reg.SENT_OFFSET2 Reg.SENT_VALUE2 Reg.SENT_VALID2 Reg.SENT_VALID_LO2 Reg.SENT_VALID_HI2 raw2)

/-- SENT_TIMEOUT (R432): TIMEOUT ms without a valid frame. -/
def execSentTimeout (i : Fin 16) (s : State) : Host.Outcome State Fault Refusal :=
  let n := i.val
  if s.rb Reg.SENT_EN n ∧ s.r Reg.SENT_TIMEOUT n * 40 ≤ s.now - (Tab.getD s.links.sent n {}).last then
    .next (((s.wb Reg.SENT_VALID1 false n).wb Reg.SENT_VALID2 false n).ev Reg.SENT_EVENT 1 n)
  else .next s

/-! ## Tide boundaries -/

/-- The links' ages at a tide boundary (R414, R417, R421, R423, R424). -/
def State.linksTide (s : State) : State :=
  let s := s.modLinks (fun x => { x with
    vehicle := x.vehicle.map (fun q => (q.1, q.2 + 1)), nodes := x.nodes.map (fun q => (q.1, q.2 + 1))
    can := x.can.map (fun q => (q.1, { q.2 with probe := q.2.probe + 1, dwell := q.2.dwell + 1 })) })
  s.each 8 (fun c s => s.each 64 (fun k s => if s.rb Reg.CAN_SH_EN c k then s.incSat Reg.CAN_SH_AGE c k else s))

end Sys2Proof.Machine
end

