-- ==== Sys2Proof/Machine/Owner.lean ====
section
/-! DEFINITION. A resource loses its owner, or gains one, at a tide boundary (R44 to R46). -/
namespace Sys2Proof.Machine
set_option cleanup.letToHave false

/-- A resource enters its released state (R46): outputs are driven off; a link stops transmitting, and stands as Table 2.8 has it
for reset. Inputs, timers, buffers, DMA channels and loop instances have none. The resource is already marked. -/
def State.release (s : State) (rid : Nat) : State :=
  let i := rid % 0x10000
  match rid / 0x1000000 with
  | 0x01 => s.soutDrive (setBit (s.r Reg.SAFE_ENABLED) i false)
  | 0x03 => s.emit (.pin "TP" i false)
  | 0x04 => s.lsCommand i false
  | 0x05 => s.bridgeCommand i
  | 0x07 => s.w Reg.MET_MCLK_RUN 0 0 i
  | 0x09 =>
    let s := if (Tab.getD s.meter.pulses i {}).high then s.emit (.pin "PLS" i false) else s
    s.modMeter (fun m => { m with pulses := Tab.put m.pulses i ⟨false, 0⟩ })
  | 0x0B =>
    let s := (s.modLinks (fun x => { x with tsn := x.tsn.filter (fun q => decide (q.port ≠ i)) })).tsnCells
    (s.wb Reg.TSN_LINK false i).w Reg.TSN_SPEED 0 i
  | 0x0E => s.modChain (fun c => { c with queue := c.queue.filter (fun q => decide (q.link ≠ i)) })
  | _ => s

/-- A resource has an owner again: a test-pulse source returns to its resting level, the clock of an enabled point runs. -/
def State.acquire (s : State) (rid : Nat) : State :=
  let i := rid % 0x10000
  match rid / 0x1000000 with
  | 0x03 => s.emit (.pin "TP" i true)
  | 0x07 => if s.points.any (fun p => decide ((pointMods p).2 = i)) then s.w Reg.MET_MCLK_RUN 1 0 i else s
  | _ => s

/-- Apply a change of an ownership entry at a boundary: DMA channels copy it, and the resource is released, or acquired. -/
def State.ownApply (s : State) (i : Nat) : State :=
  let rid := s.r Reg.TIDE_OWN_ID 0 i
  let owned := s.rb Reg.TIDE_OWN_OWNED 0 i
  let s := if rid / 0x1000000 = 0x12 then
      (s.wb Reg.TIDE_DMA_OWNED owned 0 (rid % 0x10000)).w Reg.TIDE_DMA_OWNER (s.r Reg.TIDE_OWN_PART 0 i) 0 (rid % 0x10000)
    else s
  if !releasable.contains rid then s
  else if owned then
    if s.isReleased rid then (s.modFabric (fun f => { f with released := f.released.filter (· ≠ rid) })).acquire rid else s
  else if s.isReleased rid then s
  else (s.modFabric (fun f => { f with released := f.released ++ [rid] })).release rid

end Sys2Proof.Machine
end

