-- ==== Sys2Proof/Machine/Alloc.lean ====
section
/-! DEFINITION. Tide-mark power allocation: curves, the tide mark, budgets, children and grants (chapter 3). -/
namespace Sys2Proof.Machine

set_option cleanup.letToHave false

/-! ## Curves (R86, R87, R91) -/

/-- Levels strictly rising, powers non-decreasing. -/
def curveRises : Curve → Bool
  | [] => true
  | [_] => true
  | (x, p) :: (x', p') :: c => decide (x < x') && decide (p ≤ p') && curveRises ((x', p') :: c)

/-- A valid demand curve (R86). -/
def curveValid (c : Curve) : Bool :=
  decide (2 ≤ c.length) && decide (c.length ≤ 16) && curveRises c && decide ((c.head?.map Prod.fst) = some 0) &&
    decide ((c.getLast?.map Prod.fst) = some 65535)

/-- The value of a curve at a level (R87). -/
def evalCurve : Curve → Nat → Int
  | [], _ => 0
  | [(_, p)], _ => p
  | (x, p) :: (x', p') :: c, l =>
    if l < x' then p + (p' - p) * ((l : Int) - x) / ((x' : Int) - x) else evalCurve ((x', p') :: c) l

/-- The sum of a set of curves at a level. -/
def sumCurves (l : List Curve) (x : Nat) : Int := l.foldl (fun v c => v + evalCurve c x) 0

/-- Where two breakpoints fall at the same level, the later one stands (R91). -/
def keepLater : Curve → Curve
  | [] => []
  | [a] => [a]
  | a :: b :: c => if a.1 = b.1 then keepLater (b :: c) else a :: keepLater (b :: c)

/-- The zero curve. -/
def zeroCurve : Curve := [(0, 0), (65535, 0)]

/-- The end level of the top-band ramp of a weight. -/
def rampEnd (w : Nat) : Nat := 49152 + 16383 / max 1 w

/-- First level of the band of a class: HIGH, NORMAL, LOW. -/
def bandStart (cls : Nat) : Nat := (cls - 1) * 16384

/-- The curve of Table 3.3: direction, class, weight, minimum, caps. -/
def shapeCurve (dir cls weight : Nat) (pMin capI capX : Int) : Curve :=
  match dir with
  | 1 =>
    if cls = 0 then keepLater [(0, 0), (49152, 0), (rampEnd weight, capI), (65535, capI)]
    else
      let m := min pMin capI
      let b := bandStart cls
      keepLater [(0, 0), (b, 0), (b + 16384, m), (49152, m), (rampEnd weight, capI), (65535, capI)]
  | 2 => [(0, -capX), (49152, 0), (65535, 0)]
  | _ => zeroCurve

/-- The tide mark (R92): a bisection of 16 steps. -/
def tideMark (sum : Nat → Int) (budget : Int) : Nat → Nat → Nat
  | 0, mark => mark
  | k + 1, mark =>
    let cand := mark + 2 ^ k
    tideMark sum budget k (if sum cand ≤ budget then cand else mark)

/-! ## Connectors (R89, R90) -/

/-- DEV.INHIBIT bit 3 (Table 2.9): the chain forbids energy transfer while the device is not admitted (R67) or its budget is
zero. -/
def State.chainInhibit (s : State) : State :=
  s.wbit Reg.DEV_INHIBIT 3 (decide (s.r Reg.CHAIN_STATE < 2 ∨ s.r Reg.ALLOC_BUDGET = 0))

/-- A connector's contactor group is locked out. -/
def State.connLocked (s : State) (n : Nat) : Bool :=
  (s.connContactors n).any (fun k => s.rbit Reg.SAFE_LOCKED (s.r Reg.MTX_CT_GROUP 0 k))

/-- The connector's curve is the zero curve (R89). -/
def State.zeroed (s : State) (n : Nat) : Bool := !s.inTransfer n || s.connLocked n || decide (s.r Reg.DEV_INHIBIT ≠ 0)

/-- Voltage that converts a current limit, in mV: the measured one, or the vehicle's target below 100 V (R90). -/
def State.capV (s : State) (n : Nat) : Nat :=
  let v := (s.ri Reg.MPT_V (dcPoint n)).toNat
  if v < 100000 then s.r Reg.SESS_V_TARGET n * 100 else v

/-- The five limits of Table 3.2, in kW, for import or export. -/
def State.capLimits (s : State) (n : Nat) (exp : Bool) : List Nat :=
  [s.vehCap n exp, s.r Reg.COOL_HEADROOM n * s.capV n / 10000000, s.r Reg.ALLOC_RATING 0 n, s.reach n exp, s.r Reg.ALLOC_SHARE_CAP 0 n]

/-- A cap: the least of its limits. -/
def capOf (l : List Nat) : Nat := l.foldl min (l.headD 0)

/-- The caps of a connector (R90), and what the map shows of them for the present direction (Table 3.11). -/
def State.connCaps (s : State) (n : Nat) : State :=
  let l := s.capLimits n (s.exporting n)
  let c := capOf (s.capLimits n false)
  let x := capOf (s.capLimits n true)
  let s := (s.w Reg.ALLOC_CAP_THERM (l.getD 1 0) 0 n).w Reg.ALLOC_CAP_REACH (l.getD 3 0) 0 n
  let s := s.w Reg.ALLOC_CAP_SRC (l.zipIdx.foldl (fun v p => if p.1 = capOf l then v + 2 ^ p.2 else v) 0) 0 n
  (s.w Reg.ALLOC_CAP c 0 n).w Reg.ALLOC_EXP_CAP x 0 n

/-- The curve of a connector (R91). -/
def State.connCurve (s : State) (n : Nat) : Curve :=
  if s.zeroed n then zeroCurve
  else shapeCurve (s.r Reg.ALLOC_DIRECTION 0 n) (s.r Reg.ALLOC_CLASS 0 n) (s.r Reg.ALLOC_WEIGHT 0 n)
    (s.ri Reg.ALLOC_P_MIN 0 n) (s.r Reg.ALLOC_CAP 0 n) (s.r Reg.ALLOC_EXP_CAP 0 n)

/-- The connectors with a curve of their own. -/
def State.liveConns (s : State) : List Nat := (List.range 32).filter (fun n => !s.zeroed n)

/-! ## Children (R104 to R108) -/

/-- What a parent keeps for a child link. -/
def State.child (s : State) (l : Nat) : ChildI := Tab.getD s.alloc.children l {}
/-- Update it. -/
def State.modChild (s : State) (l : Nat) (g : ChildI → ChildI) : State :=
  s.modAlloc (fun a => { a with children := Tab.upd a.children l {} g })

/-- State of a child link. -/
def State.childState (s : State) (l : Nat) : Nat := s.r Reg.ALLOC_CHILD_STATE 0 l
/-- The child links with a child. -/
def State.childLinks (s : State) : List Nat := (List.range 8).filter (fun l => decide (s.childState l ≠ 0))
/-- The active children. -/
def State.activeChildren (s : State) : List Nat := s.childLinks.filter (fun l => decide (s.childState l = 2))
/-- The lost children. -/
def State.lostChildren (s : State) : List Nat := s.childLinks.filter (fun l => decide (s.childState l = 3 ∨ s.childState l = 4))

/-- A CURVE record is valid (R104). -/
def curveRecValid (q : CurveRec) : Bool :=
  curveValid q.points && q.reservedZero && decide (q.flags.toNat < 4) && decide (10 ≤ q.holdTides ∧ q.holdTides ≤ 65535) &&
    decide (((q.points.getLast?.map Prod.snd).getD 0) ≤ q.top)

/-- Take a record as the child's present curve. -/
def State.childTake (s : State) (l : Nat) (q : CurveRec) : State :=
  let s := (s.wi Reg.ALLOC_CHILD_TOP q.top 0 l).w Reg.ALLOC_CHILD_ORPHAN q.orphanBudget 0 l
  let s := (s.w Reg.ALLOC_CHILD_HOLD q.holdTides 0 l).w Reg.ALLOC_CHILD_POINTS q.points.length 0 l
  let s := s.each 16 (fun k s =>
    match q.points[k]? with
    | some p => (s.w Reg.ALLOC_CHILD_LEVEL p.1 0 l k).wi Reg.ALLOC_CHILD_POWER p.2 0 l k
    | none => (s.w Reg.ALLOC_CHILD_LEVEL 0 0 l k).w Reg.ALLOC_CHILD_POWER 0 0 l k)
  s.modChild l (fun x => { x with cur := some q, fresh := none })

/-- The reservation of a lost child (R107). -/
def State.reservation (s : State) (l : Nat) : Int :=
  let g := (s.child l).lastGrant
  if s.childState l = 3 then g else min (max g 0) (s.r Reg.ALLOC_CHILD_ORPHAN 0 l)

/-- The children at a boundary: new curves, missed records, lost children that return (R104, R107, R108). -/
def State.childrenTide (s : State) : State :=
  s.over s.childLinks (fun l s =>
    let s := s.modChild l (fun x => { x with sinceGrant := x.sinceGrant + 1 })
    match (s.child l).fresh with
    | some q => ((s.childTake l q).w Reg.ALLOC_CHILD_MISS 0 0 l).w Reg.ALLOC_CHILD_STATE 2 0 l |>.w Reg.ALLOC_CHILD_RESERVE 0 0 l
    | none => s.incSat Reg.ALLOC_CHILD_MISS 0 l)

/-- The curve of a child as a consumer. -/
def State.childCurve (s : State) (l : Nat) : Curve :=
  match s.childState l with
  | 2 => match (s.child l).cur with | some q => q.points | none => zeroCurve
  | 3 | 4 => [(0, s.reservation l), (65535, s.reservation l)]
  | _ => zeroCurve

/-- Every consumer curve of the device. -/
def State.consumers (s : State) : List Curve :=
  (s.liveConns.map s.connCurve) ++ ((s.activeChildren ++ s.lostChildren).map s.childCurve)

/-! ## Limits, trim and budget (R96, R97, R99) -/

/-- Limit input asserted and enabled. -/
def State.linOn (s : State) (k : Nat) : Bool := s.rbit Reg.ALLOC_LIN_STATE k && s.rb Reg.ALLOC_LIN_EN 0 k

/-- The limit inputs over one tide: for how many tides the reading has lain on each side (R97). -/
def State.linTide (s : State) : State :=
  s.each 4 (fun k s =>
    let code := s.inp.aux.getD (s.r Reg.ALLOC_LIN_CHAN 0 k) 0
    let th := s.r Reg.ALLOC_LIN_THRESH 0 k
    let on := s.rb Reg.ALLOC_LIN_EN 0 k && (if s.rb Reg.ALLOC_LIN_POL 0 k then decide (th < code) else decide (code < th))
    let s := s.modAlloc (fun a => { a with
      onSide := Tab.put a.onSide k (if on then Tab.getD a.onSide k 0 + 1 else 0)
      offSide := Tab.put a.offSide k (if on then 0 else Tab.getD a.offSide k 0 + 1) })
    if s.rb Reg.ALLOC_LIN_EN 0 k then s else s.wbit Reg.ALLOC_LIN_STATE k false)

/-- I_eff and E_eff (R97), with whether a limit input is the least import limit. -/
def State.effLimits (s : State) : State :=
  let ks := (List.range 4).filter s.linOn
  let i := ks.foldl (fun v k => min v (s.ri Reg.ALLOC_LIN_IMPORT 0 k)) (s.ri Reg.ALLOC_IMPORT_LIMIT)
  let e := ks.foldl (fun v k => min v (s.r Reg.ALLOC_LIN_EXPORT 0 k)) (s.r Reg.ALLOC_EXPORT_LIMIT)
  (s.wi Reg.ALLOC_IMPORT_EFF i).w Reg.ALLOC_EXPORT_EFF e

/-- The grid-loop trim (R99): 0 unless both a loop instance and an AC metering point are named. -/
def State.trimNow (s : State) : Int :=
  let g := s.r Reg.ALLOC_GRID_LOOP
  if 127 < g ∨ 7 < s.r Reg.ALLOC_PCC_POINT then 0 else max (-(s.r Reg.ALLOC_TRIM_MAX : Int)) (min 0 (s.ri Reg.LOOP_U g))

/-- The allocation mode the chain and the pair give the device (R96). An orphan in fallback stays there, and
one whose hold had run out before it became an orphan begins there. -/
def State.allocMode (s : State) : Nat :=
  if !s.running then 0
  else
    match s.r Reg.CHAIN_STATE with
    | 3 => if s.r Reg.PAIR_ROLE = 0 ∨ s.r Reg.PAIR_ROLE = 2 ∨ s.r Reg.PAIR_ROLE = 4 then 1 else 0
    | 2 => 2
    | 4 => if s.alloc.grant.isNone ∨ s.r Reg.ALLOC_MODE = 4 ∨
        (s.r Reg.ALLOC_MODE ≠ 3 ∧ s.r Reg.ALLOC_HOLD_TIDES ≤ s.r Reg.ALLOC_GRANT_AGE) then 4 else 3
    | _ => 0

/-- The budget of a mode (Table 3.4). -/
def State.budgetOf (s : State) (mode : Nat) (gPrev : Int) : Int :=
  let top := s.ri Reg.ALLOC_IMPORT_EFF + s.ri Reg.ALLOC_TRIM
  let ceil := fun (b : Int) => if s.rb Reg.ALLOC_LOCAL_EN then min b top else b
  match mode with
  | 1 =>
    let up := s.ri Reg.ALLOC_RAMP_UP
    max (-(s.ri Reg.ALLOC_EXPORT_EFF)) (if up = 0 then top else min top (gPrev + up))
  | 2 | 3 => ceil (s.ri Reg.ALLOC_GRANT_IN)
  | 4 => ceil (match s.alloc.grant with
    | some g => min (max g 0) (s.ri Reg.ALLOC_ORPHAN_BUDGET)
    | none => s.ri Reg.ALLOC_ORPHAN_BUDGET)
  | _ => 0

/-- LIMIT_SRC: what binds at the boundary. -/
def State.limitSrc (s : State) (mode : Nat) (gPrev b : Int) : Nat :=
  let i := s.ri Reg.ALLOC_IMPORT_EFF
  let t := s.ri Reg.ALLOC_TRIM
  let local_ := decide (mode = 1) || (decide (2 ≤ mode) && s.rb Reg.ALLOC_LOCAL_EN)
  let bound := local_ && decide (b = i + t)
  let own := decide (i = s.ri Reg.ALLOC_IMPORT_LIMIT)
  let ramp := decide (mode = 1) && decide (s.ri Reg.ALLOC_RAMP_UP ≠ 0) && decide (b = gPrev + s.ri Reg.ALLOC_RAMP_UP)
  let exp := decide (mode = 1) && decide (b = -(s.ri Reg.ALLOC_EXPORT_EFF)) && !bound
  (bound && own).toNat + 2 * (bound && !own).toNat + 4 * ramp.toNat + 8 * (decide (t < 0)).toNat + 16 * exp.toNat

/-- The grant in use at a boundary (R106, GRANT_STALE). -/
def State.grantTide (s : State) : State :=
  match s.alloc.fresh with
  | some g => (s.wi Reg.ALLOC_GRANT_IN g).modAlloc (fun a => { a with grant := some g, fresh := none })
  | none =>
    if s.r Reg.CHAIN_STATE = 2 ∨ s.r Reg.CHAIN_STATE = 4 then (s.incSat Reg.ALLOC_GRANT_AGE).ev Reg.ALLOC_EVENT 3 else s

/-! ## Grants (R94) and the second pass (R114) -/

/-- The grant of an active child at the mark, with its part of the residual (R94). -/
def State.grantOf (s : State) (mark : Nat) (residual : Int) (l : Nat) : Int :=
  let m : Int := s.activeChildren.length
  let a := evalCurve (s.childCurve l) mark
  if 0 < residual ∧ m ≠ 0 then a + min (s.ri Reg.ALLOC_CHILD_TOP 0 l - a) (residual / m) else a

/-- The grants of the active children, the reservations of the lost, and nothing for a child without a curve (R108). -/
def State.grantChildren (s : State) (g : Nat → Int) : State :=
  let s := s.over s.activeChildren (fun l s => s.wi Reg.ALLOC_CHILD_GRANT (g l) 0 l)
  let s := s.over s.lostChildren (fun l s => s.wi Reg.ALLOC_CHILD_RESERVE (s.reservation l) 0 l)
  s.over (s.childLinks.filter (fun l => decide (s.childState l = 1))) (fun l s => s.w Reg.ALLOC_CHILD_GRANT 0 0 l)

/-- Grants and reservations. -/
def State.childSum (s : State) : Int :=
  (s.activeChildren.foldl (fun v l => v + s.ri Reg.ALLOC_CHILD_GRANT 0 l) 0) +
    s.lostChildren.foldl (fun v l => v + s.ri Reg.ALLOC_CHILD_RESERVE 0 l) 0

/-- ALLOC_SUM and RESIDUAL. -/
def State.allocSums (s : State) : State :=
  let sum := (List.range 32).foldl (fun v n => v + s.ri Reg.ALLOC_ALLOCATED 0 n) 0 + s.childSum
  (s.wi Reg.ALLOC_ALLOC_SUM sum).wi Reg.ALLOC_RESIDUAL (s.ri Reg.ALLOC_BUDGET - sum)

/-- SECOND_PASS (R114). -/
def State.secondPass (s : State) : State :=
  let s := s.each 32 (fun n s =>
    let a := s.ri Reg.ALLOC_ALLOCATED 0 n
    let p : Int := s.connP n
    s.wi Reg.ALLOC_CONNECTED (if s.exporting n then max a (-p) else min a p) 0 n)
  let un := (List.range 32).foldl (fun v n => v + (s.ri Reg.ALLOC_ALLOCATED 0 n - s.ri Reg.ALLOC_CONNECTED 0 n).natAbs) 0
  let con := (List.range 32).foldl (fun v n => v + s.ri Reg.ALLOC_CONNECTED 0 n) 0
  (s.w Reg.ALLOC_UNPLACED un).wi Reg.ALLOC_CONNECTED_SUM (con + s.childSum)

/-! ## The reported curve (R100 to R102) -/

/-- Insert a level at its place, once. -/
def levelInsert (x : Nat) : List Nat → List Nat
  | [] => [x]
  | y :: l => if x = y then y :: l else if x < y then x :: y :: l else y :: levelInsert x l

/-- The candidate levels K, ascending. -/
def curveLevels (l : List Curve) : List Nat := l.foldl (fun v c => c.foldl (fun v p => levelInsert p.1 v) v) [0, 65535]

/-- The lowest level at which the sum reaches `t`: a 16-step bisection. -/
def lowestLevel (sum : Nat → Int) (t : Int) : Nat → Nat → Nat
  | 0, lo => if t ≤ sum lo then lo else lo + 1
  | k + 1, lo => lowestLevel sum t k (if sum (lo + 2 ^ k - 1) < t then lo + 2 ^ k else lo)

/-- The knots X (R100). -/
def knots (sum : Nat → Int) (k : List Nat) : List Nat :=
  if k.length ≤ 16 then k
  else ((List.range 11).map (fun j => lowestLevel sum (sum 0 + ((j + 1 : Nat) : Int) * (sum 65535 - sum 0) / 12) 16 0)).foldl
    (fun v x => levelInsert (min x 65535) v) [0, 16384, 32768, 49152, 65535]

/-- The values at the knots, pivoted on the left knot. -/
def knotValues (sum : Nat → Int) (k : List Nat) : Nat × Int → List Nat → Curve
  | _, [] => []
  | (x0, v0), x :: l =>
    let v := (k.filter (fun b => decide (x0 < b ∧ b < x))).foldl
      (fun v b => min v (v0 + (sum b - v0) * ((x : Int) - x0) / ((b : Int) - x0))) (sum x)
    (x, v) :: knotValues sum k (x, v) l

/-- The reported curve before the cap (R100). -/
def reportCurve (sum : Nat → Int) (k : List Nat) : Curve :=
  match knots sum k with
  | [] => zeroCurve
  | x :: l => (x, sum x) :: knotValues sum k (x, sum x) l

/-- The reported curve of the boundary: the AGG fields (R101, R102). -/
def State.report (s : State) (cs : List Curve) : State :=
  let sum := sumCurves cs
  let k := curveLevels cs
  let a := reportCurve sum k
  let loss := k.foldl (fun v b => max v (sum b - evalCurve a b)) 0
  let lid := s.ri Reg.ALLOC_IMPORT_EFF + s.ri Reg.ALLOC_TRIM
  let capOn := decide (s.r Reg.ALLOC_MODE = 2) && s.rb Reg.ALLOC_LOCAL_EN
  let top := if capOn then min (sum 65535) lid else sum 65535
  let lowered := capOn && (a.any (fun p => decide (lid < p.2)) || decide (lid < sum 65535))
  let s := (s.w Reg.ALLOC_AGG_POINTS a.length).wb Reg.ALLOC_AGG_COMPRESSED (decide (16 < k.length))
  let s := ((s.wb Reg.ALLOC_AGG_CEILING lowered).w Reg.ALLOC_AGG_LOSS loss.toNat).wi Reg.ALLOC_AGG_TOP top
  s.each 16 (fun i s =>
    match a[i]? with
    | some p => (s.w Reg.ALLOC_AGG_LEVEL p.1 0 i).wi Reg.ALLOC_AGG_POWER (if capOn then min p.2 lid else p.2) 0 i
    | none => (s.w Reg.ALLOC_AGG_LEVEL 0 0 i).w Reg.ALLOC_AGG_POWER 0 0 i)

/-- The reported curve as the object map holds it. -/
def State.aggCurve (s : State) : Curve :=
  (List.range (s.r Reg.ALLOC_AGG_POINTS)).map (fun i => (s.r Reg.ALLOC_AGG_LEVEL 0 i, s.ri Reg.ALLOC_AGG_POWER 0 i))

/-! ## The records (R103, R105) -/

/-- A GRANT record (Table 3.6). -/
def grantBytes (tide : Nat) (budget : Int) (mark : Nat) (short : Bool) : List Byte :=
  leBytes 4 tide ++ leBytes 4 (unsignedOf 32 budget) ++ leBytes 2 mark ++ leBytes 2 short.toNat

/-- A CURVE record (Table 3.5). -/
def curveBytes (flags tide : Nat) (top : Int) (orphan hold : Nat) (c : Curve) : List Byte :=
  leBytes 2 c.length ++ leBytes 2 flags ++ leBytes 4 tide ++ leBytes 4 (unsignedOf 32 top) ++ leBytes 4 orphan ++ leBytes 2 hold ++
    leBytes 2 0 ++ c.flatMap (fun p => leBytes 2 p.1 ++ leBytes 2 0 ++ leBytes 4 (unsignedOf 32 p.2))

/-- GRANT_SEND: by wave 8 every child in state admitted or active is sent its grant; a lost child, which draws its
reservation, is sent none. A GRANT is routed with HOPS = 1 (R427), and this device takes that hop. DESIGN CHOICE: FLAGS bit 0
shows EVENT bit 0 (SHORT) as it stands; the spec does not say whether the parent's latched event or the shortfall of this tide
alone is meant. -/
def State.grantSend (s : State) : State :=
  let s := s.over (s.childLinks.filter (fun l => decide (s.childState l ≤ 2))) (fun l s =>
    let s := s.modChild l (fun x => { x with lastGrant := s.ri Reg.ALLOC_CHILD_GRANT 0 l, sinceGrant := 0 })
    s.chainSend l 0x11 0 0 (grantBytes s.tide (s.ri Reg.ALLOC_CHILD_GRANT 0 l) (s.r Reg.ALLOC_TIDE_MARK) (s.rbit Reg.ALLOC_EVENT 0)))
  s.modAlloc (fun a => { a with grantsDue := false })

/-- CURVE_SEND: by wave 160 a member sends its reported curve upstream. -/
def State.curveSend (s : State) : State :=
  let flags := (s.rb Reg.ALLOC_AGG_COMPRESSED).toNat + 2 * (s.rb Reg.ALLOC_AGG_CEILING).toNat
  let s := if s.r Reg.CHAIN_STATE = 2 then
      s.chainSend (s.r Reg.CHAIN_UPSTREAM) 0x10 ctrlUp 0 (curveBytes flags s.tide (s.ri Reg.ALLOC_AGG_TOP) (s.r Reg.ALLOC_ORPHAN_BUDGET)
        (s.r Reg.ALLOC_HOLD_TIDES) s.aggCurve)
    else s
  s.modAlloc (fun a => { a with curveDue := false })

/-! ## Boundary step 9 (R111) -/

/-- ALLOCATION_LATE (R112): the ALLOCATED values and grants of the previous tide stand, and no further record is sent. -/
def State.allocLate (s : State) : State :=
  let s := s.each 32 (fun n s => s.w Reg.ALLOC_ALLOCATED (s.alloc.prevAlloc.getD n 0) 0 n)
  let s := s.each 8 (fun l s => s.w Reg.ALLOC_CHILD_GRANT (s.alloc.prevGrant.getD l 0) 0 l)
  let s := s.allocSums.secondPass
  (s.modAlloc (fun a => { a with late := false, grantsDue := false, curveDue := false })).ev Reg.ALLOC_EVENT 6

/-- What a boundary begins with: a breach in the last wave of the tide that ends, the values that a late tide keeps, the
records received, the limits and the trim (R97, R99, R104, R106, R112). -/
def State.allocInputs (s : State) : State :=
  let s := if s.alloc.late then s.allocLate else s
  let s := s.modAlloc (fun a => { a with
    prevAlloc := (List.range 32).map (fun n => s.r Reg.ALLOC_ALLOCATED 0 n)
    prevGrant := (List.range 8).map (fun l => s.r Reg.ALLOC_CHILD_GRANT 0 l) })
  let s := ((s.grantTide).childrenTide).effLimits
  s.wi Reg.ALLOC_TRIM s.trimNow

/-- The mode, the budget and what binds it (R96). -/
def State.allocBudget (s : State) (gPrev : Int) : State :=
  let mode := s.allocMode
  let s := s.w Reg.ALLOC_MODE mode
  let b := s.budgetOf mode gPrev
  let s := ((s.wi Reg.ALLOC_BUDGET b).w Reg.ALLOC_LIMIT_SRC (s.limitSrc mode gPrev b)).chainInhibit
  let s := if s.r Reg.ALLOC_LIMIT_SRC &&& 3 = 0 then s else s.ev Reg.ALLOC_EVENT 1
  if s.rbit Reg.ALLOC_LIMIT_SRC 2 then s.ev Reg.ALLOC_EVENT 2 else s

/-- MODE 0 (Table 3.4): no consumer curve is evaluated, and the budget of 0 is what the children are granted. -/
def State.allocIdle (s : State) : State :=
  let s := s.each 32 (fun n s => (s.w Reg.ALLOC_ALLOCATED 0 0 n).w Reg.ALLOC_PRIO_MET 0 0 n)
  let s := ((s.w Reg.ALLOC_TIDE_MARK 0).grantChildren (fun _ => 0)).allocSums.secondPass
  s.modAlloc (fun a => { a with grantsDue := true, curveDue := false })

/-- The curves, the tide mark and what it gives (R89 to R95, R100). -/
def State.allocMark (s : State) : State :=
  let b := s.ri Reg.ALLOC_BUDGET
  let s := s.each 32 (fun n s => s.connCaps n)
  let cs := s.consumers
  let sum := sumCurves cs
  let mark := tideMark sum b 16 0
  let s := s.w Reg.ALLOC_TIDE_MARK mark
  let s := if b < sum 0 then s.ev Reg.ALLOC_EVENT 0 else s
  let s := s.each 32 (fun n s =>
    let c := s.connCurve n
    let cls := s.r Reg.ALLOC_CLASS 0 n
    let met := !s.zeroed n && decide (s.r Reg.ALLOC_DIRECTION 0 n = 1) && decide (cls ≠ 0) && decide (bandStart cls + 16384 ≤ mark)
    (s.wi Reg.ALLOC_ALLOCATED (evalCurve c mark) 0 n).wb Reg.ALLOC_PRIO_MET met 0 n)
  let s := ((s.grantChildren (s.grantOf mark (b - sum mark))).allocSums).secondPass
  (s.report cs).modAlloc (fun a => { a with grantsDue := true, curveDue := true })

/-- ALLOCATION, TIDE_MARK: the allocation of a boundary (R111). -/
def State.allocate (s : State) : State :=
  let s := s.allocInputs
  let s := s.allocBudget (s.ri Reg.ALLOC_ALLOC_SUM)
  if s.r Reg.ALLOC_MODE = 0 then s.allocIdle else s.allocMark

/-- The allocation work that the later waves of a tide carry; GRANT records that a claim makes due after wave 8 leave in its
wave (R110). -/
def State.allocWave (s : State) : State :=
  if s.alloc.late then s.allocLate
  else
    let s := if s.alloc.grantsDue ∧ 8 ≤ s.wave then s.grantSend else s
    if s.alloc.curveDue ∧ s.wave = 160 then s.curveSend else s

/-! ## The commands -/

/-- The child position of a pair that the admitted child of a link fills. -/
def State.pairOf (s : State) (l : Nat) : Option Nat :=
  (s.decl.children.find? (fun d => decide (some d.serial = Tab.find s.chain.childId l))).bind (·.pair)

/-- The other link on which the child position of the pair has its entry. -/
def State.pairEntry (s : State) (l : Nat) : Option Nat :=
  (s.pairOf l).bind (fun p => (List.range 8).find? (fun j => decide (j ≠ l ∧ s.childState j ≠ 0 ∧ s.pairOf j = some p)))

/-- CURVE_RECEIVE (R104, R110): a valid record is kept for the next boundary; an invalid one counts as missed. -/
def execCurveReceive (link : Fin 8) (q : CurveRec) (s : State) : Host.Outcome State Fault Refusal :=
  let l := link.val
  if !s.running then .next s
  else
    -- a child position of a pair: the entry moves to the link on which the records arrive
    let other := s.pairEntry l
    if s.childState l = 0 ∧ other.isNone then .next s
    else if !curveRecValid q then .next (s.ev Reg.ALLOC_EVENT 5)
    else
      let s := match other with
        | some j =>
          let x := s.child j
          let st := s.childState j
          let miss := s.r Reg.ALLOC_CHILD_MISS 0 j
          let g := s.r Reg.ALLOC_CHILD_GRANT 0 j
          let res := s.r Reg.ALLOC_CHILD_RESERVE 0 j
          let s := ((s.w Reg.ALLOC_CHILD_STATE st 0 l).w Reg.ALLOC_CHILD_MISS miss 0 l).w Reg.ALLOC_CHILD_GRANT g 0 l
          let s := s.w Reg.ALLOC_CHILD_RESERVE res 0 l
          let s := match x.cur with | some c => s.childTake l c | none => s
          let s := s.modChild l (fun _ => x)
          let s := (((s.w Reg.ALLOC_CHILD_STATE 0 0 j).w Reg.ALLOC_CHILD_MISS 0 0 j).w Reg.ALLOC_CHILD_GRANT 0 0 j).w Reg.ALLOC_CHILD_RESERVE 0 0 j
          s.modAlloc (fun a => { a with children := Tab.del a.children j })
        | none => s
      .next (s.modChild l (fun x => { x with fresh := some q }))

/-- GRANT_RECEIVE (R106): the record becomes GRANT_IN for the next boundary; GRANT_AGE is cleared. -/
def execGrantReceive (link : Fin 8) (g : GrantRec) (s : State) : Host.Outcome State Fault Refusal :=
  if s.running ∧ (s.r Reg.CHAIN_STATE = 2 ∨ s.r Reg.CHAIN_STATE = 4) ∧ s.r Reg.CHAIN_UPSTREAM = link.val then
    .next ((s.w Reg.ALLOC_GRANT_AGE 0).modAlloc (fun a => { a with fresh := some g.budget }))
  else .next s

/-- CHILD_LOST (R107): three tides without a valid CURVE record. DEDUCED: a child admitted whose first record has not come is
not lost, for R107 takes its HOLD_TIDES and ORPHAN_BUDGET from its last valid record, and R108 keeps its grant at 0. -/
def execChildLost (link : Fin 8) (s : State) : Host.Outcome State Fault Refusal :=
  let l := link.val
  if s.childState l = 2 ∧ 3 ≤ s.r Reg.ALLOC_CHILD_MISS 0 l then
    let s := (s.w Reg.ALLOC_CHILD_STATE 3 0 l).ev Reg.ALLOC_EVENT 4
    .next ((s.wi Reg.ALLOC_CHILD_RESERVE (s.reservation l) 0 l).ev Reg.CHAIN_EVENT 1)
  else .next s

/-- CHILD_RESERVE_FALLBACK (R107): HOLD_TIDES + 3 tides after the last grant sent. -/
def execChildReserveFallback (link : Fin 8) (s : State) : Host.Outcome State Fault Refusal :=
  let l := link.val
  if s.childState l = 3 ∧ s.r Reg.ALLOC_CHILD_HOLD 0 l + 3 ≤ (s.child l).sinceGrant then
    let s := s.w Reg.ALLOC_CHILD_STATE 4 0 l
    .next (s.wi Reg.ALLOC_CHILD_RESERVE (s.reservation l) 0 l)
  else .next s

/-- ORPHAN_HOLD_EXPIRY (R96): the hold has run from the last receipt. -/
def execOrphanHoldExpiry (s : State) : Host.Outcome State Fault Refusal :=
  if s.r Reg.ALLOC_MODE = 3 ∧ s.r Reg.ALLOC_HOLD_TIDES ≤ s.r Reg.ALLOC_GRANT_AGE then .next (s.w Reg.ALLOC_MODE 4)
  else .next s

/-- LIMIT_INPUT_ASSERT (R97): 10 consecutive tides on the asserting side. -/
def execLimitInputAssert (k : Fin 4) (s : State) : Host.Outcome State Fault Refusal :=
  if s.rb Reg.ALLOC_LIN_EN 0 k.val ∧ 10 ≤ Tab.getD s.alloc.onSide k.val 0 then .next (s.wbit Reg.ALLOC_LIN_STATE k.val true)
  else .next s

/-- LIMIT_INPUT_RELEASE (R97): 10 consecutive tides on the other side. -/
def execLimitInputRelease (k : Fin 4) (s : State) : Host.Outcome State Fault Refusal :=
  if 10 ≤ Tab.getD s.alloc.offSide k.val 0 then .next (s.wbit Reg.ALLOC_LIN_STATE k.val false) else .next s

end Sys2Proof.Machine
end

