-- ==== Sys2Proof/Machine/Chain.lean ====
section
/-! DEFINITION. Chain enumeration, tide numbering, routing and link delay (chapter 2, R425 to R430). -/
namespace Sys2Proof.Machine

set_option cleanup.letToHave false

/-! ## Identity -/

/-- A chain link declared in the COVE section. -/
def State.declaredLink (s : State) (l : Nat) : Bool := s.decl.chainLinks.getLsbD l

/-- The position identity: the pair identity declared for a pair, else the serial (R64). -/
def State.positionId (s : State) : Nat := match s.decl.pair with | some p => p.identity | none => s.serial

/-- A 128-bit identity as the map's four words hold it. -/
def State.w128 (s : State) (f : Fld) (v : Nat) (i : Nat := 0) (nested : Bool := false) : State :=
  s.each 4 (fun k s => if nested then s.w f (v / 2 ^ (32 * k)) 0 i k else s.w f (v / 2 ^ (32 * k)) 0 k)

/-- The root identity the device holds. -/
def State.rootId (s : State) : Nat :=
  s.r Reg.CHAIN_ROOT_ID 0 0 + s.r Reg.CHAIN_ROOT_ID 0 1 * 2 ^ 32 + s.r Reg.CHAIN_ROOT_ID 0 2 * 2 ^ 64 + s.r Reg.CHAIN_ROOT_ID 0 3 * 2 ^ 96
/-- The position identity of the upstream beacon. -/
def State.upPosition (s : State) : Nat :=
  s.r Reg.CHAIN_POSITION_ID 0 0 + s.r Reg.CHAIN_POSITION_ID 0 1 * 2 ^ 32 + s.r Reg.CHAIN_POSITION_ID 0 2 * 2 ^ 64 + s.r Reg.CHAIN_POSITION_ID 0 3 * 2 ^ 96

/-- The chain state. -/
def State.chainState (s : State) : Nat := s.r Reg.CHAIN_STATE

/-- Set the chain state. -/
def State.setChain (s : State) (st : Nat) : State := (s.w Reg.CHAIN_STATE st).chainInhibit

/-- Show the state of a link. -/
def State.linkState (s : State) (l st : Nat) : State := s.w Reg.CHAIN_LINK_STATE st 0 l

/-- The state a live link has by its role. -/
def State.linkRole (s : State) (l : Nat) : Nat :=
  if s.decl.witness.isSome then 6
  else if s.r Reg.CHAIN_UPSTREAM = l then 2
  else if s.rbit Reg.CHAIN_CHILD_MASK l then 3
  else if s.rbit Reg.CHAIN_REFUSED_MASK l then 5
  else if s.rbit Reg.CHAIN_STANDBY_MASK l then 4
  else 1

/-! ## Beacons (R64, R65, R68, R70, R71) -/

/-- Payload of a BEACON (Table 14.7). -/
def beaconBytes (tide sender root depth position : Nat) : List Byte :=
  leBytes 8 tide ++ leBytes 16 sender ++ leBytes 16 root ++ leBytes 2 depth ++ leBytes 16 position ++ leBytes 2 0

/-- The links that a beacon goes out on (R64, R68): the child links, or before the first one is known every declared link but the
upstream link. DEDUCED: standby links carry no traffic, and no beacon travels toward the root, so a candidate has none. -/
def State.beaconLinks (s : State) : List Nat :=
  let mask := s.r Reg.CHAIN_CHILD_MASK
  (List.range 8).filter (fun l =>
    if mask = 0 then s.declaredLink l && decide (s.r Reg.CHAIN_UPSTREAM ≠ l) && !s.rbit Reg.CHAIN_STANDBY_MASK l &&
      decide (s.chain.cand ≠ some l)
    else bit mask l)

/-- BEACON_SEND (R64). DESIGN CHOICE: a device in RUN that is listening, joining or an orphan has no root above it; its beacon
gives its own position identity as the root identity. -/
def State.beaconSend (s : State) : State :=
  if !s.running || s.ebbRole || decide (s.chainState = 5) then s
  else
    let root := if s.chainState = 2 ∨ s.chainState = 3 then s.rootId else s.positionId
    s.over s.beaconLinks (fun l s => s.chainSend l 0x01 0 0 (beaconBytes s.tide s.serial root (s.r Reg.CHAIN_DEPTH) s.positionId))

/-- What JOIN carries and its signature covers (R66): serial, identity public key (x ‖ y), image tag. DESIGN CHOICE: the spec
gives no layout. -/
def State.joinBody (s : State) : List Byte :=
  leBytes 16 s.serial ++ Tab.getD s.vault.pub 5 [] ++ leBytes 4 (s.r Reg.TIDE_IMAGE_TAG)

/-- JOIN_SEND (R66): identity, identity public key and image tag, signed with the identity key (vault slot 5). -/
def State.joinSend (s : State) (l : Nat) : State :=
  let body := s.joinBody
  let (sig, s) := (s.inc Reg.KEY_USES 0 5).signWith 5 (Config.sha384 body).toNat
  let s := (s.chainSend l 0x04 0 0 (body ++ sig)).modChain (fun c => { c with joinOut := true, joinDue := false })
  if s.chainState = 4 then s else s.setChain 1

/-- Take a link as the upstream link of an admitted device. -/
def State.takeUpstream (s : State) (l : Nat) : State :=
  let old := s.r Reg.CHAIN_UPSTREAM
  let s := s.w Reg.CHAIN_UPSTREAM l
  let s := s.wbit Reg.CHAIN_STANDBY_MASK l false
  let s := if old < 8 ∧ old ≠ l then s.linkState old (s.linkRole old) else s
  let s := s.linkState l 2
  match Tab.find s.chain.last l with
  | some b =>
    let s := (s.w128 Reg.CHAIN_POSITION_ID b.position.toNat).w128 Reg.CHAIN_ROOT_ID b.root.toNat
    s.w Reg.CHAIN_DEPTH (min 65535 (b.depth.toNat + 1))
  | none => s

/-- BOUNDARY_TRIM (R430): a proportional-integral trim within 200 ppm, whose gains the spec does not state, or a step of
the phase beyond 40 ticks. -/
def State.boundaryTrim (s : State) (skew : Int) : State :=
  if 40 < skew.natAbs then s.modChain (fun c => { c with phase := c.phase + skew })
  else
    let (w, s) := s.freeWord
    s.modChain (fun c => { c with trim := ((w.toNat % 401 : Nat) : Int) - 200 })

/-- A beacon is acceptable on a link (R69). -/
def State.acceptable (s : State) (l : Nat) : Bool := s.declaredLink l && !s.rbit Reg.CHAIN_REFUSED_MASK l

/-- Note a beacon. -/
def State.beaconNote (s : State) (l : Nat) (b : Beacon) : State :=
  let s := s.modChain (fun c => { c with
    seen := if c.seen.contains l then c.seen else c.seen ++ [l]
    last := Tab.put c.last l b
    lastAt := Tab.put c.lastAt l s.tide
    miss := Tab.put c.miss l 0 })
  s.w128 Reg.CHAIN_PEER_ID b.sender.toNat l true

/-- Take a candidate: the first link, the lowest of one wave (R65). An acceptable beacon starts the wait of R69 again. -/
def State.takeCandidate (s : State) (l : Nat) : State :=
  let s := s.modChain (fun x => { x with waited := 0 })
  match s.chain.cand with
  | some c => if s.chain.candWave = s.now ∧ l < c then s.modChain (fun x => { x with cand := some l }) else s
  | none => s.modChain (fun x => { x with cand := some l, candWave := s.now })

/-- A listening device aligns its boundaries to the beacon of its new candidate (R65): its present wave becomes wave 0 of the
sender's tide, and the rest of the offset is a step of its phase. -/
def State.alignTo (s : State) (skew : Int) : State :=
  let s := (s.w Reg.TIDE_WAVE 0).modChain (fun c => { c with phase := c.phase + skew })
  s.modChain (fun c => { c with candWave := s.now })

/-- Same root identity on a link that is neither the upstream nor a child link: a standby link (R68). -/
def State.standby (s : State) (l : Nat) : State :=
  if s.rbit Reg.CHAIN_CHILD_MASK l then s
  else (s.wbit Reg.CHAIN_STANDBY_MASK l true).linkState l (if s.rbit Reg.CHAIN_REFUSED_MASK l then 5 else 4)

/-- A candidate taken in RUN (R65, R66): JOIN leaves once every beacon of the wave has been heard. -/
def State.joinAsk (s : State) : State := if s.chain.joinOut then s else s.modChain (fun c => { c with joinDue := true })

/-- The JOIN that a candidate of the wave that ends calls for. -/
def State.joinWave (s : State) : State :=
  match s.chain.cand with
  | some l => if s.chain.joinDue ∧ s.running ∧ !s.chain.joinOut then s.joinSend l else s
  | none => s

/-- BEACON_RECEIVE (R65, R66, R68, R70, R71). -/
def execBeaconReceive (link : Fin 8) (b : Beacon) (s : State) : Host.Outcome State Fault Refusal :=
  let l := link.val
  if !s.alive ∨ !s.declaredLink l ∨ s.chainState = 5 then .next s
  else
    match s.chainState with
    | 2 | 3 =>
      if b.root.toNat ≠ s.rootId then .next (s.ev Reg.CHAIN_EVENT 2)
      else if s.chainState = 3 then .next ((s.beaconNote l b).standby l)
      else
        let up := s.r Reg.CHAIN_UPSTREAM
        let lost := decide (3 ≤ Tab.getD s.chain.miss up 0)
        let s := s.beaconNote l b
        if l = up then
          let s := (s.w128 Reg.CHAIN_POSITION_ID b.position.toNat).w Reg.CHAIN_DEPTH (min 65535 (b.depth.toNat + 1))
          .next (s.boundaryTrim b.skew)
        else if lost ∧ b.position.toNat = s.upPosition ∧ s.acceptable l then
          .next ((s.takeUpstream l).modChain (fun c => { c with orphanDue := false, lostUp := false }))
        else .next (s.standby l)
    | 0 =>
      let s := s.beaconNote l b
      if !s.acceptable l then .next s
      else
        let new := s.chain.cand.isNone
        let s := (s.takeCandidate l).when new (fun s => s.alignTo b.skew)
        if s.phase = .join then .next (s.modStart (fun x => { x with runNext := true })) else .next s.joinAsk
    | 4 =>
      let s := s.beaconNote l b
      if !s.acceptable l ∨ !s.running then .next s else .next (s.takeCandidate l).joinAsk
    | _ => .next (s.beaconNote l b)

/-! ## Joining (R66, R67, R69) -/

/-- Declared children that are not admitted. -/
def State.missingChildren (s : State) : Nat :=
  (s.decl.children.filter (fun c => !s.chain.childId.any (fun p => decide (p.2 = c.serial)))).length

/-- JOIN_RECEIVE (R66): the parent answers ADMIT, or REFUSE with 0x0302. -/
def execJoinReceive (link : Fin 8) (j : Join) (s : State) : Host.Outcome State Fault Refusal :=
  let l := link.val
  if !s.running ∨ s.ebbRole ∨ !s.declaredLink l then .next s
  else
    let ok := s.decl.children.any (fun c => decide (c.serial = j.serial.toNat ∧ c.keyDigest = j.keyDigest)) && j.sigOk
    if ok then
      let s := s.modChain (fun c => { c with childId := Tab.put c.childId l j.serial.toNat })
      let s := ((s.wbit Reg.CHAIN_CHILD_MASK l true).wbit Reg.CHAIN_STANDBY_MASK l false).linkState l 3
      let s := s.w128 Reg.CHAIN_PEER_ID j.serial.toNat l true
      let s := if s.childState l = 0 then s.w Reg.ALLOC_CHILD_STATE 1 0 l else s
      let s := s.w Reg.CHAIN_MISSING s.missingChildren
      .next (s.chainSend l 0x05 0 0 [])
    else .next (s.chainSend l 0x06 0 0 (leBytes 2 0x0302))

/-- ADMIT_RECEIVE (R66, R108): the link becomes the child's upstream link; the budget of a newly admitted child stays zero until
its parent's first GRANT. -/
def execAdmitReceive (link : Fin 8) (s : State) : Host.Outcome State Fault Refusal :=
  let l := link.val
  if s.running ∧ s.chain.joinOut ∧ s.chain.cand = some l then
    let s := (s.takeUpstream l).w Reg.ALLOC_GRANT_IN 0
    let s := s.modChain (fun c => { c with joinOut := false, joinDue := false, cand := none, admitted := true, orphanDue := false, lostUp := false, miss := Tab.put c.miss l 0 })
    .next (s.setChain 2)
  else .next s

/-- REFUSE_RECEIVE (R66, R67): the link is marked REFUSED, and the device listens again; an orphan stays one. -/
def execRefuseReceive (link : Fin 8) (s : State) : Host.Outcome State Fault Refusal :=
  let l := link.val
  if s.running ∧ s.chain.joinOut ∧ s.chain.cand = some l then
    let s := ((s.wbit Reg.CHAIN_REFUSED_MASK l true).linkState l 5).ev Reg.CHAIN_EVENT 3
    let s := s.modChain (fun c => { c with joinOut := false, joinDue := false, cand := none, waited := 0 })
    .next (if s.chainState = 4 then s else s.setChain 0)
  else .next s

/-- Become an orphan (R69). -/
def State.becomeOrphan (s : State) : State :=
  let up := s.r Reg.CHAIN_UPSTREAM
  let s := s.w Reg.CHAIN_UPSTREAM 0xF
  let s := if up < 8 ∧ s.r Reg.CHAIN_LINK_STATE 0 up ≠ 0 then s.linkState up (s.linkRole up) else s
  let s := (s.w128 Reg.CHAIN_ROOT_ID 0).w Reg.CHAIN_DEPTH 0
  let s := s.modChain (fun c => { c with orphanDue := false, cand := none, joinOut := false, joinDue := false, waited := 0 })
  s.setChain 4

/-- ORPHAN_WAIT_EXPIRY (R69): a device in JOIN enters RUN as an orphan; one in RUN becomes an orphan at the next boundary. -/
def execOrphanWaitExpiry (s : State) : Host.Outcome State Fault Refusal :=
  if s.alive ∧ s.chainState = 0 ∧ s.r Reg.CHAIN_ORPHAN_WAIT ≤ s.chain.waited then
    if s.phase = .join then
      .next (s.becomeOrphan.modStart (fun x => { x with runNext := true, runOpen := x.runOpen || decide (s.wave = 0) }))
    else .next (s.modChain (fun c => { c with orphanDue := true }))
  else .next s

/-- UPSTREAM_LOST (R70): three consecutive beacons missed. A link on which a beacon of the same position identity has
arrived in the same or the next tide becomes the upstream link; otherwise the device is an orphan at the next boundary. -/
def execUpstreamLost (s : State) : Host.Outcome State Fault Refusal :=
  let up := s.r Reg.CHAIN_UPSTREAM
  if s.running ∧ s.chainState = 2 ∧ 3 ≤ Tab.getD s.chain.miss up 0 ∧ !s.chain.lostUp then
    let s := s.ev Reg.CHAIN_EVENT 0
    let other := (List.range 8).find? (fun l => decide (l ≠ up) && s.acceptable l && !s.rbit Reg.CHAIN_CHILD_MASK l &&
      (match Tab.find s.chain.last l with | some b => decide (b.position.toNat = s.upPosition) | none => false) &&
      decide (s.chain.missAt ≤ Tab.getD s.chain.lastAt l 0))
    match other with
    | some l => .next (s.takeUpstream l)
    | none => .next (s.modChain (fun c => { c with orphanDue := true, lostUp := true }))
  else .next s

/-- COVE_FORMED (R77). -/
def execCoveFormed (s : State) : Host.Outcome State Fault Refusal :=
  if s.running ∧ !s.decl.children.isEmpty ∧ !s.chain.formed ∧ (s.missingChildren = 0 ∨ s.r Reg.CHAIN_JOIN_WAIT ≤ s.start.runTides) then
    .next ((s.w Reg.CHAIN_MISSING s.missingChildren).modChain (fun c => { c with formed := true }))
  else .next s

/-! ## Boundaries -/

/-- The beacons missed in the tide that ends, and the tides listened. The tide number is that of the tide that begins. -/
def State.chainMissTide (s : State) : State :=
  let watch := (List.range 8).filter (fun l => decide (s.r Reg.CHAIN_LINK_STATE 0 l = 2 ∨ s.r Reg.CHAIN_LINK_STATE 0 l = 4 ∨ (s.chainState = 2 ∧ s.r Reg.CHAIN_UPSTREAM = l)))
  let s := s.over watch (fun l s =>
    if s.chain.seen.contains l then s
    else
      let k := Tab.getD s.chain.miss l 0 + 1
      (s.inc Reg.CHAIN_BEACON_MISS 0 l).modChain (fun c => { c with
        miss := Tab.put c.miss l k
        missAt := if s.r Reg.CHAIN_UPSTREAM = l ∧ k = 3 then s.tide - 1 else c.missAt }))
  s.modChain (fun c => { c with seen := [], waited := if s.chainState = 0 then c.waited + 1 else c.waited })

/-- RENUMBER (R73): an admitted device adopts its parent's numbering at the boundary after ADMIT. -/
def State.renumber (s : State) : State :=
  if !s.chain.admitted then s
  else
    let s := s.modChain (fun c => { c with admitted := false })
    let up := s.r Reg.CHAIN_UPSTREAM
    match Tab.find s.chain.last up, Tab.find s.chain.lastAt up with
    | some b, some t =>
      let n := b.tide + (s.tide - t)
      if n = s.tide then s
      else
        let s := s.modChain (fun c => { c with lastAt := [] })
        ((s.w64 Reg.TIDE_NUMBER_LO Reg.TIDE_NUMBER_HI n).inc Reg.CHAIN_RENUMBER).txnDiscard
    | _, _ => s

/-- The chain at a boundary. -/
def State.chainTide (s : State) : State :=
  let s := s.chainMissTide
  let s := if s.chain.orphanDue ∧ s.running then s.becomeOrphan else s
  let s := s.renumber
  s.beaconSend

/-- DELAY_REQ_SEND (R430): at wave 100, on the upstream link and on every standby link. -/
def State.delayReqSend (s : State) : State :=
  if s.alive ∧ s.wave = 100 then
    s.over ((List.range 8).filter (fun l => decide (s.r Reg.CHAIN_LINK_STATE 0 l = 2 ∨ s.r Reg.CHAIN_LINK_STATE 0 l = 4)))
      (fun l s => s.chainSend l 0x02 0 0 [])
  else s

/-! ## The send queue (R425, R428) -/

/-- The next frame of some that wait: the lowest priority number, the oldest of it. -/
def nextTx (l : List ChainTx) : Option ChainTx :=
  l.foldl (fun x q => match x with
    | none => some q
    | some y => if chainPriority q.type < chainPriority y.type then some q else some y) none

/-- A link sends what waits for it, one frame after the other, while the wave lasts: 6,250 byte times of 4 ns. After tick 200 of
wave 399 no frame but BEACON starts. -/
def State.linkDrain (l : Nat) : Nat → State → State
  | 0, s => s
  | k + 1, s =>
    let t := Tab.getD s.chain.clock l 0
    let mine := s.chain.queue.filter (fun x => decide (x.link = l) && (decide (s.wave ≠ 399 ∨ t ≤ 2000) || decide (x.type = 0x01)))
    match nextTx mine with
    | some x =>
      if 6250 ≤ t then s
      else State.linkDrain l k ((s.modChain (fun c => { c with
        queue := c.queue.erase x, clock := Tab.put c.clock l (t + x.size) })).emit x.frame)
    | none => s

/-- The links send (R428). DESIGN CHOICE: frames that commands queue within a wave leave when the next wave begins. -/
def State.chainDrain (s : State) : State := s.each 8 (fun l s => State.linkDrain l s.chain.queue.length s)

/-- A wave begins on the chain links: a frame that the last wave began runs on. -/
def State.chainWave (s : State) : State :=
  (s.modChain (fun c => { c with clock := c.clock.map (fun p => (p.1, p.2 - 6250)) })).joinWave.chainDrain

/-! ## Routing (R74 to R76, R426) -/

/-- Where a chain address leads: the error of a bad address, this device, its parent, or a next hop. -/
inductive Route where
  | bad (code : Nat)
  | here
  | parent
  | hop (link : Nat) (next : ChainAddr)
  deriving DecidableEq, Repr

/-- The route of an address (R74, R75). DEDUCED: the parent of a device that is not a member is no child link, 0x0301. -/
def State.route (s : State) (a : ChainAddr) : Route :=
  let hops := a.ctrl.toNat % 32
  let up := a.ctrl.getLsbD 7
  if 21 < hops ∨ a.ctrl.toNat / 32 % 4 ≠ 0 ∨ (up ∧ hops ≠ 0) then .bad 0x0303
  else if up then (if s.chainState = 2 then .parent else .bad 0x0301)
  else if hops = 0 then .here
  else
    let l := a.path.toNat % 8
    if s.rbit Reg.CHAIN_CHILD_MASK l then .hop l ⟨BitVec.ofNat 8 (hops - 1), a.path >>> 3⟩ else .bad 0x0301

/-- Forward a routed message on a link, with its address as the next device sees it (R75). -/
def State.forward (s : State) (l : Nat) (a : ChainAddr) (kind id : Nat) (payload : List Byte) : State :=
  s.chainMessage l kind a.ctrl.toNat a.path.toNat id payload

/-- Every fragment of a message has arrived (R426); a message with a missing one is discarded. -/
def msgWhole (m : Routed) : Bool := (List.range (m.lastFrag + 1)).all (fun i => m.frags.any (fun f => decide (f.1 = i) && decide (f.2.length ≤ 4096)))

/-- The payload of a message, assembled in the order of its fragments. -/
def msgPayload (m : Routed) : List Byte := (List.range (m.lastFrag + 1)).flatMap (fun i => Tab.getD m.frags i [])

/-- An error that a device returns to the sender of a message. -/
def State.routeError (s : State) (m : Routed) (code : Nat) : State := s.replyUp m.msgId m.travelled (leBytes 2 code)

/-- CHAIN_FORWARD (R75, R426): a downward message is forwarded, or dropped with 0x0301; a message with a missing fragment
is discarded. -/
def execChainForward (m : Routed) (s : State) : Host.Outcome State Fault Refusal :=
  if !s.running ∨ !(msgWhole m) then .next s
  else match s.route m.addr with
    | .bad c => .next (s.routeError m c)
    | .hop l a => .next (s.forward l a m.kind m.msgId (msgPayload m))
    | .here | .parent => .next (s.emit (.bytes "DELIVER" (msgPayload m)))

/-- CHAIN_REPLY (R75, R76): the hop count falls at each device; a reply to a PROXY goes back to the proxy's sender, and one to a
relayed request of a TLS connection to that connection (R446). -/
def execChainReply (msgId : Nat) (hops : Nat) (payload : List Byte) (s : State) : Host.Outcome State Fault Refusal :=
  if !s.running then .next s
  else
    let left := hops - 1
    if left = 0 then
      match Tab.find s.chain.proxies msgId with
      | some h => .next ((s.modChain (fun c => { c with proxies := Tab.del c.proxies msgId })).replyUp msgId h payload)
      | none => match Tab.find s.chain.relays msgId with
        | some k => .next ((s.modChain (fun c => { c with relays := Tab.del c.relays msgId })).emit (.link "TLS" k (payload.map (·.toNat))))
        | none => .next (s.replyUp msgId 0 payload)
    else .next (s.replyUp msgId left payload)

/-- PROXY_RECEIVE (R76): the addressed device re-sends the payload as its own request. -/
def execProxyReceive (m inner : Routed) (s : State) : Host.Outcome State Fault Refusal :=
  if !s.running ∨ !(msgWhole m) then .next s
  else match s.route m.addr with
    | .here =>
      match s.route inner.addr with
      | .bad c => .next (s.routeError m c)
      | .hop l a =>
        let s := s.modChain (fun c => { c with proxies := Tab.put c.proxies m.msgId m.travelled })
        .next (s.forward l a inner.kind m.msgId (msgPayload inner))
      | .here | .parent => .next (s.emit (.bytes "DELIVER" (msgPayload inner)))
    | .bad c => .next (s.routeError m c)
    | .hop l a => .next (s.forward l a m.kind m.msgId (msgPayload m))
    | .parent => .next s

/-! ## Links (R425, R430) -/

/-- CHAIN_LINK_UP (R425): a link comes up in the state its role gives it, unless its measured delay holds it down. -/
def execChainLinkUp (link : Fin 8) (s : State) : Host.Outcome State Fault Refusal :=
  let l := link.val
  if s.alive ∧ s.r Reg.CHAIN_LINK_STATE 0 l = 0 ∧ !s.chain.heldDown.contains l then .next (s.linkState l (s.linkRole l)) else .next s

/-- CHAIN_LINK_DOWN (R425): LINK_STATE falls to down; a standby link ceases to be one. -/
def execChainLinkDown (link : Fin 8) (s : State) : Host.Outcome State Fault Refusal :=
  let l := link.val
  if s.r Reg.CHAIN_LINK_STATE 0 l = 0 then .next s
  else .next ((s.wbit Reg.CHAIN_STANDBY_MASK l false).linkState l 0)

/-- DELAY_REQ_RECEIVE (R430): the far end answers with the arrival and its own departure time, in 2.5 ns. -/
def execDelayReqReceive (link : Fin 8) (t2 t3 : Nat) (s : State) : Host.Outcome State Fault Refusal :=
  if s.alive ∧ s.r Reg.CHAIN_LINK_STATE 0 link.val ≠ 0 then .next (s.chainSend link.val 0x03 0 0 (leBytes 8 t2 ++ leBytes 8 t3)) else .next s

/-- The mean of the delay measurements, each ((t4 − t1) − (t3 − t2)) / 2 in 2.5 ns, to the nearest tick of 40 ns. -/
def delayTicks (l : List Int) : Int :=
  let n : Int := l.length
  if n = 0 then 0 else (l.foldl (· + ·) 0 + 16 * n) / (32 * n)

/-- DELAY_RESP_RECEIVE (R430): DELAY is the mean over the last 8 exchanges; a link over 2,500 ticks is held down. -/
def execDelayRespReceive (link : Fin 8) (t1 t2 t3 t4 : Nat) (s : State) : Host.Outcome State Fault Refusal :=
  let l := link.val
  if s.alive ∧ (s.r Reg.CHAIN_LINK_STATE 0 l = 2 ∨ s.r Reg.CHAIN_LINK_STATE 0 l = 4) then
    let d : Int := ((t4 : Int) - t1) - ((t3 : Int) - t2)
    let ds := (d :: Tab.getD s.chain.delays l []).take 8
    let ticks := (max 0 (delayTicks ds)).toNat
    let s := s.modChain (fun c => { c with delays := Tab.put c.delays l ds })
    let s := s.w Reg.CHAIN_DELAY (min 65535 ticks) 0 l
    if 2500 < ticks then
      let s := s.modChain (fun c => { c with heldDown := if c.heldDown.contains l then c.heldDown else c.heldDown ++ [l] })
      .next ((s.wbit Reg.CHAIN_STANDBY_MASK l false).linkState l 0)
    else .next s
  else .next s

/-- EVENT_FRAME_RECEIVE (R453): delivered to the subscriptions here that watch the block, else relayed upward. -/
def execEventFrameReceive (e : EventMsg) (s : State) : Host.Outcome State Fault Refusal :=
  if !s.running then .next s
  else
    let subs := s.command.subs.filter (fun b => b.blocks.getLsbD (e.addr / 0x1000000))
    if subs.isEmpty then
      if s.chainState = 2 then .next (s.chainSend (s.r Reg.CHAIN_UPSTREAM) 0x33 ctrlUp 0 (eventBytes e.tide e.addr e.bits)) else .next s
    else .next (s.over subs (fun b s => s.queueMsg { conn := b.conn, words := [e.tide, e.addr, e.bits] }))

/-! ## Entry to JOIN -/

/-- The chain at step 7 (R63, R79): a root has its own identity, a witness takes no part, every other device listens. -/
def State.chainJoin (s : State) : State :=
  let s := s.modChain (fun _ => {})
  let s := ((s.w Reg.CHAIN_UPSTREAM 0xF).w Reg.CHAIN_CHILD_MASK 0).w Reg.CHAIN_STANDBY_MASK 0
  let s := ((s.w Reg.CHAIN_REFUSED_MASK 0).w Reg.CHAIN_DEPTH 0).w128 Reg.CHAIN_POSITION_ID 0
  let s := (s.w Reg.CHAIN_DECLARED s.decl.children.length).w Reg.CHAIN_MISSING s.decl.children.length
  let s := s.each 8 (fun l s => s.linkState l 0)
  if s.decl.witness.isSome then (s.w128 Reg.CHAIN_ROOT_ID 0).setChain 5
  else if s.rbit Reg.DEV_STRAPS 0 then (s.w128 Reg.CHAIN_ROOT_ID s.positionId).setChain 3
  else (s.w128 Reg.CHAIN_ROOT_ID 0).setChain 0

end Sys2Proof.Machine
end

