-- ==== Sys2Proof/Machine/Cool.lean ====
section
/-! DEFINITION. Cable cooling: the thermal model, the headroom current, the coolant circuits (chapter 6, R192 to R197). -/
namespace Sys2Proof.Machine

set_option cleanup.letToHave false

/-- What the model keeps of a cable. -/
def State.cable (s : State) (k : Nat) : CableI := Tab.getD s.loop.cables k {}

/-- Set a cable's nodes, and what the object map shows of them. -/
def State.setCable (s : State) (k : Nat) (c : CableI) : State :=
  let s := s.modLoop (fun x => { x with cables := Tab.put x.cables k c })
  let show_ := fun (x : F32) => fToInt (fMul x (fOfInt 100)) 0
  ((s.wi Reg.COOL_T_COND (show_ c.tc) k).wi Reg.COOL_T_COOL (show_ c.tw) k).wi Reg.COOL_T_JACK (show_ c.tj) k

/-- The declared cables. -/
def State.cables (s : State) : List Nat := (List.range 32).filter (fun k => s.rb Reg.COOL_PRESENT k)

/-- The present inputs of a model, with the substitutes of R193: I in A, F in L/min, Tin, Tamb, Tout (none while invalid),
all in binary32; and SENSOR_BAD. -/
structure CableIn where
  i : F32
  f : F32
  tin : F32
  tamb : F32
  tout : Option F32
  /-- Inlet in 0.01 °C, flow in 0.1 L/min, current in 0.1 A as in use. -/
  tinRaw : Int
  flowRaw : Int
  curRaw : Nat
  bad : Nat
  deriving DecidableEq, Repr

/-- Gather the inputs (R192, R193). -/
def State.cableIn (s : State) (k : Nat) : CableIn :=
  let (ti, ti1) := s.measured (s.r Reg.COOL_INLET_SRC k)
  let (tout, to1) := s.measured (s.r Reg.COOL_OUTLET_SRC k)
  let (fl, fl1) := s.measured (s.r Reg.COOL_FLOW_SRC k)
  let (ta, ta1) := s.measured (s.r Reg.COOL_AMB_SRC k)
  let (cu, cu1) := s.measured (0x05000000 + k)
  let fail := s.ri Reg.COOL_INLET_FAIL k
  let ti := if ti1 then ti else fail
  let ta := if ta1 then ta else fail
  let fl := if fl1 then fl else 0
  let cu := if cu1 then cu.natAbs else s.r Reg.SESS_RATED_I k
  let c := fun (x : Int) => fDiv (fOfInt x) (fOfInt 100)
  { i := fDiv (fOfInt (cu : Nat)) (fOfInt 10)
    f := fDiv (fOfInt fl) (fOfInt 10)
    tin := c ti
    tamb := c ta
    tout := if to1 then some (c tout) else none
    tinRaw := ti
    flowRaw := fl
    curRaw := cu
    bad := (!ti1).toNat + 2 * (!to1).toNat + 4 * (!fl1).toNat + 8 * (!ta1).toNat + 16 * (!cu1).toNat }

/-- One step of the model over `h` seconds (R192), in the order of the rule. -/
def State.cableStep (s : State) (k : Nat) (h : F32) (q : CableIn) (x : CableI) : CableI :=
  let one : F32 := 0x3F800000#32
  let g := fun f => s.rf f k
  let rcw := g Reg.COOL_R_CW
  let rwj := g Reg.COOL_R_WJ
  let rja := g Reg.COOL_R_JA
  let pj := fMul (fMul (fMul q.i q.i) (g Reg.COOL_R20)) (fAdd one (fMul (g Reg.COOL_ALPHA) (fSub x.tc (fOfInt 20))))
  let gf := fMul (g Reg.COOL_K_FLOW) q.f
  let tcS := fAdd x.tw (fMul pj rcw)
  let tc := fMul (g Reg.COOL_C_COND) rcw
  let gw := fAdd (fAdd (fDiv one rcw) (fDiv one rwj)) gf
  let twS := fDiv (fAdd (fAdd (fDiv x.tc rcw) (fDiv x.tj rwj)) (fMul gf q.tin)) gw
  let tw := fDiv (g Reg.COOL_C_COOL) gw
  let gj := fAdd (fDiv one rwj) (fDiv one rja)
  let tjS := fDiv (fAdd (fDiv x.tw rwj) (fDiv q.tamb rja)) gj
  let tj := fDiv (g Reg.COOL_C_JACK) gj
  let relax := fun (star v t : F32) => fAdd star (fMul (fSub v star) (Config.fexp (fDiv (fNeg h) t)))
  let nc := relax tcS x.tc tc
  let nw := relax twS x.tw tw
  let nj := relax tjS x.tj tj
  let nw := match q.tout with
    | some o => fAdd nw (fMul (g Reg.COOL_K_OBS) (fSub o nw))
    | none => nw
  ⟨nc, nw, nj⟩

/-- The largest conductor temperature over `m` steps of 1 s (R194). -/
def State.cablePeak (s : State) (k : Nat) (q : CableIn) : Nat → CableI → F32 → F32
  | 0, _, best => best
  | m + 1, x, best =>
    let x' := s.cableStep k 0x3F800000#32 q x
    State.cablePeak s k q m x' (fMax best x'.tc)

/-- The pump loop of the cable's circuit is in control. -/
def State.pumpInControl (s : State) (c : Nat) : Bool :=
  let p := s.r Reg.COOLC_PUMP_LOOP c
  decide (p < 128) && decide (s.r Reg.LOOP_STATE p = 1 ∨ s.r Reg.LOOP_STATE p = 2)

/-- peak(c) of R194: 60 steps of R192 of 1 s with the current c (0.1 A). DEDUCED: the outlet stands at its present value, as the
other inputs do. -/
def State.peakOf (s : State) (k : Nat) (q : CableIn) (c : Nat) : F32 :=
  let q := { q with i := fDiv (fOfInt (c : Nat)) (fOfInt 10) }
  let x := s.cable k
  let first := s.cableStep k 0x3F800000#32 q x
  s.cablePeak k q 59 first first.tc

/-- The bisection of R194, from bit `b` − 1 down. -/
def State.headBits (s : State) (k : Nat) (q : CableIn) (lim : F32) : Nat → Nat → Nat
  | 0, head => head
  | b + 1, head =>
    let cand := head + 2 ^ b
    State.headBits s k q lim b (if cand ≤ s.r Reg.SESS_RATED_I k ∧ fLe (s.peakOf k q cand) lim = true then cand else head)

/-- HEADROOM_UPDATE (R194, R195), for the tide `n` that ended. -/
def State.headUpdate (s : State) (k n : Nat) : State :=
  if n % 10 = k % 10 then
    let q := s.cableIn k
    let q := if s.pumpInControl (s.r Reg.COOL_CIRCUIT k) then q else { q with f := 0 }
    let lim := fDiv (fOfInt ((s.r Reg.COOL_T_MAX k : Int) - (s.r Reg.COOL_MARGIN k : Int))) (fOfInt 100)
    let head := s.headBits k q lim 16 0
    let s := (s.w Reg.COOL_HEADROOM head k).w Reg.COOL_HEAD_TIDE n k
    s.wi Reg.COOL_PRED_PEAK (fToInt (fMul (s.peakOf k q head) (fOfInt 100)) 0) k
  else s

/-- CABLE_MODEL_STEP (R192, R193) of the tide that ended. -/
def State.cableTide (s : State) (k : Nat) : State :=
  let q := s.cableIn k
  let s := ((s.w Reg.COOL_SENSOR_BAD q.bad k).wi Reg.COOL_T_INLET q.tinRaw k).w Reg.COOL_FLOW q.flowRaw.toNat k
  let s := s.w Reg.COOL_I_COND q.curRaw k
  s.setCable k (s.cableStep k (fDiv (fOfInt 1) (fOfInt 100)) q (s.cable k))

/-- HEADROOM_FORCED_ZERO (R195). -/
def State.headZero (s : State) (k : Nat) : State := (s.w Reg.COOL_HEADROOM 0 k).ev Reg.COOL_EVENT 1 k

/-- FLOW_DEMAND of a cable (R197). -/
def State.flowDemand (s : State) (k : Nat) : Nat :=
  let lo := s.r Reg.COOL_FLOW_MIN k
  if !s.energised k then lo
  else
    let c := fun (v : Int) => fDiv (fOfInt v) (fOfInt 100)
    let t := (s.cable k).tc
    let tl := c (s.ri Reg.COOL_T_LOW k)
    let th := c (s.ri Reg.COOL_T_HIGH k)
    let x := fClamp 0 0x3F800000#32 (fDiv (fSub t tl) (fSub th tl))
    let span : Int := (s.r Reg.COOL_FLOW_MAX k : Int) - (lo : Int)
    (fToInt (fAdd (fOfInt (lo : Nat)) (fMul (fOfInt span) x)) lo).toNat

/-- What forces a headroom to 0 at the next boundary (R195), seen at each wave: an input of a cable becomes invalid, or the pump
loop of its circuit leaves control. -/
def State.coolWatch (s : State) : State :=
  if s.r Reg.PAIR_ROLE = 3 ∨ s.cables = [] then s
  else
    let ok := (List.range 8).filter (fun c => s.rb Reg.COOLC_PRESENT c && s.pumpInControl c)
    let left := s.loop.pumpOk.filter (fun c => !ok.contains c)
    let bads := s.cables.map (fun k => (k, (s.cableIn k).bad))
    let fresh := (bads.filter (fun p => decide (p.2 &&& (Tab.getD s.loop.sensor p.1 0 ^^^ 31) ≠ 0))).map (·.1)
    let zero := s.cables.filter (fun k => fresh.contains k || left.contains (s.r Reg.COOL_CIRCUIT k))
    let s := (s.over left (fun c s => s.ev Reg.COOLC_EVENT 0 c)).over fresh (fun k s => s.ev Reg.COOL_EVENT 0 k)
    s.modLoop (fun x => { x with pumpOk := ok, sensor := bads, zeroDue := x.zeroDue ++ zero })

/-- LOOP_ENGINE of a wave, with what the cooling work sees of it. -/
def State.loopCoolWave (s : State) : State :=
  if s.running then s.coolWatch.loopWave.coolWatch else s.loopWave

/-! ### Saves (R196) -/

/-- The two MRAM slots of the saves. DESIGN CHOICE: the spec gives neither their place nor their layout. A slot holds a sequence
number, the RTC time in ms, the mask of the cables, the three nodes of each of 32 cables in binary32, and the CRC-32C over the
bytes before it. -/
def saveBase (b : Bool) : Nat := if b then 0x05FF1200 else 0x05FF1000

/-- A slot is valid: its CRC-32C holds. -/
def State.saveValid (s : State) (b : Bool) : Bool :=
  decide (s.mword (saveBase b + 400) 4 = (crc32c (s.mread (saveBase b) 400)).toNat)

/-- The newer valid slot. -/
def State.saveNewest (s : State) : Option Bool :=
  match s.saveValid false, s.saveValid true with
  | true, true => some (decide (s.mword (saveBase false) 4 < s.mword (saveBase true) 4))
  | true, false => some false
  | false, true => some true
  | false, false => none

/-- Write every cable model's state into the slot that is not the newer valid one. -/
def State.cableSave (s : State) : State :=
  let cs := s.cables
  if cs = [] then s
  else
    let b := match s.saveNewest with
      | some b => !b
      | none => false
    let seq := match s.saveNewest with
      | some b => s.mword (saveBase b) 4 + 1
      | none => 1
    let node := fun (k : Nat) => let c := s.cable k; leBytes 4 c.tc.toNat ++ leBytes 4 c.tw.toNat ++ leBytes 4 c.tj.toNat
    let body := leBytes 4 seq ++ leBytes 8 (s.r64 Reg.BILL_RTC_LO Reg.BILL_RTC_HI) ++
      leBytes 4 (cs.foldl (fun v k => v + 2 ^ k) 0) ++ (List.range 32).flatMap node
    s.queueWrite .other (saveBase b) (body ++ leBytes 4 (crc32c body).toNat)

/-- The saved nodes of a cable in a slot, with the RTC time of the save. -/
def State.savedCable (s : State) (b : Bool) (k : Nat) : Option (CableI × Nat) :=
  let a := saveBase b
  let w := fun (o : Nat) => BitVec.ofNat 32 (s.mword (a + 16 + 12 * k + o) 4)
  if (s.mword (a + 12) 4).testBit k then some (⟨w 0, w 4, w 8⟩, s.mword (a + 4) 8) else none

/-- The cooling work of a tide boundary: model, headroom, circuits, save (R192 to R197). `n` is the tide that ended. -/
def State.coolTide (s : State) (n : Nat) : State :=
  if s.r Reg.PAIR_ROLE = 3 then s
  else
    let s := s.coolWatch
    let trip := (List.range 8).filter (fun c => s.rb Reg.COOLC_PRESENT c && decide (s.r Reg.COOLC_FAN_LOOP c < 128) &&
      decide (s.r Reg.LOOP_STATE (s.r Reg.COOLC_FAN_LOOP c) = 5))
    let s := s.over (trip.filter (fun c => !s.loop.fanTrip.contains c)) (fun c s => s.ev Reg.COOLC_EVENT 1 c)
    let zero := s.loop.zeroDue
    let s := s.modLoop (fun x => { x with fanTrip := trip, zeroDue := [] })
    let s := s.over s.cables (fun k s =>
      let s := (s.cableTide k).headUpdate k n
      let s := s.when (zero.contains k) (fun s => s.headZero k)
      s.w Reg.COOL_FLOW_DEMAND (s.flowDemand k) k)
    let s := s.each 8 (fun c s =>
      if s.rb Reg.COOLC_PRESENT c then
        s.w Reg.COOLC_FLOW_DEMAND ((s.cables.filter (fun k => decide (s.r Reg.COOL_CIRCUIT k = c))).foldl (fun v k => max v (s.r Reg.COOL_FLOW_DEMAND k)) 0) c
      else s)
    s.when (decide (n % 100 = 99)) State.cableSave

/-- Age a model by `m` steps of 1 s at no current (R196). -/
def State.cableAge (s : State) (k : Nat) (q : CableIn) : Nat → CableI → CableI
  | 0, x => x
  | m + 1, x => State.cableAge s k q m (s.cableStep k 0x3F800000#32 q x)

/-- Restore at RUN (R196). DEDUCED: a save from after the present RTC time tells no elapsed time, and is used as none. -/
def State.coolRun (s : State) : State :=
  let newest := s.saveNewest
  let rtc := s.r64 Reg.BILL_RTC_LO Reg.BILL_RTC_HI
  let rtcOk := decide (s.r Reg.BILL_TIME_STATUS ≠ 0x55)
  s.over s.cables (fun k s =>
    let q := s.cableIn k
    let hot := fMax q.tin q.tamb
    let cold := fun (s : State) (c : CableI) => (s.setCable k c).ev Reg.COOL_EVENT 3 k
    if !rtcOk then
      cold s ⟨fDiv (fOfInt ((s.r Reg.COOL_T_MAX k : Int) - (s.r Reg.COOL_MARGIN k : Int))) (fOfInt 100), hot, hot⟩
    else
      match newest.bind (fun b => s.savedCable b k) with
      | none => cold s ⟨hot, hot, hot⟩
      | some (c, at_) =>
        if rtc < at_ ∨ 600000 < rtc - at_ then cold s ⟨hot, hot, hot⟩
        else (s.setCable k (s.cableAge k { q with i := 0 } ((rtc - at_ + 999) / 1000) c)).ev Reg.COOL_EVENT 2 k)

end Sys2Proof.Machine
end

