-- ==== Sys2Proof/Machine/Pair.lean ====
section
/-! DEFINITION. Redundant pairs and the lighthouse (chapter 12; R79 to R81). -/
namespace Sys2Proof.Machine

set_option cleanup.letToHave false

/-- The image declares a pair. -/
def State.paired (s : State) : Bool := decide (s.r Reg.PAIR_ROLE ≠ 0)

/-- The unit is the twin. -/
def State.twin (s : State) : Bool := decide (s.r Reg.PAIR_UNIT = 1)

/-! ## Health (R364, R365) -/

/-- FLAGS of the own HEALTH record: bit 0 pass, bits 1 to 5 the conditions, bit 6 moves pending. DEDUCED from R80 and its example,
where the home unit is granted at a cold start by its passing report: condition 3 holds too for a starting unit while no partner
claims, for there is no mirror to hear. -/
def State.healthFlags (s : State) : Nat :=
  let p := s.pair
  let c1 := decide (s.r Reg.SAFE_INT_FAULT = 0)
  let c2 := !s.rb Reg.BIST_ROLL_FAIL
  let c3 := s.rb Reg.PAIR_CLAIM || (decide (s.r Reg.PAIR_ROLE = 1) && !s.rb Reg.PAIR_FLOOD_IN) || decide (2 ≤ p.mirrorRun) || (decide (s.r Reg.PAIR_MIRROR_AGE ≤ 8) && decide (100 ≤ p.mirrorRunBefore))
  let c4 := p.lightLast
  let c5 := decide (s.r Reg.DEV_INHIBIT % 8 = 0)
  let pass := c1 && c2 && c3 && c4 && c5
  pass.toNat + 2 * c1.toNat + 4 * c2.toNat + 8 * c3.toNat + 16 * c4.toNat + 32 * c5.toNat + (if s.r Reg.MTX_PENDING = 0 then 0 else 64)

/-- The own health passed in the last tide. -/
def State.healthy (s : State) : Bool := s.rbit Reg.PAIR_HEALTH 0

/-- A HEALTH record (Table 12.1). -/
def healthBytes (tide role unit flags svn pass : Nat) : List Byte :=
  leBytes 4 tide ++ leBytes 1 role ++ leBytes 1 unit ++ leBytes 2 flags ++ leBytes 4 svn ++ leBytes 4 pass

/-- A LIGHT record (Table 12.1). -/
def lightBytes (tide flood : Nat) (grant : Bool) (misses : Nat) : List Byte :=
  leBytes 4 tide ++ leBytes 1 flood ++ leBytes 1 grant.toNat ++ leBytes 2 misses

/-- HEALTH_SEND (R364): at wave 200, to the lighthouse and to the partner. -/
def State.healthSend (s : State) : State :=
  let w := healthBytes s.tide (s.r Reg.PAIR_ROLE) (s.r Reg.PAIR_UNIT) s.healthFlags (s.r Reg.DEV_FW_SVN) (s.r Reg.PAIR_PASS_TIDES)
  (s.chainSend (s.r Reg.PAIR_LH_LINK) 0x20 0 0 w).chainSend (s.r Reg.PAIR_PAIR_LINK) 0x20 0 0 w

/-- A field the ebb unit takes from the mirror (Table 12.2): what a loop instance without EBB_RUN takes is the list of
R191; of allocation, matrix, cabinets, sessions and cable models it is what the flood unit computes, and nothing that the image
gives (R120). -/
def State.mirrorPlace (s : State) (p : Place) : Bool :=
  if p.f.block = 8 then
    [Reg.LOOP_MODE, Reg.LOOP_R_EFF, Reg.LOOP_I_TERM, Reg.LOOP_D_TERM, Reg.LOOP_Y_MODEL, Reg.LOOP_U].contains p.f && !s.rb Reg.LOOP_EBB_RUN p.n
  else
    decide (4 ≤ p.f.block ∧ p.f.block ≤ 9) && decide (p.f.acc = .ro) && !p.f.fromImage && decide (p.f.base ≠ Reg.SESS_SESSION_NO.base) &&
      decide (p.f.base / 0x10000 ≠ Reg.SESSX_REC_COUNT.base / 0x10000)

/-- The mirrored places of a word. -/
def State.mirrorPlaces (s : State) (a : Nat) : List Place := (placesAt a).filter s.mirrorPlace

/-- A key of the register file belongs to a mirrored field. -/
def State.mirrorKey (s : State) (k : Nat) : Bool := (s.mirrorPlaces (k / 32)).any (fun p => decide (p.f.lo = k % 32))

/-- The mirrored words that are not at their defaults. -/
def State.mirrorRegs (s : State) : List (Nat × BitVec 32) :=
  let l := s.regs.foldr (fun q l => if s.mirrorKey q.1 && decide (l.head? ≠ some (q.1 / 32)) then q.1 / 32 :: l else l) []
  l.map (fun a => (a, BitVec.ofNat 32 ((s.mirrorPlaces a).foldl (fun v p => v + s.r p.f p.n p.i p.j * 2 ^ p.f.lo) 0)))

/-- The mirror of a tide (Table 12.2, R110, R136, R191, R196, R447). -/
def State.mirrorOf (s : State) : Mirror :=
  let mask := fun (k : Nat) (on : Nat → Bool) => (List.range k).foldl (fun v c => if on c then setBit v c true else v) 0
  { tide := s.tide
    fwSvn := BitVec.ofNat 32 (s.r Reg.DEV_FW_SVN)
    regs := s.mirrorRegs
    changes := s.pendingChanges
    window := s.command.windows.flatMap (fun q => q.2.map (fun e =>
      (BitVec.ofNat 64 (s.r Reg.CMD_ISS_ID_HI 0 q.1 * 4294967296 + s.r Reg.CMD_ISS_ID_LO 0 q.1), e.id, e.result, e.apply)))
    seqs := s.matrix.cabs.map (fun q => (q.1, q.2.seq))
    sids := s.session.conns.map (fun q => (q.1, q.2.sid))
    sout := BitVec.ofNat 16 (mask 16 (fun c => s.rbit Reg.PAIR_PAIRED_SOUT c && s.rbit Reg.SAFE_ENABLED c))
    ls := BitVec.ofNat 32 (mask 32 (fun c => s.rbit Reg.PAIR_PAIRED_LS c && s.rb Reg.LS_LATCHED c))
    loops := (s.loop.loops.filter (fun q => !s.rb Reg.LOOP_EBB_RUN q.1)).map (fun q => ⟨q.1, q.2.dqPrev, q.2.anchor, q.2.hist⟩)
    cables := s.loop.cables.map (fun q => ⟨q.1, q.2.tc, q.2.tw, q.2.tj⟩)
    children := s.alloc.children.map (fun q => ⟨q.1, q.2.cur, q.2.lastGrant, q.2.sinceGrant⟩)
    moves := s.matrix.moves.map (fun q => ⟨q.1, q.2.dest, q.2.conn, q.2.waitFor⟩) }

/-- MIRROR_SEND (R371): the flood unit's mirror by wave 200. -/
def State.mirrorSend (s : State) : State := if s.floods then s.mirrorQueue s.mirrorOf else s

/-! ## The lighthouse (R366, R80) -/

/-- The pair identity of the position at a link: the pair this device witnesses, or a declared child position held by a
pair. -/
def State.pairAt (s : State) (l : Nat) : Option Nat :=
  match s.decl.witness with
  | some w => some w
  | none =>
    match Tab.find s.chain.childId l with
    | some serial => (s.decl.children.find? (fun c => decide (c.serial = serial))).bind (·.pair)
    | none => none

/-- Update what a lighthouse keeps of a pair. -/
def State.modLh (s : State) (k : Nat) (g : LhPos → LhPos) : State := s.modPair (fun p => { p with lh := Tab.upd p.lh k {} g })

/-- A HEALTH record passes. -/
def healthPass (h : HealthRec) : Bool := h.flags.getLsbD 0

/-- HEALTH_RECEIVE (R366): from the partner on the pair link; at the lighthouse from a unit. -/
def execHealthReceive (link : Fin 8) (h : HealthRec) (s : State) : Host.Outcome State Fault Refusal :=
  if !s.alive then .next s
  else if s.paired ∧ link.val = s.r Reg.PAIR_PAIR_LINK then
    .next ((s.w Reg.PAIR_PARTNER_HEALTH (h.flags.toNat % 64)).modPair (fun p => { p with partner := some h, partnerNow := true }))
  else match s.pairAt link.val with
    | none => .next s
    | some k =>
      let u := if h.twin then 1 else 0
      .next (s.modLh k (fun x => { x with
        health := Tab.put x.health u h
        links := Tab.put x.links u link.val
        now := if x.now.contains u then x.now else x.now ++ [u]
        starting := if h.role = 1 then Tab.put x.starting u (Tab.getD x.starting u 0) else Tab.del x.starting u
        flood := if h.role = 2 then u else x.flood
        grant := if h.role = 2 ∧ x.grant = some u then none else x.grant
        miss := if h.role = 2 ∧ x.flood ≠ u then 0 else x.miss }))

/-- A pair at a tide boundary of its lighthouse: missed tides, tides heard starting, and the grant at a start (R80, R366). DEDUCED:
a record that reports starting or ebb is none of a flood unit, but from a unit whose grant stands. DESIGN CHOICE, where the spec
is silent: a grant to a starting unit lapses when no HEALTH record of it arrives in a tide. -/
def LhPos.tide (x : LhPos) : LhPos :=
  let pass := (match Tab.find x.health x.flood with
    | some h => healthPass h && decide (h.role = 2 ∨ h.role = 4 ∨ x.grant = some x.flood)
    | none => false) && x.now.contains x.flood
  let x := { x with
    miss := if x.flood = 0xFF then 0 else if pass then 0 else x.miss + 1
    starting := (x.starting.filter (fun q => x.now.contains q.1)).map (fun q => (q.1, q.2 + 1))
    grant := if x.flood = 0xFF && !x.now.contains (x.grant.getD 0) then none else x.grant
    now := [] }
  if x.flood ≠ 0xFF ∨ x.grant.isSome ∨ x.miss ≠ 0 then x
  else
    let home := (match Tab.find x.health 0 with | some h => healthPass h | none => false) && decide (2 ≤ Tab.getD x.starting 0 0)
    let homePass := match Tab.find x.health 0 with | some h => healthPass h | none => false
    if home then { x with grant := some 0 }
    else if !homePass && decide (2 ≤ Tab.getD x.starting 1 0) then { x with grant := some 1 }
    else x

/-- LIGHTHOUSE_DECISION (R366): after three missed tides the passing ebb unit is named and granted. DEDUCED: the count of misses
then belongs to the unit that is named. -/
def lhJudge (x : LhPos) : LhPos :=
  if x.flood = 0xFF ∨ x.miss < 3 then x
  else
    let ebb := 1 - x.flood
    match Tab.find x.health ebb with
    | some h => if healthPass h then { x with flood := ebb, grant := some ebb, miss := 0 } else { x with flood := 0xFF, grant := none, miss := 0 }
    | none => { x with flood := 0xFF, grant := none, miss := 0 }

/-- LIGHTHOUSE_DECISION (R366). -/
def execLighthouseDecision (s : State) : Host.Outcome State Fault Refusal :=
  if s.alive ∧ s.wave = 0 then .next (s.modPair (fun p => { p with lh := p.lh.map (fun q => (q.1, lhJudge q.2)) })) else .next s

/-- LIGHT_SEND (R364): at wave 300, to each unit of each pair. -/
def State.lightSend (s : State) : State :=
  s.over s.pair.lh (fun q s => s.over q.2.links (fun l s =>
    s.chainSend l.2 0x21 0 0 (lightBytes s.tide q.2.flood (decide (q.2.grant = some l.1)) q.2.miss)))

/-- LIGHT_RECEIVE (R368): a grant, or the partner named as flood. A grant that follows a yield notice leaves the notice's cause. -/
def execLightReceive (link : Fin 8) (l : LightRec) (s : State) : Host.Outcome State Fault Refusal :=
  if !s.alive ∨ !s.paired ∨ link.val ≠ s.r Reg.PAIR_LH_LINK then .next s
  else
    let s := s.modPair (fun p => { p with light := some l, lightNow := true })
    let role := s.r Reg.PAIR_ROLE
    let s := if l.grant ∧ (role = 1 ∨ role = 3) ∧ !s.pair.noticed then s.modPair (fun p => { p with claimDue := some 1 }) else s
    let other := 1 - s.r Reg.PAIR_UNIT
    if role = 2 ∧ l.flood = other then .next (s.modPair (fun p => { p with yieldDue := some 3 })) else .next s

/-- LIGHTHOUSE_LOST (R367, R368): no LIGHT record for 3 tides; a flood unit whose partner passes and hears the lighthouse
yields. -/
def execLighthouseLost (s : State) : Host.Outcome State Fault Refusal :=
  if s.paired ∧ 3 ≤ s.r Reg.PAIR_LH_MISS then
    let s := s.ev Reg.PAIR_EVENT 2
    let ph := s.r Reg.PAIR_PARTNER_HEALTH
    if s.r Reg.PAIR_ROLE = 2 ∧ bit ph 0 ∧ bit ph 4 then .next (s.modPair (fun p => { p with yieldDue := some 2 })) else .next s
  else .next s

/-! ## Yield and claim (R362, R363, R368 to R370, R372 to R376) -/

/-- A switch-over leaves its cause, tide and event. -/
def State.switched (s : State) (cause : Nat) : State :=
  ((s.w Reg.PAIR_LAST_SWITCH s.tide).w Reg.PAIR_LAST_CAUSE cause).ev Reg.PAIR_EVENT 0

/-- Yield: FLOOD_OUT is deasserted, a notice is sent, ROLE 0x4. DESIGN CHOICE: the spec gives the notice no layout; it carries
the cause code of LAST_CAUSE in one byte. -/
def State.yieldRole (s : State) (cause : Nat) : State :=
  let s := (s.floodOut false).chainSend (s.r Reg.PAIR_PAIR_LINK) 0x23 0 0 (leBytes 1 cause)
  let s := s.w Reg.PAIR_ROLE 4
  s.modPair (fun p => { p with yieldDue := none, yieldWaves := 0, claimDue := some cause })

/-- The paired LS channels are held off. -/
def State.pairedLsOff (s : State) : State :=
  s.each 32 (fun c s => if s.rbit Reg.PAIR_PAIRED_LS c then s.lsCommand c false else s)

/-- The paired SOUT channels are held cut. -/
def State.pairedSoutOff (s : State) : State :=
  s.soutDrive ((List.range 16).foldl (fun v c => if s.rbit Reg.PAIR_PAIRED_SOUT c then setBit v c false else v) (s.r Reg.SAFE_ENABLED))

/-- Enter the ebb role: the connections to the vehicles are gone, and the open transaction is discarded (R372, R450); the paired
channels are held off from 1 wave after the partner's claim. The unit's own setpoint frames leave no gap. -/
def State.enterEbb (s : State) (cause : Nat) : State :=
  let s := (((s.w Reg.PAIR_ROLE 3).switched cause).w Reg.PAIR_LAST_GAP 0).loopsEbb
  let s := s.each 32 (fun n s => s.modConn n (fun x => { x with tls := false, app := false }))
  (s.modPair (fun p => { p with claimDue := none, noticed := false, yieldDue := none, resume := [] })).txnDiscard

/-- A mirrored move continues at a claim, with its waits restarted (R136). -/
def State.moveAtClaim (s : State) (m : Nat) : State :=
  let s := s.modMatrix (fun x => { x with moves := Tab.upd x.moves m {} (fun q => { q with start := s.now, waves := 0, ok := 0 }) })
  match s.mvPhase m with
  | 1 => s.mvEnd m 0x507
  | 4 => s.mvEnd m 0x507
  | 6 => s.mvEnd m 0
  | _ => s

/-- Sessions at a claim: those in TRANSFER or PAUSE enter PAUSE and wait to be resumed (R373). -/
def State.sessionsAtClaim (s : State) : State :=
  s.each 32 (fun n s =>
    if s.sess n = 7 ∨ s.sess n = 8 then
      let s := s.sessTo n 8
      let s := s.modConn n (fun x => { x with tls := false, app := false, v2g := false, suspended := true, resumed := false, quiet := 0 })
      s.modPair (fun p => { p with resume := Tab.put p.resume n 0 })
    else s)

/-- The contactors that an LS channel selects. -/
def State.lsSelects (s : State) (c : Nat) : List Nat :=
  s.contactors.filter (fun k => decide (s.r Reg.MTX_CT_SEL_KIND 0 k = 1 ∧ s.r Reg.MTX_CT_SEL_INDEX 0 k = c))

/-- A paired LS channel at a claim: its mirrored level, and for a contactor's select through the guard (R120, R136); the selects of
a group that counts as cut are driven off (R134, R369). -/
def State.lsAtClaim (s : State) (c : Nat) (on : Bool) : State :=
  let on := on && !(s.lsSelects c).any (fun k => s.matrix.cut.getLsbD (s.r Reg.MTX_CT_GROUP 0 k))
  match (s.lsSelects c).head? with
  | none => s.lsCommand c on
  | some k =>
    if !on || s.guardPasses k then s.lsCommand c on
    else (((s.wb Reg.MTX_CT_CMD false 0 k).lsCommand c false).ctRefresh k).guardBlock k

/-- A mask of SOUT groups. -/
def groupMask (on : Nat → Bool) : BitVec 16 := (List.range 16).foldl (fun v g => if on g then v ||| BitVec.ofNat 16 (2 ^ g) else v) 0

/-- The paired groups at a claim: those driven on are cut no longer; a group that stays off, for the partner was lost or for what
locks it here, counts as cut with its selects and sessions (R134, R369). -/
def State.groupsAtClaim (s : State) (on : Nat → Bool) : State :=
  let s := s.modMatrix (fun x => { x with cut := x.cut &&& ~~~(groupMask on), check := x.check &&& ~~~(groupMask on) })
  let s := s.over ((List.range 16).filter (fun g => s.rbit Reg.PAIR_PAIRED_SOUT g && !on g)) (fun g s => s.matrixCut g)
  let s := s.each 32 (fun n s => if s.energised n && s.connCut n then s.sessCut n else s)
  s.soutDrive ((List.range 16).foldl (fun v c => if s.rbit Reg.PAIR_PAIRED_SOUT c then setBit v c (on c) else v) (s.r Reg.SAFE_ENABLED))

/-- Claim the flood role at wave 0 (R369): the paired channels take the mirrored state, or, when the partner was lost, its groups
count as cut; the setpoint frames and beacons of this wave leave, and the grants of the mirrored state (R110) go to the children.
LAST_GAP: DESIGN CHOICE, what the unit can see of it, the waves in which FLOOD_IN was deasserted without a notice. -/
def State.claim (s : State) (cause : Nat) : State :=
  let lost := !s.pair.noticed && !s.rb Reg.PAIR_FLOOD_IN
  let s := (s.floodOut true).when lost (fun s => s.ev Reg.PAIR_EVENT 1)
  let s := ((s.w Reg.PAIR_ROLE 2).inc Reg.PAIR_SWITCHOVERS).switched cause
  let s := s.w Reg.PAIR_LAST_GAP (min 65535 s.pair.gap)
  let (age, seqs, sout, ls) := match s.pair.mirror with
    | some m => (s.tide - m.tide, m.seqs, m.sout.toNat, m.ls.toNat)
    | none => (0, [], 0, 0)
  let s := s.over seqs (fun q s => s.modCab q.1 (fun x => { x with seq := (q.2 + 400 * age + 399) % 65536, sent := [] }))
  let s := s.over s.busyMoves (fun m s => s.moveAtClaim m)
  let s := s.busRefresh
  let s := s.sessionsAtClaim.loopsFlood
  let drives := (List.range 16).filter (fun g => s.rbit Reg.PAIR_PAIRED_SOUT g && !lost && bit sout g && s.soutAllowed g)
  let s := s.groupsAtClaim (fun g => drives.contains g)
  let s := s.each 32 (fun c s => if s.rbit Reg.PAIR_PAIRED_LS c then s.lsAtClaim c (bit ls c) else s)
  let s := (s.modPair (fun p => { p with claimDue := none, noticed := false, gap := 0 })).txnDiscard
  ((s.modAlloc (fun a => { a with grantsDue := true })).setpointsSend).beaconSend

/-- FLOOD_YIELD (R368): at the boundary after its cause. -/
def execFloodYield (s : State) : Host.Outcome State Fault Refusal :=
  match s.pair.yieldDue with
  | some c => if s.r Reg.PAIR_ROLE = 2 ∧ s.running ∧ s.wave = 0 then .next (s.yieldRole c) else .next s
  | none => .next s

/-- YIELD_NOTICE_RECEIVE (R369). -/
def execYieldNoticeReceive (link : Fin 8) (cause : Nat) (s : State) : Host.Outcome State Fault Refusal :=
  if s.running ∧ s.r Reg.PAIR_ROLE = 3 ∧ link.val = s.r Reg.PAIR_PAIR_LINK then
    .next (s.modPair (fun p => { p with claimDue := some cause, noticed := true, gap := 0 }))
  else .next s

/-- FLOOD_CLAIM (R369, R80): an ebb unit whose health passes claims at wave 0; where it cannot, the grant or the notice is past. A
starting unit that is granted asserts FLOOD_OUT at wave 0 and enters RUN at the next boundary. -/
def execFloodClaim (s : State) : Host.Outcome State Fault Refusal :=
  match s.pair.claimDue with
  | none => .next s
  | some c =>
    let open_ := !s.twin || !s.rb Reg.PAIR_FLOOD_IN
    if s.r Reg.PAIR_ROLE = 1 ∧ s.phase = .join ∧ s.wave = 0 ∧ open_ then
      .next (((s.floodOut true).w Reg.PAIR_ROLE 2).modPair (fun p => { p with claimDue := none })
        |>.modStart (fun x => { x with runNext := true }))
    else if s.r Reg.PAIR_ROLE = 3 ∧ s.running ∧ s.wave = 0 then
      .next (if s.healthy && open_ then s.claim c else s.modPair (fun p => { p with claimDue := none }))
    else .next s

/-- SOLO_START_CLAIM (R81): the home unit alone, 300 tides in JOIN in which the lighthouse was not heard; at wave 0 (R362). -/
def execSoloStartClaim (s : State) : Host.Outcome State Fault Refusal :=
  if s.r Reg.PAIR_ROLE = 1 ∧ s.phase = .join ∧ s.rb Reg.PAIR_SOLO_START ∧ !s.twin ∧ s.wave = 0 ∧ 300 ≤ s.start.joinTides ∧ 300 ≤ s.r Reg.PAIR_LH_MISS then
    .next (((s.floodOut true).w Reg.PAIR_ROLE 2).modStart (fun x => { x with runNext := true }))
  else .next s

/-- FLOOD_IN_CHANGE (R362, R363): the pin follows the partner; a twin in flood gives way to the home unit. Where the logic die
counts no waves, the power die holds the paired LS channels off at once (DESIGN CHOICE: no wave passes there). -/
def execFloodInChange (level : Bool) (s : State) : Host.Outcome State Fault Refusal :=
  if s.rb Reg.PAIR_FLOOD_IN = level then .next s
  else
    let s := (s.wb Reg.PAIR_FLOOD_IN level).refreshClaim
    let s := s.modPair (fun p => { p with
      floodInWaves := if s.clocked then 0 else 1
      gap := if level then 0 else p.gap
      noticed := p.noticed && !level
      claimDue := if level ∧ s.r Reg.PAIR_ROLE = 3 then none else p.claimDue })
    if level && !s.clocked then .next s.pairedLsOff
    else if level && s.rb Reg.PAIR_FLOOD_OUT then
      let s := s.ev Reg.PAIR_EVENT 4
      .next (if s.twin then (s.floodOut false).enterEbb 6 else s)
    else .next s

/-- YIELD_MAX_EXPIRY (R368): no claim within YIELD_MAX; the unit reclaims at wave 0. -/
def execYieldMaxExpiry (s : State) : Host.Outcome State Fault Refusal :=
  if s.r Reg.PAIR_ROLE = 4 ∧ s.running ∧ s.r Reg.PAIR_YIELD_MAX ≤ s.pair.yieldWaves ∧ !s.rb Reg.PAIR_FLOOD_IN ∧ s.wave = 0 then
    let s := ((s.floodOut true).w Reg.PAIR_ROLE 2).w Reg.PAIR_LAST_GAP 0
    .next (((s.switched 7).ev Reg.PAIR_EVENT 5).modPair (fun p => { p with claimDue := none }))
  else .next s

/-- Adopt the mirrored words: a mirrored field that the mirror does not list stands at its default. -/
def State.mirrorWords (s : State) (l : List (Nat × BitVec 32)) : State :=
  ({ s with regs := s.regs.filter (fun q => !s.mirrorKey q.1) } : State).over l (fun q s =>
    s.over (s.mirrorPlaces q.1) (fun p s => s.w p.f (p.value q.2.toNat) p.n p.i p.j))

/-- Adopt what the mirror carries of the loops and cable models beside their object maps (R191, R196). -/
def State.mirrorLoops (s : State) (m : Mirror) : State :=
  let s := s.over (m.loops.filter (fun q => !s.rb Reg.LOOP_EBB_RUN q.loop)) (fun q s =>
    s.modLp q.loop (fun x => { x with dqPrev := q.dqPrev, anchor := q.anchor, hist := q.hist }))
  s.modLoop (fun x => { x with cables := m.cables.foldl (fun t q => Tab.put t q.cable ⟨q.tc, q.tw, q.tj⟩) x.cables })

/-- The own record of a mirrored session (R373). -/
def State.mirrorRecord (s : State) (n old : Nat) : State :=
  let st := s.sess n
  if old < 5 ∧ 5 ≤ st ∧ st ≤ 10 then s.recOpen n
  else if (old = 10 ∧ st ≠ 10 ∧ st ≠ 12) ∨ (old = 12 ∧ st ≠ 12) then s.recClose n
  else s

/-- Adopt what the mirror carries of the child positions and the moves beside their object maps (R110, R136). -/
def State.mirrorTables (s : State) (m : Mirror) : State :=
  let s := s.modAlloc (fun a => { a with children := m.children.foldl (fun t q => Tab.put t q.link ⟨q.curve, none, q.grant, q.since⟩) [] })
  s.modMatrix (fun x => { x with moves := m.moves.foldl (fun t q => Tab.put t q.slot { dest := q.dest, conn := q.conn, waitFor := q.waitFor }) [] })

/-- Adopt the mirror of a tide (Table 12.2): tide number and boundaries, the mirrored words and tables, and what a mirrored
session does to the own records. -/
def State.mirrorAdopt (s : State) (m : Mirror) : State :=
  let olds := (List.range 32).map (fun n => s.sess n)
  let s := (s.w64 Reg.TIDE_NUMBER_LO Reg.TIDE_NUMBER_HI m.tide).boundaryTrim m.skew
  let s := ((s.mirrorWords m.regs).mirrorLoops m).mirrorTables m
  let s := s.over m.sids (fun q s => s.modConn q.1 (fun x => { x with sid := q.2 }))
  let s := s.over m.seqs (fun q s => s.modCab q.1 (fun x => { x with seq := q.2 }))
  let s := s.each 32 (fun n s => s.mirrorRecord n (olds.getD n 0))
  s.modPair (fun p => { p with mirror := some m, mirrorNow := true })

/-- MIRROR_RECEIVE (R371): the ebb unit adopts the mirror of a partner with its own firmware security version; committed
changes wait for the boundary, and window entries are entered (R447). -/
def execMirrorReceive (link : Fin 8) (m : Mirror) (s : State) : Host.Outcome State Fault Refusal :=
  if !s.running ∨ s.r Reg.PAIR_ROLE ≠ 3 ∨ link.val ≠ s.r Reg.PAIR_PAIR_LINK ∨ m.fwSvn.toNat ≠ s.r Reg.DEV_FW_SVN then .next s
  else
    let s := (s.when m.full (fun s => s.mirrorAdopt m)).over m.changes (fun c s => s.queueRi ⟨c.addr, c.lo, c.value⟩)
    .next (s.over m.window (fun w s => match s.issuerOf w.1 with
      | some i => if (s.window i).any (fun x => decide (x.id = w.2.1)) then s else s.windowEnter i ⟨w.2.1, w.2.2.1, w.2.2.2⟩
      | none => s))

/-- RESUME_WAIT_EXPIRY (R373). -/
def execResumeWaitExpiry (n : Fin 32) (s : State) : Host.Outcome State Fault Refusal :=
  match Tab.find s.pair.resume n.val with
  | some t =>
    if s.r Reg.PAIR_RESUME_WAIT ≤ t then .next ((s.modPair (fun p => { p with resume := Tab.del p.resume n.val })).stopCause n.val 0x704 3)
    else .next s
  | none => .next s

/-- HANDOVER (R375): the applied value 0xA5 yields at the commit boundary and returns to 0. -/
def execHandover (s : State) : Host.Outcome State Fault Refusal :=
  if s.r Reg.PAIR_HANDOVER = 0xA5 ∧ s.wave = 0 then
    let s := s.w Reg.PAIR_HANDOVER 0
    if s.r Reg.PAIR_ROLE = 2 ∧ s.running then .next (s.yieldRole 5) else .next s
  else .next s

/-- HANDOVER is refused (R375). -/
def State.handoverRefused (s : State) : Bool :=
  decide (s.r Reg.PAIR_ROLE ≠ 2) || !s.rbit Reg.PAIR_PARTNER_HEALTH 0 || decide (s.r Reg.MTX_PENDING ≠ 0)

/-- TAKEBACK (R376): the home unit takes flood back at a boundary. -/
def execTakeback (s : State) : Host.Outcome State Fault Refusal :=
  if s.r Reg.PAIR_ROLE = 3 ∧ s.running ∧ !s.twin ∧ s.wave = 0 ∧ s.rb Reg.PAIR_TAKEBACK_EN ∧ s.r Reg.PAIR_TAKEBACK_TIDES ≤ s.r Reg.PAIR_PASS_TIDES ∧
      s.r Reg.MTX_PENDING = 0 ∧ (!s.rb Reg.PAIR_TAKEBACK_IDLE || !s.anyEnergised) then
    .next ((s.claim 4).ev Reg.PAIR_EVENT 6)
  else .next s

/-! ## Waves and boundaries -/

/-- The pair in one wave: 1 wave after the partner's claim the paired channels of a unit without it are held off, and a unit that
yielded, or whose claim was withdrawn, enters the ebb role (R363, R368). -/
def State.pairWave (s : State) : State :=
  let s := if s.wave = 300 ∧ s.alive then s.lightSend else s
  if !s.paired then s
  else
    let s := if s.wave = 200 ∧ s.alive then s.healthSend else s
    let fin := s.rb Reg.PAIR_FLOOD_IN
    let first := fin && decide (s.pair.floodInWaves = 0)
    let s := s.modPair (fun p => { p with
      yieldWaves := if s.r Reg.PAIR_ROLE = 4 then p.yieldWaves + 1 else 0
      floodInWaves := if fin then 1 else 0
      gap := if s.r Reg.PAIR_ROLE = 3 ∧ !fin ∧ !p.noticed then p.gap + 1 else p.gap })
    let s := if fin ∧ (s.r Reg.PAIR_ROLE = 4 ∨ s.r Reg.PAIR_ROLE = 2) ∧ !s.rb Reg.PAIR_CLAIM then s.enterEbb ((s.pair.claimDue).getD 0) else s
    if first && !s.rb Reg.PAIR_CLAIM then s.pairedSoutOff.pairedLsOff else s

/-- The pair at a tide boundary: health, ages and the lighthouse's counts. -/
def State.pairTide (s : State) : State :=
  let s := s.modPair (fun p => { p with lh := p.lh.map (fun q => (q.1, q.2.tide)) })
  if !s.paired then s
  else
    let p := s.pair
    let s := if p.lightNow then s.w Reg.PAIR_LH_MISS 0 else (s.incSat Reg.PAIR_LH_MISS).ev Reg.PAIR_EVENT 2
    let s := if p.mirrorNow then s.w Reg.PAIR_MIRROR_AGE 0 else s.incSat Reg.PAIR_MIRROR_AGE
    let s := if s.r Reg.PAIR_ROLE = 3 ∧ !p.mirrorNow then s.ev Reg.PAIR_EVENT 3 else s
    let s := if p.partnerNow then s else s.ev Reg.PAIR_EVENT 1
    let s := s.modPair (fun p => { p with
      lightLast := p.lightNow, lightNow := false, partnerNow := false, mirrorNow := false
      mirrorRun := if p.mirrorNow then p.mirrorRun + 1 else 0
      mirrorRunBefore := if p.mirrorNow then 0 else if p.mirrorRun ≠ 0 then p.mirrorRun else p.mirrorRunBefore
      resume := p.resume.map (fun q => (q.1, q.2 + 1)) })
    let f := s.healthFlags
    let s := s.w Reg.PAIR_HEALTH (f % 64)
    if bit f 0 then s.incSat Reg.PAIR_PASS_TIDES else s.w Reg.PAIR_PASS_TIDES 0

/-- The pair at step 7 (R79, R359): starting, FLOOD_OUT deasserted. -/
def State.pairJoin (s : State) : State :=
  match s.decl.pair with
  | none =>
    let s := ((s.w Reg.PAIR_ROLE 0).w Reg.PAIR_UNIT 0).modPair (fun _ => {})
    (s.w Reg.PAIR_PAIRED_SOUT 0).w Reg.PAIR_PAIRED_LS 0
  | some d =>
    let s := s.floodOut false
    let s := ((s.w Reg.PAIR_ROLE 1).wb Reg.PAIR_UNIT d.twin).w Reg.PAIR_PAIR_LINK d.pairLink
    let s := ((s.w Reg.PAIR_LH_LINK d.lhLink).w Reg.PAIR_PAIRED_SOUT d.pairedSout.toNat).w Reg.PAIR_PAIRED_LS d.pairedLs.toNat
    (s.modPair (fun _ => {})).refreshClaim

end Sys2Proof.Machine
end

