-- ==== Sys2Proof/Machine/Records.lean ====
section
/-! DEFINITION. The end of an MRAM record write, and what a reset makes of the writes (R328). -/
namespace Sys2Proof.Machine
set_option cleanup.letToHave false

/-- A record is complete: the legal store holds it, and what waits for it takes effect. -/
def State.recDone (s : State) : StoreRec → State
  | .bytes a bs => s.bytesDone a bs
  | .boundary q => s.journalDone q
  | .prep tokens => (s.over tokens (fun x s => s.tokenEffect x.1 x.2)).prepStored
  | .settings slot g => s.settingsDone slot g
  | .tamper c => s.tamperStored c

/-- A write has failed: the record before it stands. A failed write of billing is reported by PROF.EVENT bit 3 (DEDUCED: the
field's `write failed` is that of the records of steps 4 to 8). -/
def State.recFailed (s : State) : StoreRec → State
  | .bytes a bs => s.bytesFailed a bs
  | .boundary _ => s.ev Reg.PROF_EVENT 3
  | _ => s

/-- The end of a record write (R328); the next one starts. -/
def State.writeDone (s : State) (ok : Bool) : State :=
  match s.meter.writing with
  | none => s
  | some w =>
    let s := s.modMeter (fun m => { m with writing := none })
    (if ok then s.recDone w.what else s.recFailed w.what).startWrite

/-- A record write in progress at a reset (R328): a loss of supply tears it, so that bytes lose their MAGIC and another record
is not there; any other reset finds it complete. The writes that wait are lost, and the tamper classes among them show their last
record. -/
def State.recordsAtReset (s : State) (cause : Nat) : State :=
  let lost := s.meter.waiting
  let s := match s.meter.writing with
    | none => s
    | some w =>
      if cause ≠ 1 then s.recDone w.what
      else match w.what with
        | .bytes a _ => s.mwrite a [0, 0, 0, 0]
        | .tamper c => s.tamperRestore c
        | _ => s
  (s.modMeter (fun m => { m with writing := none, waiting := [] })).over lost (fun w s => match w.what with
    | .tamper c => s.tamperRestore c
    | _ => s)

end Sys2Proof.Machine
end

