-- ==== Sys2Proof/Machine/Reset.lean ====
section
/-! DEFINITION. The reset of the logic die: what it cuts, what it keeps (R52, Table 2.8, R262, R335). -/
namespace Sys2Proof.Machine
set_option cleanup.letToHave false

/-! ## What a reset keeps -/

/-- Blocks whose read-only fields live in OTP, the legal store, the ledge domain or MRAM: BILL, PROF, PREPAY, TAMP, OTP. -/
def keptBlocks : List Nat := [0x0E, 0x0F, 0x10, 0x11, 0x1E]

/-- Further fields that outlive a logic-die reset: identity and counts in OTP and MRAM, the issuer table (R442), the ledge
domain (R489), the power die's latched states, counts and readings (R82, R202), what the interlock of the power die goes by (R361),
the die's record of internal faults (R351). -/
def keptFields : List Fld :=
  [Reg.DEV_SERIAL, Reg.DEV_SILICON_REV, Reg.DEV_LIFECYCLE, Reg.DEV_FAILED_STARTS, Reg.KEY_STARTS, Reg.KEY_UPDATES,
   Reg.KEY_LEDGE_SHARE, Reg.KEY_STORE_AREA, Reg.THERM_HARD_COUNT, Reg.UPD_CONFIRMED, Reg.UPD_FALLBACKS,
   Reg.UPD_LAST_PAUSE, Reg.LEDGE_RTC_LOSS, Reg.LEDGE_RIDE_LAST, Reg.CMD_ISS_ID_LO, Reg.CMD_ISS_ID_HI, Reg.CMD_ISS_STATE,
   Reg.CMD_ISS_RIGHTS, Reg.CMD_ISS_NOT_AFTER, Reg.CMD_ISS_FLOOR_LO, Reg.CMD_ISS_FLOOR_HI, Reg.CMD_ISS_HELD, Reg.CMD_ISS_COUNT,
   Reg.LS_STATE, Reg.LS_TRIES, Reg.LS_FAULT, Reg.LS_FAULTS, Reg.LS_OPEN_LOAD, Reg.LS_LATCHED, Reg.LS_DUTY_APPLIED,
   Reg.GD_STATE, Reg.GD_TRIES, Reg.GD_FAULT, Reg.GD_FAULT_PHASE, Reg.GD_FAULTS, Reg.GD_REFRESHES, Reg.GD_BAND, Reg.GD_VBUS, Reg.GD_VBS,
   Reg.SAFE_INT_FAULT, Reg.SAFE_HB_FAILS, Reg.SAFE_CONF_TIME, Reg.SAFE_HB_CHALLENGE, Reg.MTX_CT_STATE,
   Reg.PAIR_UNIT, Reg.PAIR_FLOOD_IN, Reg.PAIR_PAIRED_SOUT, Reg.PAIR_PAIRED_LS,
   Reg.TAMP_RESPONSE, Reg.TAMP_TAMP_POL, Reg.TAMP_TAMP_EN]

/-- The BIST area of MRAM (R492): results, signatures, the failure latch. -/
def bistArea : List Fld := [Reg.BIST_FAIL_LATCH, Reg.BIST_LAST_TIDE, Reg.BIST_SIG, Reg.BIST_RESULT, Reg.BIST_BAD_WORDS]

/-- A reset keeps the field at a key. A contactor's state is kept only as a welded or faulty mark (R132). -/
def keptKey (p : Nat × BitVec 32) : Bool :=
  let b := p.1 / 32 / 0x1000000
  if b = 0x1C then bistArea.any (fun f => f.isAt p.1)
  else if keptBlocks.contains b then (blockFields b).any (fun f => (decide (f.acc = .ro) || decide (f.acc = .ot)) && f.isAt p.1)
  else (keptFields ++ driveParams).any (fun f => f.isAt p.1) && (!Reg.MTX_CT_STATE.isAt p.1 || decide (p.2 = 4 ∨ p.2 = 5))

/-- A key of the vault that is held in the vault store and whose store can be read: OWNED or SERVICE, normal start. -/
def State.storeHeld (s : State) : Bool :=
  s.alive && decide (s.r Reg.DEV_LIFECYCLE = 2 ∨ s.r Reg.DEV_LIFECYCLE = 3) && !s.rbit Reg.OTP_LC_FUSES 3

/-! ## The reset -/

/-- The outputs at a reset (Table 2.8): SOUT cut with the cause of R335, pulses low, gates off. The protection
states of the power die hold, and its timers run on (R202, R213). DESIGN CHOICE: no time passes while the die is in reset, so the
cut with cause 0x12 that follows 4 waves after the last link frame is taken with the reset. -/
def State.resetOutputs (s : State) (cause : Nat) : State :=
  let s := s.islandCut (if cause = 2 ∨ cause = 3 ∨ cause = 4 ∨ cause = 7 then 0x13 else 0x12)
  let s := s.over (s.meter.pulses.filter (fun q => q.2.high)) (fun q s => s.emit (.pin "PLS" q.1 false))
  s.each 6 (fun x s =>
    let st := s.r Reg.GD_STATE x
    let s := s.modBridge x (fun b => { b with linkOff := true })
    if st = 1 ∨ st = 2 ∨ st = 3 then s.bridgeOff x 0 else s)

/-- What the logic die loses: every register and every memory of its logic that is not kept. `ph` is where it stands then. -/
def State.volatileClear (s : State) (cause : Nat) (ph : Phase) : State :=
  let x := s.start
  let sf := s.safety
  { s with
    regs := s.regs.filter keptKey
    phase := ph
    fabric := {}
    start := { gen0 := x.gen0, gen1 := x.gen1, cause := cause, fallback := x.fallback, bist := x.bist
               pause := match x.actX, x.pause with | some a, some p => some (p + s.tidesSince a) | _, p => p }
    chain := {}
    alloc := {}
    safety := { latched := sf.latched.filter (fun p => decide (p.1 / 4096 = 0x12 ∨ p.1 / 4096 = 0x13 ∨ 0x20 ≤ p.1 / 4096))
                island := sf.island, confirmed := sf.confirmed }
    matrix := {}
    session := { recs := s.session.recs, unsigned := s.session.unsigned, nextNo := s.session.nextNo }
    inp := {}
    pair := {}
    command := { windows := s.command.windows }
    vault := { s.vault with mat := [], pub := [], gone := [], ops := [], denyDue := none, svc := 0 }
    otp := {}
    meter := {}
    bill := { s.bill with keys := [], keyAge := [], entries := [], setAt := 0 }
    loop := {}
    links := {}
    therm := {} }

/-- Count a failed start; the field holds 0 to 3. -/
def State.startFails (s : State) : State := s.w Reg.DEV_FAILED_STARTS (min 3 (s.r Reg.DEV_FAILED_STARTS + 1))

/-- Open records keep the peak of their session, for the close at RUN (Table 5.8). DESIGN CHOICE: the spec does not say when the
peak reaches the legal store; the record holds it at the moment of the reset. -/
def State.peaksKept (s : State) : State :=
  s.modSession (fun x => { x with recs := x.recs.map (fun q => if q.flags.getLsbD 6 then { q with peakI := (s.conn q.connector).peak } else q) })

/-- The die resets (R52). -/
def State.dieReset (s : State) (cause : Nat) : State :=
  let s := ((s.resetOutputs cause).recordsAtReset cause).peaksKept
  let s := if s.storeHeld then s.vaultSave else s
  let lost := decide (s.r Reg.CMD_TXN_STATE ≠ 0)
  let s := s.volatileClear cause .reset
  -- a transaction that the reset interrupts is discarded (R450)
  let s := if lost then (s.w Reg.CMD_TXN_RESULT 0x190E).wbit Reg.CMD_EVENT 2 true else s
  (s.w Reg.DEV_RESET_CAUSE cause).safeRefresh

/-- A logic-die reset (R52). A start that ends before it has spent 100 tides in RUN has failed (R61). -/
def State.logicReset (s : State) (cause : Nat) : State :=
  (s.when (decide (s.phase ≠ .reset ∧ s.start.runTides < 100)) State.startFails).dieReset cause

/-- A shutdown record is due, is being written, or waits to be. -/
def State.shutdownPending (s : State) : Bool :=
  s.start.shutDue || (s.meter.writing.any (fun w => decide (w.kind = .shutdown))) || s.meter.waiting.any (fun w => decide (w.kind = .shutdown))

/-- An ordered reset takes place once its shutdown record is complete. -/
def State.resetDue (s : State) : State :=
  match s.start.ordered with
  | some c => if s.shutdownPending then s else s.logicReset c
  | none => s

/-- Order a reset (R262, R335): the outputs are cut, a shutdown record of the wave's end is due, and the reset waits for it. -/
def State.orderReset (s : State) (cause : Nat) : State :=
  if s.start.ordered.isSome then s
  else
    let s := (s.modStart (fun x => { x with ordered := some cause })).islandCut 0x13
    if s.legalStore && s.alive then s.modStart (fun x => { x with shutDue := true }) else s.resetDue

end Sys2Proof.Machine
end

