-- ==== Sys2Proof/Machine/Update.lean ====
section
/-! DEFINITION. The UPDATE operation, activation, trial and confirmation, and the image link of strand mode (chapter 16). -/
namespace Sys2Proof.Machine
set_option cleanup.letToHave false

/-! ## Download and verification (R457 to R460) -/

/-- The running bank is in trial. -/
def State.inTrial (s : State) : Bool := decide (s.phase ≠ .strand) && decide ((s.headerNow.bank (s.rb Reg.DEV_BOOT_BANK)).state = 3)

/-- Target bank of an OPEN: the other bank, in strand mode the bank named. -/
def State.openTarget (s : State) (bank : Option Bool) : Option Bool :=
  if s.phase = .strand then bank else if bank.isSome then none else some (!s.rb Reg.DEV_BOOT_BANK)

/-- The bank whose firmware an OPEN with FW_LENGTH 0 keeps: the other one. DEDUCED: in strand mode, where no bank runs, too. -/
def State.keptFw (s : State) (target : Bool) : BankDesc := s.headerNow.bank (!target)

/-- OPEN (R458). -/
def State.updateOpen (s : State) (a : OpenArgs) : Answer × State :=
  let st := s.r Reg.UPD_STATE
  if st ≠ 0 ∧ st ≠ 3 ∧ st ≠ 5 then ({ result := 0x1A02 }, s)
  else match s.openTarget a.bank with
    | none => ({ result := 0x1A01 }, s)
    | some b =>
      let keep := decide (a.fwLength = 0)
      let old := s.keptFw b
      let svn := if keep then old.fwSvn else a.fwSvn
      if s.inTrial then ({ result := 0x1A02 }, s)
      else if 25165824 < a.fwLength ∨ a.ttLength = 0 ∨ 4194304 < a.ttLength ∨ svn < s.minFwSvn ∨ 4294967296 ≤ svn then ({ result := 0x1A01 }, s)
      else
        let d : BankDesc :=
          { state := 0, fwLength := if keep then old.fwLength else a.fwLength, ttLength := a.ttLength, fwSvn := svn
            fwDigest := if keep then old.fwDigest else a.fwDigest.toNat, ttDigest := a.ttDigest.toNat }
        let s := (s.headerWrite (fun h => h.setBank b (fun _ => d))).bankErase b
        let s := ((s.w Reg.UPD_STATE 1).wb Reg.UPD_TARGET b).w Reg.UPD_FW_RECEIVED 0
        ({}, (s.w Reg.UPD_TT_RECEIVED 0).modStart (fun x => { x with fwCopy := keep }))

/-- UPDATE_OPEN: sub-operation 0x1. -/
def execUpdateOpen (e : Env) (a : OpenArgs) (s : State) : Host.Outcome State Fault Refusal :=
  if !s.serving then .next s else .next (s.serve e 5 false true (fun s _ => s.updateOpen a))

/-- BANK_ERASE_DONE (R458): erasure and any copy are complete. The copied firmware counts as received. -/
def execBankEraseDone (s : State) : Host.Outcome State Fault Refusal :=
  if s.serving ∧ s.r Reg.UPD_STATE = 1 then
    let b := s.rb Reg.UPD_TARGET
    let s := if s.start.fwCopy then (s.bankCopyFw (!b)).w Reg.UPD_FW_RECEIVED (s.headerNow.bank b).fwLength else s
    .next ((s.modStart (fun x => { x with fwCopy := false })).w Reg.UPD_STATE 2)
  else .next s

/-- Store what the bytes of a complete part decode to. -/
def State.partImage (s : State) (b tt : Bool) (f : Option FwImage) (t : Option TtImage) : State :=
  s.modStore (fun x => match b, tt with
    | false, false => { x with fwA := f }
    | false, true => { x with ttA := t }
    | true, false => { x with fwB := f }
    | true, true => { x with ttB := t })

/-- CHUNK (R459): `f` and `t` are what the part decodes to when this chunk completes it. -/
def State.updateChunk (s : State) (tt : Bool) (ofs : Nat) (data : List Byte) (f : Option FwImage) (t : Option TtImage) : Answer × State :=
  if s.r Reg.UPD_STATE ≠ 2 then ({ result := 0x1A02 }, s)
  else
    let b := s.rb Reg.UPD_TARGET
    let d := s.headerNow.bank b
    let fld := if tt then Reg.UPD_TT_RECEIVED else Reg.UPD_FW_RECEIVED
    let got := s.r fld
    let len := if tt then d.ttLength else d.fwLength
    let last := decide (ofs + data.length = len)
    if ofs ≠ got then ({ result := 0x1A03, detail := some got }, s)
    else if 8192 < data.length ∨ data.isEmpty then ({ result := 0x1A01 }, s)
    else if len < ofs + data.length ∨ (data.length % 256 ≠ 0 ∧ !last) then ({ result := 0x1A03 }, s)
    else
      let s := s.modStore (fun x => { x with flash := storePutAll x.flash (partOffset b tt + ofs) data })
      let s := s.w fld (ofs + data.length)
      let s := if last then s.partImage b tt f t else s
      if s.r Reg.UPD_FW_RECEIVED = d.fwLength ∧ s.r Reg.UPD_TT_RECEIVED = d.ttLength then
        ({}, ((s.bankState b 1).w Reg.UPD_STATE 3).ev Reg.UPD_EVENT 0)
      else ({}, s)

/-- UPDATE_CHUNK: sub-operation 0x2. -/
def execUpdateChunk (e : Env) (tt : Bool) (ofs : Nat) (data : List Byte) (f : Option FwImage) (t : Option TtImage) (s : State) : Host.Outcome State Fault Refusal :=
  if !s.serving then .next s else .next (s.serve e 5 false true (fun s _ => s.updateChunk tt ofs data f t))

/-- UPDATE_VERIFY: sub-operation 0x3 (R460); the outcome stands in UPD.STATE later. -/
def execUpdateVerify (e : Env) (s : State) : Host.Outcome State Fault Refusal :=
  if !s.serving then .next s
  else .next (s.serve e 5 false true (fun s _ =>
    if s.r Reg.UPD_STATE = 3 then ({}, s.w Reg.UPD_STATE 4) else ({ result := 0x1A02 }, s)))

/-- HANDOVER_WRAP where the service root is held (R389, R393). -/
def State.wrapFor (s : State) (b : Bool) : State := if s.keyState 1 = 1 then s.handoverWrap (s.bankMeasure b) else s

/-- VERIFY_COMPLETE (R460). -/
def execVerifyComplete (s : State) : Host.Outcome State Fault Refusal :=
  if s.serving ∧ s.r Reg.UPD_STATE = 4 then
    let b := s.rb Reg.UPD_TARGET
    match s.bankCheck b (s.rbit Reg.DEV_STRAPS 1) with
    | none =>
      let s := ((s.bankState b 2).wrapFor b).w Reg.UPD_STATE 5
      .next ((s.w Reg.UPD_RESULT 0).w Reg.UPD_DETAIL 0)
    | some (exit, _) =>
      let s := ((s.bankState b 5).w Reg.UPD_STATE 0).w Reg.UPD_RESULT 0x1A04
      .next ((s.w Reg.UPD_DETAIL exit).ev Reg.UPD_EVENT 1)
  else .next s

/-! ## Activation (R461 to R464, R474) -/

/-- The unit is home, and its partner's last HEALTH record shows another firmware version. -/
def State.pairOrder (s : State) : Bool :=
  decide (s.r Reg.PAIR_ROLE ≠ 0 ∧ s.r Reg.PAIR_UNIT = 0) &&
    (match s.pair.partner with
     | some h => decide (h.fwSvn.toNat ≠ s.r Reg.DEV_FW_SVN)
     | none => false)

/-- The first condition of R461 that holds, with its error. -/
def State.actRefusal (s : State) : Option Nat :=
  if (List.range 32).any (fun n => decide (6 ≤ s.r Reg.SESS_STATE n ∧ s.r Reg.SESS_STATE n ≤ 8)) then some 0x1A05
  else if s.r Reg.LEDGE_VLEDGE < 2600 ∨ s.start.holdupFailed then some 0x1A06
  else if s.rb Reg.UPD_LOCK then some 0x1A07
  else if s.start.otpChanged then some 0x1A09
  else if s.pairOrder then some 0x1A0A
  else none

/-- The header of Table 16.2: the target in trial and active. -/
def State.trialHeader (s : State) (b : Bool) : State :=
  s.headerWrite (fun h => { h.setBank b (fun d => { d with state := 3 }) with active := b, trialBoots := 0 })

/-- The shutdown record of strand mode (R474): a copy of the newest valid record, with RESTART_CKPT and BREACH when that is
a checkpoint. -/
def State.strandRecord (s : State) : State :=
  match s.recordCopy with
  | none => s
  | some q => s.mwrite (poolSlot s.shutdownSlot) q.2

/-- UPDATE_ACTIVATE: sub-operation 0x4 (R461, R462); in strand mode R474. -/
def execUpdateActivate (e : Env) (s : State) : Host.Outcome State Fault Refusal :=
  if !s.serving then .next s
  else
    let strand := decide (s.phase = .strand)
    let t := s.serve e 5 false true (fun s _ =>
      if s.r Reg.UPD_STATE ≠ 5 then ({ result := 0x1A02 }, s)
      else if strand then
        if s.rb Reg.UPD_LOCK then ({ result := 0x1A07 }, s) else ({}, s.w Reg.UPD_STATE 6)
      else match s.actRefusal with
        | some c => ({ result := c }, s)
        | none => ({}, (s.w Reg.UPD_STATE 6).modStart (fun x => { x with actFrom := some s.tideStart })))
    if strand ∧ t.r Reg.UPD_STATE = 6 then .next (((t.trialHeader (t.rb Reg.UPD_TARGET)).strandRecord).logicReset 7)
    else .next t

/-- UPDATE_ABORT: sub-operation 0x5. -/
def execUpdateAbort (e : Env) (s : State) : Host.Outcome State Fault Refusal :=
  if !s.serving then .next s
  else .next (s.serve e 5 false true (fun s _ =>
    let st := s.r Reg.UPD_STATE
    -- DEDUCED: an activation that has begun (R463) is no longer pending, and no ABORT stops it
    if 1 ≤ st ∧ st ≤ 6 ∧ s.start.actX.isNone then
      ({}, (s.w Reg.UPD_STATE 0).modStart (fun x => { x with actFrom := none, fwCopy := false }))
    else ({ result := 0x1A02 }, s)))

/-- A pending activation is abandoned (R462). -/
def State.actAbandon (s : State) : State :=
  let s := (s.w Reg.UPD_STATE 5).w Reg.UPD_RESULT 0x1A0B
  (s.modStart (fun x => { x with actFrom := none, actX := none })).ev Reg.UPD_EVENT 2

/-- The check of a pending activation at a boundary, after step 2 (R462). -/
def State.actTide (s : State) : State :=
  if s.r Reg.UPD_STATE = 6 ∧ s.start.actX.isNone ∧ s.actRefusal.isSome then s.actAbandon else s

/-- ACT_WAIT_EXPIRY (R462). -/
def execActWaitExpiry (s : State) : Host.Outcome State Fault Refusal :=
  match s.start.actFrom with
  | some t => if s.r Reg.UPD_STATE = 6 ∧ s.start.actX.isNone ∧ s.r Reg.UPD_ACT_WAIT ≤ s.tidesSince t then .next s.actAbandon else .next s
  | none => .next s

/-- The blob in the area that is not active serves the target, and no SURVIVE key has been added since. -/
def State.blobCurrent (s : State) (b : Bool) : Bool :=
  let a := s.area (1 - s.r Reg.KEY_STORE_AREA)
  a.blob && decide (a.meas = some (measTag (s.bankMeasure b))) &&
    (s.validKeys.filter (fun k => s.rb Reg.KEY_SURVIVE 0 k)).all (fun k => a.keys.any (fun q => decide (q.tag = s.r Reg.KEY_TAG 0 k)))

/-- ACTIVATION_BEGIN (R463): at a boundary X at which no session is energised and the conditions hold, the hand-over is
wrapped again where it must be, the header is written and read back, and the reset with cause 0x04 is ordered. `readOk`
says that the copy read back agrees. -/
def execActivationBegin (readOk : Bool) (s : State) : Host.Outcome State Fault Refusal :=
  if s.running ∧ s.wave = 0 ∧ s.r Reg.UPD_STATE = 6 ∧ s.start.actX.isNone ∧ !s.anyEnergised ∧ s.actRefusal.isNone ∧ !s.ebbLatched then
    let b := s.rb Reg.UPD_TARGET
    let s := if s.blobCurrent b then s else s.wrapFor b
    if readOk then
      let s := (s.trialHeader b).modStart (fun x => { x with actX := some s.tideStart, pause := some 0 })
      .next (s.orderReset 4)
    else
      -- the copy written is not the newer valid one: the running firmware goes on from the copy it started from
      .next s.headerTorn.actAbandon
  else .next s

/-! ## Trial (R465 to R467) -/

/-- A fallback (R467): the trial bank has failed, the other bank is active; the start that follows reports the cause. -/
def State.fallBack (s : State) (b : Bool) (code : Nat) : State :=
  let s := s.headerWrite (fun h => { h.setBank b (fun d => { d with state := 5 }) with active := !b, trialBoots := 0 })
  let s := s.inc Reg.UPD_FALLBACKS
  s.modStart (fun x => { x with fallback := some code })

/-- TRIAL_CONFIRM (R466). -/
def execTrialConfirm (s : State) : Host.Outcome State Fault Refusal :=
  if s.running ∧ s.inTrial ∧ s.r Reg.UPD_CONFIRM_AFTER ≤ s.start.runTides ∧ s.r Reg.KEY_HANDOVER_STATE ≠ 3 ∧ s.start.ordered.isNone then
    let b := s.rb Reg.DEV_BOOT_BANK
    let s := s.headerWrite (fun h => { h.setBank b (fun d => { d with state := 4 }) with trialBoots := 0 })
    .next (((s.w Reg.UPD_STATE 0).w Reg.UPD_TRIAL_LEFT 0).inc Reg.UPD_CONFIRMED |>.ev Reg.UPD_EVENT 3)
  else .next s

/-- TRIAL_DEADLINE (R466): 60,000 tides in RUN without confirmation. -/
def execTrialDeadline (s : State) : Host.Outcome State Fault Refusal :=
  if s.running ∧ s.inTrial ∧ 60000 ≤ s.start.runTides then .next (s.orderReset 4) else .next s

/-- TRIAL_LEFT at a boundary. -/
def State.trialTide (s : State) : State := if s.inTrial then s.w Reg.UPD_TRIAL_LEFT (60000 - s.start.runTides) else s

/-- What the UPDATE operation finds at a start (Table 16.3): the stage the header names. -/
def State.updateStage (s : State) : State :=
  let h := s.headerNow
  let one := fun (b : Bool) (s : State) =>
    let st := (h.bank b).state
    if st = 1 then some ((s.w Reg.UPD_STATE 3).wb Reg.UPD_TARGET b)
    else if st = 2 then some ((s.w Reg.UPD_STATE 5).wb Reg.UPD_TARGET b)
    else none
  if s.inTrial then s.w Reg.UPD_STATE 7
  else
    let first := if s.phase = .strand then !h.active else !s.rb Reg.DEV_BOOT_BANK
    match one first s with
    | some s => s
    | none => if s.phase = .strand then (one (!first) s).getD s else s

/-! ## Strand mode (R473) -/

/-- IMAGE_FRAME_RECEIVE (R473): in strand mode the frames of CH_0 carry request bytes unchanged; a message whose fragments
are all in hand enters the request queue, and its operation is carried out by the command that names it. -/
def execImageFrameReceive (e : Env) (op : Nat) (whole : Bool) (s : State) : Host.Outcome State Fault Refusal :=
  if s.phase = .strand ∧ whole = true then .next (s.enqueue e op) else .next s

end Sys2Proof.Machine
end

