-- ==== Sys2Proof/Machine/Thermal.lean ====
section
/-! DEFINITION. Temperature sensors, bands, throttling, low water, hold-up and the ledge domain (chapter 17, R477 to
R490). -/
namespace Sys2Proof.Machine
set_option cleanup.letToHave false

/-! ## Sensors (R477 to R480); temperatures in 0.01 °C -/

/-- The neighbours of a logic-die sensor in the grid of 4 rows and 8 columns. -/
def neighbours (k : Nat) : List Nat :=
  if 32 ≤ k then []
  else (if 8 ≤ k then [k - 8] else []) ++ (if k < 24 then [k + 8] else []) ++ (if k % 8 ≠ 0 then [k - 1] else []) ++
    (if k % 8 ≠ 7 then [k + 1] else [])

/-- State of a sensor: 0 valid, 1 failed, 2 failed and replaced. -/
def State.snsState (s : State) (k : Nat) : Nat := s.r Reg.THERM_SNS_STATE 0 k
/-- Reading of a sensor. -/
def State.snsTemp (s : State) (k : Nat) : Int := s.ri Reg.THERM_SNS_TEMP 0 k

/-- The greatest of a list. -/
def maxOf : List Int → Option Int
  | [] => none
  | x :: l => some (l.foldl max x)

/-- The readings of the valid neighbours. -/
def State.nearTemps (s : State) (k : Nat) : List Int := ((neighbours k).filter (fun j => decide (s.snsState j = 0))).map s.snsTemp

/-- The limits of a sensor (R478). -/
def State.snsLimits (s : State) (k : Nat) : List Int :=
  [-2300, -2000, 5700, 6000, 10200, 10500, 13200, 13500, 14000, 15000, 16000, 100 * (s.r Reg.THERM_THR_START : Int)] ++
    (if 32 ≤ k ∧ k ≤ 37 then [100 * (s.r Reg.GD_TSD (k - 32) : Int)] else [])

/-- A reading lies within 10 K of a limit. -/
def State.snsNear (s : State) (k : Nat) (v : Int) : Bool := (s.snsLimits k).any (fun l => decide (-1000 ≤ v - l ∧ v - l ≤ 1000))

/-- A sensor is converted in a wave: wave 0, and every 10 waves while it is near a limit. -/
def State.snsDue (s : State) (k w : Nat) : Bool := decide (w = 0) || (s.rb Reg.THERM_SNS_FAST 0 k && decide (w % 10 = 0))

/-- A conversion is good (R479): a value, in range, no step of more than 20 K. -/
def snsGood (last v : Option Int) : Bool :=
  match v with
  | none => false
  | some x => decide (-7000 ≤ x ∧ x ≤ 20000) && (match last with | some y => decide (-2000 ≤ x - y ∧ x - y ≤ 2000) | none => true)

/-- The reading of a sensor and its highest. -/
def State.snsPublish (s : State) (k : Nat) (v : Int) : State :=
  let s := s.wi Reg.THERM_SNS_TEMP v 0 k
  if s.ri Reg.THERM_SNS_PEAK 0 k < v then s.wi Reg.THERM_SNS_PEAK v 0 k else s

/-- The pace of a sensor's conversions (R478). -/
def State.snsPace (s : State) (k w : Nat) (v : Int) : State :=
  let x := Tab.getD s.therm.sensors k {}
  if s.snsNear k v then
    (s.w Reg.THERM_SNS_FAST 1 0 k).modTherm (fun t => { t with sensors := Tab.put t.sensors k { x with calm := 0 } })
  else
    let calm := if w = 0 then x.calm + 1 else x.calm
    let s := s.modTherm (fun t => { t with sensors := Tab.put t.sensors k { x with calm := calm } })
    if 10 ≤ calm then s.w Reg.THERM_SNS_FAST 0 0 k else s

/-- One conversion of a sensor (SENSOR_CONVERSION, SENSOR_FAIL). -/
def State.snsConvert (s : State) (k w : Nat) (v : Option Int) : State :=
  let x := Tab.getD s.therm.sensors k {}
  let good := snsGood x.last v
  let keep := fun (s : State) (y : SensorI) => s.modTherm (fun t => { t with sensors := Tab.put t.sensors k y })
  let last := match v with | some y => some y | none => x.last
  let near := s.nearTemps k
  if s.snsState k = 0 then
    if good then ((keep s { x with last := last }).snsPublish k (v.getD 0)).snsPace k w (v.getD 0)
    else
      let held := decide (k < 32) && x.hottest && decide (0 < s.r Reg.THERM_THR_DEMAND)
      let s := (keep s { x with last := last, good := 0 }).inc Reg.THERM_SNS_FAILS 0 k
      let s := s.ev Reg.THERM_EVENT 3
      if held then
        let s := (s.w Reg.THERM_SNS_STATE 2 0 k).ev Reg.THERM_EVENT 4
        match maxOf near with | some m => s.snsPublish k (m + 1500) | none => s
      else s.w Reg.THERM_SNS_STATE 1 0 k
  else
    -- DEDUCED: a sensor with no valid neighbour, as one of the power die has none, is restored by its own good conversions
    let agrees := match maxOf near with | some m => decide (-500 ≤ v.getD 0 - m ∧ v.getD 0 - m ≤ 500) | none => true
    let run := if good && agrees then x.good + 1 else 0
    let s := keep s { x with last := last, good := run }
    if 10 ≤ run then (s.w Reg.THERM_SNS_STATE 0 0 k).snsPublish k (v.getD 0)
    else if s.snsState k = 2 then match maxOf near with | some m => s.snsPublish k (m + 1500) | none => s
    else s

/-- The logic-die sensors that count: valid or replaced. -/
def State.logicSensors (s : State) : List Nat := (List.range 32).filter (fun k => decide (s.snsState k ≠ 1))

/-- TJ_LOGIC, TJ_MAX and HOT_SENSOR (R480), and which logic-die sensor was hottest at its last good conversion. -/
def State.snsMaxima (s : State) (conv : List Nat) : State :=
  let power := ([32, 33, 34, 35, 36, 37] ++ [40, 41, 42, 43, 44, 45, 46, 47]).filter (fun k => decide (s.snsState k = 0))
  match maxOf (s.logicSensors.map s.snsTemp) with
  | none => s
  | some tl =>
    let all := s.logicSensors ++ power
    let tm := (maxOf (all.map s.snsTemp)).getD tl
    let s := (s.wi Reg.THERM_TJ_LOGIC tl).wi Reg.THERM_TJ_MAX tm
    let s := match all.find? (fun k => decide (s.snsTemp k = tm)) with | some k => s.w Reg.THERM_HOT_SENSOR k | none => s
    s.over (conv.filter (fun k => decide (k < 32) && decide (s.snsState k = 0))) (fun k s =>
      let hot := decide (s.snsTemp k = tl)
      s.modTherm (fun t => { t with sensors := Tab.upd t.sensors k {} (fun y => { y with hottest := hot }) }))

/-- Readings of the power-die sensors pass to the bridges and the load-switch halves (R477, R479): a failed pre-driver
sensor gives its bridge condition 0x07, a failed case reference is replaced by the other half's, and with both failed every channel
holds condition 0x13. -/
def State.snsPower (s : State) : State :=
  let s := s.each 6 (fun x s => if s.snsState (32 + x) = 0 then s.wi Reg.GD_TEMP (s.snsTemp (32 + x)) x else s)
  let a := if s.snsState 38 = 0 then some (s.snsTemp 38) else if s.snsState 39 = 0 then some (s.snsTemp 39) else none
  let b := if s.snsState 39 = 0 then some (s.snsTemp 39) else if s.snsState 38 = 0 then some (s.snsTemp 38) else none
  let s := match a with | some v => s.wi Reg.LSX_T_CASE_A v | none => s
  let s := match b with | some v => s.wi Reg.LSX_T_CASE_B v | none => s
  let s := s.over ((List.finRange 6).filter (fun x => s.gdSensorFailed x.val)) (fun x s => s.thermalHold (.gd x) 7 [] none)
  if s.caseFailed then s.over (List.finRange 32) (fun c s => s.thermalHold (.ls c) 0x13 [] none) else s

/-! ## Bands (R481, R482) -/

/-- Where a band begins. -/
def bandRise : Nat → Int
  | 1 => -2000
  | 2 => 6000
  | 3 => 10500
  | _ => 13500

/-- The band of a temperature, from the present one. -/
def bandUp (t : Int) : Nat → Nat → Nat
  | 0, b => b
  | f + 1, b => if b < 4 ∧ bandRise (b + 1) ≤ t then bandUp t f (b + 1) else b
/-- Falling through the bands. -/
def bandDown (t : Int) : Nat → Nat → Nat
  | 0, b => b
  | f + 1, b => if 0 < b ∧ t < bandRise b - 300 then bandDown t f (b - 1) else b
/-- The band that a temperature selects from a present band. -/
def bandNext (b : Nat) (t : Int) : Nat := bandDown t 5 (bandUp t 5 b)

/-- VCORE floor of a band as a code of 5 mV above 0.600 V (Table 17.1). -/
def floorCode : Nat → Nat
  | 0 => 24
  | 1 => 12
  | 2 => 16
  | 3 => 24
  | _ => 36

/-- The code requested for a band: floor and margin, at most 0.900 V. -/
def State.vidCode (s : State) (b : Nat) : Nat := min 60 (floorCode b + s.r Reg.THERM_VC_MARGIN)

/-- Drive VID. -/
def State.vidDrive (s : State) (c : Nat) : State := if s.r Reg.THERM_VID = c then s else (s.w Reg.THERM_VID c).emit (.pin "VID" c true)

/-- BAND_CHANGE (R481, R482): to a higher floor the code rises first; to a floor no higher the band is reported and the code
follows in the same wave. -/
def State.bandWave (s : State) : State :=
  match s.therm.rise with
  | some (b, _) => s.vidDrive (s.vidCode b)
  | none =>
    let old := s.r Reg.THERM_BAND
    let new := bandNext old (s.ri Reg.THERM_TJ_LOGIC)
    if floorCode old < floorCode new then
      (s.vidDrive (s.vidCode new)).modTherm (fun t => { t with rise := some (new, s.now + 4) })
    else (s.w Reg.THERM_BAND new).vidDrive (s.vidCode new)

/-- MRAM_PARAM_SWITCH (R482): four waves after a rising code change. -/
def execMramParamSwitch (s : State) : Host.Outcome State Fault Refusal :=
  match s.therm.rise with
  | some (b, w) => if w ≤ s.now then .next ((s.w Reg.THERM_BAND b).modTherm (fun t => { t with rise := none })) else .next s
  | none => .next s

/-- The bands of the bridges (R481); a bridge that runs takes its band with its next PWM period (R206). -/
def State.bridgeBands (s : State) : State :=
  s.each 6 (fun x s =>
    if s.snsState (32 + x) = 0 then
      let b := bandNext (s.bridge x).band (s.snsTemp (32 + x))
      let s := s.modBridge x (fun y => { y with band := b })
      if s.r Reg.GD_STATE x = 2 then s else s.w Reg.GD_BAND b x
    else s)

/-! ## Throttle (R483) -/

/-- A replacement holds the throttle: unless three of its neighbours are valid and within 5 K of one another. -/
def State.holdsThrottle (s : State) (k : Nat) : Bool :=
  let l := s.nearTemps k
  !l.any (fun a => decide (3 ≤ (l.filter (fun b => decide (a ≤ b ∧ b ≤ a + 500))).length))

/-- The demand the temperature asks for. -/
def State.demandOf (s : State) : Nat :=
  let k : Int := Int.tdiv (s.ri Reg.THERM_TJ_LOGIC) 100
  min 617 ((s.r Reg.THERM_THR_GAIN : Int) * (k - s.r Reg.THERM_THR_START)).toNat

/-- THROTTLE_DEMAND (R483): a rise at once, a fall of at most 20 ticks per tide and none while a replacement holds it. DESIGN
CHOICE: a fall is taken once a tide, with the conversion of wave 0. -/
def State.demandWave (s : State) (w : Nat) : State :=
  let old := s.r Reg.THERM_THR_DEMAND
  let new := s.demandOf
  let held := (List.range 32).any (fun k => decide (s.snsState k = 2) && s.holdsThrottle k)
  if old ≤ new then s.w Reg.THERM_THR_DEMAND new
  else if held || decide (w ≠ 0) then s
  else s.w Reg.THERM_THR_DEMAND (max new (old - 20))

/-! ## Thermal states (R485, R486) -/

/-- PRED in tides (R485): 160 °C − TJ_MAX over SLOPE, none while SLOPE ≤ 0. `d` is the rise over 100 tides. -/
def predTides (tm d : Int) : Option Nat := if 0 < d then some (Int.toNat ((16000 - tm) * 100 / d)) else none

/-- The threshold below which 100 tides end the present state: 135 °C, or LW_EXIT (Table 17.2). -/
def State.coolLimit (s : State) : Int := if s.r Reg.THERM_STATE = 2 then 100 * (s.r Reg.THERM_LW_EXIT : Int) else 13500

/-- SLOPE and PRED with each new TJ_MAX; THERMAL_WARNING, and what makes low water due. -/
def State.thermState (s : State) : State :=
  let tm := s.ri Reg.THERM_TJ_MAX
  let s := if tm < s.coolLimit then s else s.modTherm (fun t => { t with warm := true })
  let d := match s.therm.history[99]? with | some h => tm - h | none => 0
  let s := s.wi Reg.THERM_SLOPE (Int.tdiv d 10)
  let p := predTides tm d
  let s := s.w Reg.THERM_PRED (match p with | some x => min x 0xFFFFFFFE | none => 0xFFFFFFFF)
  let s := if s.r Reg.THERM_STATE = 0 ∧ 14000 ≤ tm then
      ((s.w Reg.THERM_STATE 1).ev Reg.THERM_EVENT 0).modTherm (fun t => { t with cool := 0 })
    else s
  let soon := match p with | some x => decide (x < s.r Reg.THERM_LW_LEAD) | none => false
  if s.r Reg.THERM_STATE = 1 ∧ (15000 ≤ tm ∨ soon = true) then s.modTherm (fun t => { t with lowDue := true }) else s

/-- The sensors at the end of wave `w`, from start-up step 6 on. -/
def State.thermWave (s : State) (w : Nat) : State :=
  if !s.alive then s
  else
    let conv := (List.range (min 48 s.inp.temps.length)).filter (fun k => s.snsDue k w)
    if conv.isEmpty then s.bandWave
    else
      let s := s.over conv (fun k s => s.snsConvert k w (s.inp.temps.getD k none))
      let s := (s.snsMaxima conv).snsPower
      let s := s.bandWave.bridgeBands
      let s := if conv.any (fun k => decide (k < 32)) then s.demandWave w else s
      s.thermState

/-- The thermal counts of a tide. -/
def State.thermTide (s : State) : State :=
  let tm := s.ri Reg.THERM_TJ_MAX
  let below := decide (tm < s.coolLimit)
  s.modTherm (fun t => { t with
    history := (tm :: t.history).take 100
    cool := if below && !t.warm then t.cool + 1 else 0
    warm := false
    holdAge := t.holdAge + 1 })

/-- WARNING_EXIT (R485). -/
def execWarningExit (s : State) : Host.Outcome State Fault Refusal :=
  if s.r Reg.THERM_STATE = 1 ∧ 100 ≤ s.therm.cool ∧ !s.therm.lowDue then .next (s.w Reg.THERM_STATE 0) else .next s

/-- LOW_WATER_BEGIN (R486 step 1): at a boundary every energised session is stopped on the device's own behalf. -/
def execLowWaterBegin (s : State) : Host.Outcome State Fault Refusal :=
  if s.running ∧ s.wave = 0 ∧ s.r Reg.THERM_STATE = 1 ∧ s.therm.lowDue = true then
    let s := s.modTherm (fun t => { t with lowDue := false, saved := false, cool := 0 })
    let s := ((s.w Reg.THERM_STATE 2).inc Reg.THERM_LW_COUNT).ev Reg.THERM_EVENT 1
    .next (s.each 32 (fun n s => if s.energised n then s.w Reg.SESS_STOP 1 n else s))
  else .next s

/-- The cabinet releases of low water (R486 step 2): the cabinets on buses attached to no connector move to no bus. -/
def State.lowWaterPlan (s : State) : State :=
  if s.r Reg.THERM_STATE = 2 then
    let l := s.cabinets.filter (fun c => decide (s.r Reg.CAB_BUS c < 64) && (s.busConn (s.r Reg.CAB_BUS c)).isNone && !s.rb Reg.CAB_IN_MOVE c)
    s.over l (fun c s => if s.freeSlot.isSome then (s.issueCab c none).2 else s)
  else s

/-- The matrix is open: no cabinet stands on a bus, no bus on a connector, no move is in progress. -/
def State.matrixOpen (s : State) : Bool :=
  s.busyMoves.isEmpty && s.cabinets.all (fun c => decide (64 ≤ s.r Reg.CAB_BUS c)) && (List.range 64).all (fun b => (s.busConn b).isNone)

/-- Ask for the write of the settings generation (R60, R468, R469): into the slot not in use, or during a trial in place. A
generation that waits to be written is replaced. -/
def State.settingsSave (s : State) : State :=
  let x := s.start
  let writer := match x.fw, x.image with
    | some f, some t => (Config.sha384 (leBytes 48 f.digest ++ leBytes 48 t.digest)).toNat % 2 ^ 64
    | _, _ => 0
  -- the last generation: the one being written, else the one in use
  let last : Bool × Nat := match s.meter.writing with
    | some ⟨_, .settings b g, _⟩ => (b, g.seq)
    | _ => (x.genSlot, s.r Reg.DEV_SETTINGS_GEN)
  let g : SettingsGen := { seq := last.2 + 1, writer := writer, tide := s.tide, rtc := s.rtc, regs := x.settings }
  let s := s.modMeter (fun m => { m with waiting := m.waiting.filter (fun w => match w.what with | .settings _ _ => false | _ => true) })
  s.queueRec .other (.settings (if s.inTrial then last.1 else !last.1) g)

/-- LOW_WATER_SAVE (R486 step 3): the save record, the settings generation and the cable models. -/
def execLowWaterSave (s : State) : Host.Outcome State Fault Refusal :=
  if s.running ∧ s.r Reg.THERM_STATE = 2 ∧ !s.therm.saved ∧ s.matrixOpen = true then
    let s := s.modTherm (fun t => { t with saved := true })
    let s := if s.legalStore then
        let seq := s.meter.seq + 1
        s.poolWrite .lowWater s.shutdownSlot (seq, s.poolRecord 3 seq 0 false)
      else s
    .next s.settingsSave.cableSave
  else .next s

/-- LOW_WATER_EXIT (R485). -/
def execLowWaterExit (s : State) : Host.Outcome State Fault Refusal :=
  if s.running ∧ s.wave = 0 ∧ s.r Reg.THERM_STATE = 2 ∧ 100 ≤ s.therm.cool ∧ s.therm.saved = true then .next ((s.w Reg.THERM_STATE 0).ev Reg.THERM_EVENT 2)
  else .next s

/-! ## Hold-up and the ledge domain (R489, R490, R495) -/

/-- HOLD_PASS: both parts of the hold-up test passed; R461 takes its failure. -/
def State.holdRefresh (s : State) : State :=
  let ok := s.therm.storeOk && s.therm.rideOk
  (s.wb Reg.LEDGE_HOLD_PASS ok).modStart (fun x => { x with holdupFailed := !ok })

/-- HOLDUP_STORE_TEST (R490): every 6,000 tides the store's AUX channel is read against HOLD_MIN. -/
def execHoldupStoreTest (s : State) : Host.Outcome State Fault Refusal :=
  if s.alive ∧ s.rb Reg.LEDGE_HOLD_EN ∧ 6000 ≤ s.therm.holdAge then
    let v := s.inp.aux.getD (s.r Reg.LEDGE_HOLD_CHAN) 0
    let ok := decide (s.r Reg.LEDGE_HOLD_MIN ≤ v)
    let s := (s.w Reg.LEDGE_HOLD_V v).modTherm (fun t => { t with holdAge := 0, storeOk := ok })
    .next ((if ok then s else s.ev Reg.LEDGE_EVENT 0).holdRefresh)
  else .next s

/-- What the die reads of its supplies in a wave (Table 17.6). DEDUCED: the ledge domain runs on VLEDGE while VIO33 is out of range,
and EVENT bits 2 and 3 set when that begins, and when VLEDGE falls below 2.6 V. -/
def State.ledgeWave (s : State) : State :=
  let low := decide (2600 ≤ s.r Reg.LEDGE_VLEDGE ∧ s.inp.vledge < 2600)
  let onLedge := !s.inp.supplies.getLsbD 2
  let begins := onLedge && !s.rb Reg.LEDGE_SOURCE
  let s := (s.w Reg.LEDGE_VLEDGE (min 4095 s.inp.vledge)).w Reg.LEDGE_SUPPLIES s.inp.supplies.toNat
  ((s.wb Reg.LEDGE_SOURCE onLedge).when begins (fun s => s.ev Reg.LEDGE_EVENT 2)).when low (fun s => s.ev Reg.LEDGE_EVENT 3)

/-- LEDGE_SUPPLY_LOSS (R489): the share, the RTC and the tamper counts held since the last merge are lost; the count of class
9 takes 0xFFFF_FFFF. -/
def execLedgeSupplyLoss (s : State) : Host.Outcome State Fault Refusal :=
  let s := s.eraseLedge.ev Reg.KEY_EVENT 5
  let s := ((s.w Reg.BILL_RTC_VALID 0).w Reg.BILL_TIME_STATUS 0x55).inc Reg.LEDGE_RTC_LOSS
  let s := s.modBill (fun b => { b with ledge := [] })
  .next (s.w Reg.TAMP_COUNT 0xFFFFFFFF 9)

/-- VLEDGE_LOW (R495): below 2.6 V. -/
def execVledgeLow (mv : Fin 4096) (s : State) : Host.Outcome State Fault Refusal :=
  if mv.val < 2600 then .next ((s.w Reg.LEDGE_VLEDGE mv.val).ev Reg.LEDGE_EVENT 3) else .next s

end Sys2Proof.Machine
end

