-- ==== Sys2Proof/Machine/Boot.lean ====
section
/-! DEFINITION. What the start-up steps do (R49 to R62): OTP, header and bank, measurement and roots, the vault store, the
settings, the loading of step 6. -/
namespace Sys2Proof.Machine
set_option cleanup.letToHave false

/-! ## Step 1: OTP and self-test results -/

/-- The life-cycle state of a fuse pattern (R403). -/
def fuseState (f : Nat) : Nat :=
  match f with
  | 0 => 0
  | 1 => 1
  | 3 => 2
  | 7 => 3
  | _ => 4

/-- Select the active generations and read the life-cycle state. A spent generation that is invalid sets EVENT bit 3 (R400). -/
def State.readOtp (s : State) : State :=
  let valid := s.r Reg.OTP_VALID &&& (s.r Reg.OTP_RETIRED ^^^ 0xFFFFF)
  let spent := s.r Reg.OTP_SPENT &&& (s.r Reg.OTP_RETIRED ^^^ 0xFFFFF)
  let s := (s.w Reg.OTP_VALID valid).when (decide (spent ≠ valid)) (fun s => s.ev Reg.OTP_EVENT 3)
  let act : Tab Nat := [1, 2, 3, 4, 5].filterMap (fun b => (s.activeGen b).map (fun g => (b, g)))
  let s := s.modOtp (fun o => { o with active := act })
  let g := fun b => Tab.getD act b 0
  let s := if s.r Reg.OTP_ACTIVE / 4 % 4 = g 3 % 4 then s else s.issuersEmpty
  let s := s.w Reg.OTP_ACTIVE (g 2 + 4 * g 3 + 16 * g 4 + 64 * g 5)
  let ident := (Tab.find act 1).isSome
  let s := s.wb Reg.OTP_IDENT_VALID ident
  let lc := fuseState (s.r Reg.OTP_LC_FUSES)
  let s := (s.w Reg.OTP_LIFECYCLE lc).w Reg.DEV_LIFECYCLE lc
  if ident then
    let s := s.each 4 (fun i s => s.w Reg.DEV_SERIAL (s.r Reg.OTP_IDENT_WORD 0 0 (2 + i)) 0 i)
    s.w Reg.DEV_SILICON_REV (s.r Reg.OTP_IDENT_WORD 0 0 20 % 256)
  else s

/-- The self-tests that ROM ran before step 1 (R492). A failure latches until a run passes every zone and memory. The march
over SRAM is destructive. -/
def State.bistDone (s : State) (l : List BistRes) : State :=
  let req := s.start.bist
  if req = 0 then s
  else
    let mine := l.filter (fun x => decide (x.zone < 14) && bit req x.zone)
    let s := s.over mine (fun x s =>
      let s := s.each 4 (fun i s => s.w Reg.BIST_SIG (x.sig.toNat / 2 ^ (32 * i)) 0 x.zone i)
      let s := s.w Reg.BIST_RESULT (if x.pass then 1 else 2) 0 x.zone
      if 12 ≤ x.zone then s.w Reg.BIST_BAD_WORDS x.bad 0 x.zone else s)
    let fails := mine.any (fun x => !x.pass)
    let all := (List.range 14).all (fun z => mine.any (fun x => decide (x.zone = z) && x.pass))
    let s := if fails then s.w Reg.BIST_FAIL_LATCH 1 else if all then s.w Reg.BIST_FAIL_LATCH 0 else s
    let s := (s.ev Reg.BIST_EVENT 0).when fails (fun s => s.ev Reg.BIST_EVENT 1)
    let s := if bit req 12 then { s with mem := s.mem.filter (fun c => decide (0x04000000 ≤ c.1)) } else s
    s.modStart (fun x => { x with bist := 0 })

/-! ## Step 5: measurement and roots (R59, R389, R390) -/

/-- The owner root as bytes, first byte lowest. -/
def State.ownerBytes (s : State) : List Byte := leBytes 48 (s.ownerRoot.getD 0)

/-- A root slot. -/
def rootKey (k type usage mat : Nat) (pub : List Byte) : KeyRec :=
  { slot := k, type := type, usage := usage, limit := 0, survive := false, ledge := false, anchor := false, origin := 0
    count := 0, tag := 0, created := 0, mat := mat, pub := pub }

/-- The root slots of a mode (Table 13.3): `m` is the boot measurement of a normal start, none in strand mode. -/
def State.roots (s : State) (m : Option Nat) : State :=
  let lc := s.r Reg.DEV_LIFECYCLE
  let drs := s.vault.drs
  let serial := leBytes 16 s.serial
  let owned := decide (lc = 2 ∨ lc = 3)
  let boot := kdf drs (ascii "UMR-BOOT") (2 :: s.ownerBytes) 384
  let svc := kdf boot (ascii "UMR-SVC") s.ownerBytes 384
  let s := match m with
    | some meas =>
      if owned then
        let mode := kdf svc (ascii "UMR-MEAS") (leBytes 48 meas) 384
        let s := (s.putKey (rootKey 1 2 4 svc [])).modVault (fun v => { v with svc := svc })
        let s := s.putKey (rootKey 7 1 0 (kdf mode (ascii "UMR-STORE") [] 256) [])
        (s.putKey (rootKey 2 2 4 mode [])).w Reg.KEY_ROOT_MODE 2
      else if lc = 1 then (s.putKey (rootKey 2 2 4 (kdf drs (ascii "UMR-MFG") serial 384) [])).w Reg.KEY_ROOT_MODE 1
      else s.w Reg.KEY_ROOT_MODE 0
    | none =>
      if lc = 0 then s.w Reg.KEY_ROOT_MODE 0
      else (s.putKey (rootKey 2 2 4 (kdf drs (ascii "UMR-RCV") serial 384) [])).w Reg.KEY_ROOT_MODE 3
  let s := match Tab.find s.otp.active 3 with
    | some g => s.putKey (rootKey 4 2 7 (Tab.getD s.vault.att g 0) [])
    | none => s
  let s := if lc = 0 then s
    else
      let d := childMaterial 3 drs (ascii "UMR-ID") serial
      s.putKey (rootKey 5 3 5 d (publicOf d))
  if lc = 0 ∨ lc = 4 then s
  else
    let d := childMaterial 3 drs (ascii "UMR-IMP") serial
    s.putKey (rootKey 6 3 3 d (publicOf d))

/-- The boot measurement in DEV.MEASURE, and the count UPDATES of Table 13.4. -/
def State.measure (s : State) (m : Nat) : State :=
  let s := s.each 12 (fun i s => s.w Reg.DEV_MEASURE (m / 2 ^ (32 * i)) 0 i)
  let s := match s.vault.lastM with
    | some old => if old = m then s else s.inc Reg.KEY_UPDATES
    | none => s
  s.modVault (fun v => { v with lastM := some m })

/-! ## The vault store (R391 to R395) -/

/-- LEDGE_SHARE_GENERATE (R392): a start in OWNED or SERVICE that finds no valid share generates one. A share that is there and does
not read valid was lost with VLEDGE. -/
def State.shareStart (s : State) (ok : Bool) : State :=
  if ok && decide (s.vault.share ≠ 0) then s.w Reg.KEY_LEDGE_SHARE 1
  else
    let lost := decide (s.vault.share ≠ 0)
    let s := if lost then s.eraseLedge.ev Reg.KEY_EVENT 5 else s
    let (b, s) := s.freeBlock
    (s.modVault (fun v => { v with share := b.toNat % 2 ^ 256 })).w Reg.KEY_LEDGE_SHARE 1

/-- Put stored keys into their slots; an entry that cannot be read leaves its key invalid (R391). -/
def State.loadKeys (s : State) (l : List KeyRec) (bad : List Nat) : State :=
  s.over l (fun q s =>
    if bad.contains q.slot then (s.putKey { q with state := 2, cause := 4, mat := 0 }).ev Reg.KEY_EVENT 4 else s.putKey q)

/-- The tags that a revocation note removes: those noted, and those of keys derived from them. -/
def revoked (l : List KeyRec) : Nat → List Nat → List Nat
  | 0, tags => tags
  | f + 1, tags =>
    let more := (l.filter (fun q => decide (q.parent ≠ 511) && tags.contains q.parentTag && !tags.contains q.tag)).map (·.tag)
    if more.isEmpty then tags else revoked l f (tags ++ more)

/-- The area of a measurement (R391, R395): one that holds a blob for it, else the active one of those whose MEAS_TAG matches. -/
def State.areaFor (s : State) (m : Nat) : Option Nat :=
  let act := s.r Reg.KEY_STORE_AREA
  let l := [act, 1 - act].filter (fun i => decide ((s.area i).meas = some (measTag m)))
  match l.find? (fun i => (s.area i).blob) with
  | some i => some i
  | none => l.head?

/-- KEY_HANDOVER_UNWRAP (R395): the keys of a blob enter their slots but for those that the revocation note drops. DEDUCED from
INV_CAUSE 0x5: a dropped key's slot shows an invalid key of that cause. A key that cannot be unwrapped is reported with 0x1406. -/
def State.handoverStart (s : State) (i : Nat) (keys : List KeyRec) (bad : List Nat) : State :=
  let a := s.area i
  let gone := revoked keys 16 a.notes
  let keep := keepLineage 16 (keys.filter (fun q => !gone.contains q.tag))
  let s := s.loadKeys (keep.map (fun (q : KeyRec) => { q with origin := 4 })) bad
  let s := s.over (keys.filter (fun q => gone.contains q.tag)) (fun q s => s.putKey { q with state := 2, cause := 5, mat := 0 })
  let lost := keep.filter (fun q => bad.contains q.slot)
  let s := s.over lost (fun q s => (s.ev Reg.KEY_EVENT 3).emit (.report 0x1406 q.slot))
  let s := s.setArea i { a with keys := keep, blob := false, notes := [], ledgeLost := false }
  ((s.w Reg.KEY_STORE_AREA i).w Reg.KEY_HANDOVER_STATE 2).w Reg.KEY_HANDOVER_KEYS (keep.length - lost.length)

/-- The vault store at step 6 (R391, R395, R402): `trial` says that the active bank is in trial. Where no area matches, the store
is empty; outside a trial the area that is not active becomes the new active area. -/
def State.vaultStart (s : State) (m : Nat) (trial : Bool) (bad : List Nat) : State :=
  let s := match s.areaFor m with
    | some i =>
      let a : Area := s.area i
      let keys : List KeyRec := a.keys.filter (fun q => !(q.ledge && a.ledgeLost))
      if a.blob then s.handoverStart i keys bad
      else
        let s := s.loadKeys (keepLineage 16 keys) bad
        (s.setArea i { a with ledgeLost := false }).w Reg.KEY_STORE_AREA i
    | none =>
      let s := (s.w Reg.KEY_HANDOVER_STATE 3).ev Reg.KEY_EVENT 3
      if trial then s
      else
        let i := if (s.area 0).meas.isNone ∧ (s.area 1).meas.isNone then 0 else 1 - s.r Reg.KEY_STORE_AREA
        (s.setArea i { meas := some (measTag m) }).w Reg.KEY_STORE_AREA i
  s.vaultRefresh

/-! ## Settings (R60, R468) -/

/-- Write a stored setting into its field. -/
def State.applySetting (s : State) (k : Nat) (v : BitVec 32) : State := s.wPend ⟨k / 32, k % 32, v.toNat⟩

/-- Take a settings generation in force. -/
def State.useGen (s : State) (g : SettingsGen) (slot : Bool) : State :=
  let s := s.over g.regs (fun p s => s.applySetting p.1 p.2)
  (s.modStart (fun x => { x with settings := g.regs, genSlot := slot, genRead := true })).w Reg.DEV_SETTINGS_GEN g.seq

/-- WRITER of a bank (R468). -/
def writerOf (f : FwImage) (t : TtImage) : Nat := (Config.sha384 (leBytes 48 f.digest ++ leBytes 48 t.digest)).toNat % 2 ^ 64

/-- The newest of some generations with their slots. -/
def newestGen (l : List (SettingsGen × Bool)) : Option (SettingsGen × Bool) :=
  l.foldl (fun x g => match x with
    | none => some g
    | some y => if y.1.seq < g.1.seq then some g else some y) none

/-- SETTINGS_READ and SETTINGS_MIGRATION: none when the migration fails. -/
def State.settingsStart (s : State) (q : StartIn) (f : FwImage) (t : TtImage) : Option State :=
  let l := (match s.start.gen0 with | some g => if q.gen0Ok then [(g, false)] else [] | none => []) ++
    (match s.start.gen1 with | some g => if q.gen1Ok then [(g, true)] else [] | none => [])
  let me := writerOf f t
  match newestGen (l.filter (fun g => decide (g.1.writer = me))) with
  | some (g, slot) => some (s.useGen g slot)
  | none => match newestGen l with
    | none => some (s.wbit Reg.DEV_INHIBIT 1 true)
    | some (g, slot) =>
      if q.migrateOk then
        let n : SettingsGen := { g with seq := g.seq + 1, writer := me }
        let s := s.modStart (fun x => if slot then { x with gen0 := some n } else { x with gen1 := some n })
        some (s.useGen n (!slot))
      else none

/-! ## Step 6 -/

/-- LR_CHECK (R306, R307). -/
def State.lrCheck (s : State) (f : FwImage) : State :=
  let gen := Tab.find s.otp.active 5
  let word := fun k => match gen with | some g => s.r Reg.OTP_LEGAL_WORD 0 g k | none => 0
  -- LR_VERSION is payload bytes 0 and 1, LR_DIGEST bytes 2 to 9
  let w2 := word 2
  let w3 := word 3
  let w4 := word 4
  let dig := w2 / 65536 + w3 * 65536 + (w4 % 65536) * 2 ^ 48
  let s := ((s.w Reg.BILL_LR_VERSION (w2 % 65536)).w Reg.BILL_LR_DIGEST dig 0 0).w Reg.BILL_LR_DIGEST (dig / 4294967296) 0 1
  let ok := gen.isSome && decide (f.lrDigest % 2 ^ 64 = dig)
  let s := s.wb Reg.BILL_LR_MATCH ok
  if ok then s.tamperArise 15 false else (s.tamperArise 15 true).ev Reg.BILL_EVENT 6

/-- The calibration in use (R397), and tamper class 12 (R234, R330). -/
def State.calStart (s : State) : State :=
  let s := match Tab.find s.otp.active 4 with
    | some g => ((s.w Reg.MET_CAL_GEN g).w Reg.MET_CAL_VALID 1).w Reg.MET_CAL_CRC (s.r Reg.OTP_CAL_WORD 0 g 639)
    | none => (s.w Reg.MET_CAL_GEN 0).w Reg.MET_CAL_VALID 0
  let changed := match s.newestSlot (List.range 18) with
    | some k => decide (s.poolByte k 40 4 ≠ s.r Reg.MET_CAL_CRC)
    | none => false
  let bad := !s.rb Reg.MET_CAL_VALID && s.points.any (fun p => s.rb Reg.MPT_LEGAL p)
  s.tamperArise 12 (changed || bad)

/-- TAMPER_MERGE (R295): what the ledge domain kept joins the records. -/
def State.tamperMerge (s : State) : State :=
  let l := s.bill.ledge
  (s.modBill (fun b => { b with ledge := [] })).over l (fun x s => s.tamperEvents x.1 x.2.1 x.2.2.1 x.2.2.2)

/-- RIDE_THROUGH_JUDGE (R490): 99 periods or more pass. -/
def State.rideJudge (s : State) (n : Option Nat) : State :=
  let s := match n with | some k => s.w Reg.LEDGE_RIDE_LAST k | none => s
  let last := s.r Reg.LEDGE_RIDE_LAST
  let ok := decide (last = 0 ∨ 99 ≤ last)
  let s := s.modTherm (fun t => { t with rideOk := ok })
  match n with
  | some _ => (if ok then s else s.ev Reg.LEDGE_EVENT 1).holdRefresh
  | none => s

/-- INHIBIT bits 0 and 2 (Table 2.9). -/
def State.inhibitStart (s : State) : State :=
  let s := s.wb Reg.SAFE_COMMISSIONED (decide (s.safety.confirmed = some (BitVec.ofNat 32 (s.r Reg.SAFE_CHECK_VALUE))))
  (s.wbit Reg.DEV_INHIBIT 0 (decide (s.r Reg.DEV_LIFECYCLE ≠ 3))).wbit Reg.DEV_INHIBIT 2 (!s.rb Reg.SAFE_COMMISSIONED)

/-- Modulator clocks of the enabled points start at step 6. -/
def State.clocksStart (s : State) : State :=
  let s := s.over (s.points.filter (fun p => !s.isReleased (resId 7 (pointMods p).2))) (fun p s => s.w Reg.MET_MCLK_RUN 1 0 (pointMods p).2)
  s.w Reg.MET_STATE 1

/-- The loading of step 6 from the images of a bank, without the settings. -/
def State.loadStep (s : State) (f : FwImage) (t : TtImage) (b : Bool) : State :=
  let slot := s.r Reg.PREPAY_TOKEN_KEY
  let s := { s with regs := s.regs.filter (fun p => !driveParams.any (fun f => f.isAt p.1)) }.loadImage t
  -- a new TOKEN_KEY slot resets the token window (R300)
  let s := if s.r Reg.PREPAY_TOKEN_KEY = slot then s else s.modBill (fun b => { b with prep := { b.prep with base := 0, map := [] } })
  let s := s.modStart (fun x => { x with image := some t, fw := some f })
  let s := ((s.wb Reg.DEV_BOOT_BANK b).w Reg.DEV_FW_SVN f.svn).w Reg.DEV_TT_SVN t.svn
  let s := (s.w Reg.TIDE_IMAGE_TAG (t.digest % 4294967296)).w Reg.SAFE_CHECK_VALUE t.safetyCrc.toNat
  match t.decl.holdupAux with
  | some k => (s.w Reg.LEDGE_HOLD_CHAN k).w Reg.LEDGE_HOLD_EN 1
  | none => s

/-- The devices' records that a start takes from MRAM. -/
def State.recordsStart (s : State) : State := s.prepRestore.recRefresh

/-- The RTC counted on while the die was off, where it is valid (R489). -/
def State.rtcStart (s : State) (q : StartIn) : State :=
  if s.rb Reg.BILL_RTC_VALID then s.w64 Reg.BILL_RTC_LO Reg.BILL_RTC_HI (s.rtc + q.rtcMs) else s

end Sys2Proof.Machine
end

