-- ==== Sys2Proof/Machine/Start.lean ====
section
/-! DEFINITION. The start sequence: release of reset, the failure exits, strand entry, the holds of a start, and what orders
a reset (R49 to R62, R403, R465, R467, R472, R487, R488, R492). -/
namespace Sys2Proof.Machine
set_option cleanup.letToHave false

/-! ## Exits (R61, R472) -/

/-- Record a failure exit: of the first bank tried, or of the other one. -/
def State.startExit (s : State) (second : Bool) (x : Nat × Nat) : State :=
  if second then (s.w Reg.DEV_START_EXIT2 x.1).w Reg.DEV_START_DETAIL2 x.2
  else (s.w Reg.DEV_START_EXIT x.1).w Reg.DEV_START_DETAIL x.2

/-- STRAND_MODE_ENTRY (R472): `cause` is the last exit of the start, or 0. TSN_00 runs in mode 0x1, untagged (R473). -/
def State.strandEntry (s : State) (cause : Nat) : State :=
  let s := { s with phase := .strand }
  let s := ((s.w Reg.DEV_START_MODE 1).w Reg.UPD_STRAND_CAUSE cause).ev Reg.UPD_EVENT 5
  ((s.roots none).w Reg.TSN_MODE 1 0).headerShow.updateStage

/-- UPDATE_FALLBACK (R467): the header names the other bank, FAILED_STARTS is 0, and the die resets with cause 0x04. -/
def State.startFallback (s : State) (b : Bool) (code : Nat) : State :=
  ((s.fallBack b code).w Reg.DEV_FAILED_STARTS 0).dieReset 4

/-! ## Registers kept over a reset (R263) -/

/-- The pool holds nothing but zeros. -/
def State.poolBlank (s : State) : Bool := s.mem.all (fun c => decide (c.1 < poolSlot 0 ∨ poolSlot 18 ≤ c.1))

/-- Registers, residuals and pulse state of a pool record. -/
def State.poolRestore (s : State) (k : Nat) : State :=
  let s := s.each 8 (fun p s => s.each 7 (fun r s => s.setAcc p r (s.poolByte k (64 + 84 * p + 12 * r) 8) (s.poolByte k (72 + 84 * p + 12 * r) 4)))
  let s := s.each 32 (fun n s => s.each 2 (fun r s => s.setAcc (8 + n) r (s.poolByte k (736 + 24 * n + 12 * r) 8) (s.poolByte k (744 + 24 * n + 12 * r) 4)))
  s.each 16 (fun j s => (s.w Reg.MET_PLS_RES (s.poolByte k (1504 + 8 * j) 4) 0 j).w Reg.MET_PLS_BACKLOG (s.poolByte k (1508 + 8 * j) 4) 0 j)

/-- The readings of the newest closed billing period × 10^6. -/
def State.periodRestore (s : State) : State :=
  if s.r Reg.BILLP_P_STATE 1 = 2 then
    s.each 40 (fun p s => s.each (if p < 8 then 7 else 2) (fun r s => s.setAcc p r (s.r64 Reg.BILLP_READ_LO Reg.BILLP_READ_HI 1 p r * 1000000) 0))
  else s

/-- RESTORE_AT_RUN (R263, Table 8.9): the newest valid record, or the reconstruction. -/
def State.restoreAtRun (s : State) : State :=
  match s.newestSlot (List.range 18) with
  | some k =>
    let kind := s.poolByte k 6 1
    let s := s.poolRestore k
    let s := s.each 40 (fun p s => s.w Reg.MPT_IV_FLAGS (s.r Reg.MPT_IV_FLAGS p ||| s.poolByte k (1632 + 2 * p) 2) p)
    let s := if kind = 1 then s.over s.points (fun p s => s.wbit Reg.MPT_IV_FLAGS 7 true p)
      else if kind = 2 then (s.over s.points (fun p s => (s.wbit Reg.MPT_IV_FLAGS 8 true p).breach p)).ev Reg.MET_EVENT 3
      else s
    let seq := s.poolByte k 8 8
    let s := ((s.w Reg.MET_RESTORE_KIND kind).w Reg.MET_RESTORE_TIDE (s.poolByte k 16 8)).w Reg.MET_SEQUENCE seq
    (s.modMeter (fun m => { m with seq := seq, seqDone := seq })).w Reg.MET_POOL 1
  | none =>
    if s.poolBlank then s
    else
      let s := s.periodRestore
      let s := s.over s.points (fun p s => (s.wbit Reg.MPT_IV_FLAGS 9 true p).breach p)
      ((s.w Reg.MET_RESTORE_RECON 1).w Reg.MET_POOL 1).ev Reg.MET_EVENT 4

/-! ## A start from step 2 (R54, R55, R58, R59, R465) -/

/-- RUN follows at the next boundary without waiting for a beacon: a root that is no pair, or a witness (R63, R79). -/
def State.entersAlone (s : State) : Bool := decide (s.r Reg.CHAIN_STATE = 5) || (decide (s.r Reg.CHAIN_STATE = 3) && s.decl.pair.isNone)

/-- The frozen registers of a retired device (R250). -/
def State.poolRetired (s : State) : State := s.restoreAtRun.w Reg.MET_STATE 3

/-- The ledge share and the vault store (R391 to R395). -/
def State.startVault (s : State) (q : StartIn) (m lc : Nat) : State :=
  if lc = 2 ∨ lc = 3 then (s.shareStart q.shareOk).vaultStart m s.inTrial q.vaultBad else s

/-- Steps 6 and 7 past the vault and the settings: what firmware loads, then JOIN; or the retired start of Table 2.7. -/
def State.startJoin (s : State) (q : StartIn) (f : FwImage) : State :=
  let s := s.tamperMerge.lrCheck f
  let s := s.calStart.tamperArise 9 (!s.rb Reg.BILL_RTC_VALID)
  let s := ((s.recordsStart.rideJudge q.ride).when (decide (s.r Reg.DEV_LIFECYCLE ≠ 4)) State.clocksStart).inhibitStart
  let s := (s.vidDrive (s.vidCode (s.r Reg.THERM_BAND))).headerShow.updateStage.trialTide
  let s := match s.start.fallback with
    | some c => (s.w Reg.UPD_RESULT c).ev Reg.UPD_EVENT 4
    | none => s
  let s := if q.selfTest then s else s.safeInternal 0x23
  if s.r Reg.DEV_LIFECYCLE = 4 then
    let s := (s.w Reg.DEV_START_MODE 2).poolRetired
    { s with phase := .retired }
  else
    let s := { s with phase := .join }.chainJoin.pairJoin
    s.modStart (fun x => { x with sinceRelease := q.tides, joinTides := 0, runTides := 0, runNext := s.entersAlone })

/-- Steps 5 to 7 from a bank that has passed its checks. -/
def State.startBank (s : State) (q : StartIn) (b : Bool) : State :=
  match s.fwOf b, s.ttOf b with
  | some f, some t =>
    let m := measureOf f.digest t.digest s.activeGens
    let trial := decide ((s.headerNow.bank b).state = 3)
    let s := (s.measure m).roots (some m)
    if !f.selfTest then s.startFails.dieReset 5
    else
      let s := s.loadStep f t b
      let lc := s.r Reg.DEV_LIFECYCLE
      match (s.settingsStart q f t : Option State) with
      | none => if trial then s.startFallback b 0x1A0D else ((s.wbit Reg.DEV_INHIBIT 1 true).startVault q m lc).startJoin q f
      | some s =>
        let s := s.startVault q m lc
        if trial ∧ s.r Reg.KEY_HANDOVER_STATE = 3 then s.startFallback b 0x1A0E else s.startJoin q f
  | _, _ => s

/-- A bank state is startable (R55). -/
def startable (st : Nat) : Bool := decide (2 ≤ st ∧ st ≤ 4)

/-- BANK_FALLBACK (R55): the first bank, and once the other one. -/
def State.startTry (s : State) (q : StartIn) (b : Bool) : State :=
  let home := s.rbit Reg.DEV_STRAPS 1
  match s.bankCheck b home with
  | none => s.startBank q b
  | some x =>
    let s := s.startExit false x
    if startable (s.headerNow.bank (!b)).state then
      match s.bankCheck (!b) home with
      | none => s.startBank q (!b)
      | some y => (s.startExit true y).strandEntry y.1
    else s.strandEntry x.1

/-- A start from step 2 of Table 2.4. -/
def State.startFrom2 (s : State) (q : StartIn) : State :=
  if s.header.isNone then (s.startExit false (0x0102, 0)).strandEntry 0x0102
  else
    let h := s.headerNow
    let a := h.active
    if startable (h.bank a).state then
      if (h.bank a).state = 3 then
        -- TRIAL_BOOT_COUNT (R465)
        if 3 ≤ h.trialBoots then s.startFallback a 0x1A0F
        else (s.headerWrite (fun h => { h with trialBoots := h.trialBoots + 1 })).startTry q a
      else s.startTry q a
    else if startable (h.bank (!a)).state then s.startTry q (!a)
    else (s.startExit false (0x0103, 0)).strandEntry 0x0103

/-! ## Release (R49, R50, R58) -/

/-- The start mode of step 1, and the start. Exit 0x010B of a retired device is taken before any bank is tried; DESIGN CHOICE: where
a bank fails after it, START_EXIT holds the exit of the bank, for the spec gives it no second place. -/
def State.startMode (s : State) (q : StartIn) : State :=
  let h := s.headerNow
  let trial := decide ((h.bank h.active).state = 3)
  if s.r Reg.DEV_LIFECYCLE = 0 then s.strandEntry 0
  else if !s.rb Reg.OTP_IDENT_VALID then { s.startExit false (0x0101, 0) with phase := .halt }
  else if q.strandN then s.strandEntry 0
  else if 3 ≤ s.r Reg.DEV_FAILED_STARTS ∧ !trial then (s.startExit false (0x010A, 0)).strandEntry 0x010A
  else (s.when (decide (s.r Reg.DEV_LIFECYCLE = 4)) (fun s => s.startExit false (0x010B, 0))).startFrom2 q

/-- Straps, the reset cause, the faults a loss of power clears, and step 1 but for the start mode. -/
def State.releaseStep (s : State) (q : StartIn) : State :=
  let cause := s.start.cause
  let s := s.modPins (fun p => { p with refclk := true, resetN := false, supplyOut := false })
  let s := s.w Reg.DEV_RESET_CAUSE cause
  let s := if cause = 1 then
      let keep := s.safety.island.toNat &&& s.r Reg.SAFE_INT_FAULT
      let s := s.w Reg.SAFE_INT_FAULT keep
      { s with safety := { s.safety with
          latched := s.safety.latched.filter (fun p => decide (p.1 / 4096 < 0x20) || bit keep (p.1 / 4096 - 0x20)) } }.safeRefresh
    else s
  let s := s.w Reg.DEV_STRAPS ((if q.chainRoot then 1 else 0) + (if q.homeSel then 2 else 0) + (if q.strandN then 4 else 0))
  let old := s.r Reg.DEV_LIFECYCLE
  let s := (s.bistDone q.bist).readOtp
  let s := if s.r Reg.DEV_LIFECYCLE = old then s else s.ev Reg.OTP_EVENT 4
  let s := if s.r Reg.DEV_LIFECYCLE = 0 then s else s.inc Reg.KEY_STARTS
  (s.rtcStart q).modStart (fun x => { x with last := some q })

/-- RESET_RELEASE (R49, R58): the logic die leaves reset and runs the steps of Table 2.4 through step 6; with EBB_N asserted
the start is held before step 2 (R51). -/
def execResetRelease (q : StartIn) (s : State) : Host.Outcome State Fault Refusal :=
  if s.phase = .reset ∧ q.ready ∧ !s.pins.hotHold then
    let s := s.releaseStep q
    if s.pins.ebb then .next { s with phase := .held } else .next (s.startMode q)
  else .next s

/-- EBB_DURING_START (R51): a start before RUN is held; it has no effect on a die that has not left reset. -/
def execEbbDuringStart (s : State) : Host.Outcome State Fault Refusal :=
  let s := s.modPins (fun p => { p with ebb := true })
  if s.phase = .join then
    let last := s.start.last.map (fun (q : StartIn) => { q with rtcMs := 0 })
    let s := s.recordsAtReset 2
    let s := if s.storeHeld then s.vaultSave else s
    let cause := s.start.cause
    let straps := s.r Reg.DEV_STRAPS
    let s := s.volatileClear cause .held
    let s := ((s.w Reg.DEV_RESET_CAUSE cause).w Reg.DEV_STRAPS straps).readOtp
    .next (s.modStart (fun x => { x with last := last }))
  else .next s

/-- START_RESUME (R51): EBB_N has been high for 10 ms; the start resumes from step 2. -/
def execStartResume (s : State) : Host.Outcome State Fault Refusal :=
  let s := s.modPins (fun p => { p with ebb := false })
  match s.phase, s.start.last with
  | .held, some q => .next (s.startMode q)
  | _, _ => .next s

/-! ## What resets the die -/

/-- RESET_N_ASSERT (R335). -/
def execResetNAssert (s : State) : Host.Outcome State Fault Refusal :=
  let s := s.modPins (fun p => { p with resetN := true })
  if s.phase = .reset then .next s else .next (s.logicReset 2)

/-- SUPPLY_OUT_OF_RANGE (R488): the die is held in reset with cause 0x01. -/
def execSupplyOutOfRange (s : State) : Host.Outcome State Fault Refusal :=
  let s := s.modPins (fun p => { p with supplyOut := true, refclk := false })
  if s.phase = .reset then .next ((s.modStart (fun x => { x with cause := 1 })).w Reg.DEV_RESET_CAUSE 1) else .next (s.logicReset 1)

/-- KERNEL_FAULT (R52, R262, R335): the kernel attempts the shutdown record, which `recOk` says is complete; where the safety task
can still send its frame (`frameOk`), it cuts with cause 0x13. -/
def execKernelFault (recOk frameOk : Bool) (s : State) : Host.Outcome State Fault Refusal :=
  if s.alive then
    let s := if frameOk then s.islandCut 0x13 else s
    let s := if recOk ∧ s.legalStore then
        match s.shutdownBytes false with
        | some q => s.mwrite (poolSlot s.shutdownSlot) q.2
        | none => s
      else s
    .next (s.logicReset 5)
  else .next s

/-- HARD_SHUTDOWN (R487). -/
def execHardShutdown (s : State) : Host.Outcome State Fault Refusal :=
  let s := (s.modPins (fun p => { p with hotHold := true })).inc Reg.THERM_HARD_COUNT
  if s.phase = .reset then .next ((s.modStart (fun x => { x with cause := 6 })).w Reg.DEV_RESET_CAUSE 6) else .next (s.logicReset 6)

/-- HARD_SHUTDOWN_RELEASE (R487). -/
def execHardShutdownRelease (s : State) : Host.Outcome State Fault Refusal :=
  .next (s.modPins (fun p => { p with hotHold := false }))

/-! ## Ordered resets -/

/-- DEV_RESTART (R83, R514): an applied 0xA5 restarts the die and the field returns to its idle value. -/
def execDevRestart (s : State) : Host.Outcome State Fault Refusal :=
  if s.r Reg.DEV_RESTART = 0xA5 then .next ((s.w Reg.DEV_RESTART 0).orderReset 3) else .next s

/-- DEFAULTS_ACK (R60): the defaults are accepted, and a settings generation holds them. -/
def execDefaultsAck (s : State) : Host.Outcome State Fault Refusal :=
  if s.r Reg.DEV_DEFAULTS_ACK = 1 then
    let s := s.w Reg.DEV_DEFAULTS_ACK 0
    if s.rbit Reg.DEV_INHIBIT 1 then .next (s.wbit Reg.DEV_INHIBIT 1 false).settingsSave else .next s
  else .next s

/-- BIST_REQUEST (R492): an applied request runs after a restart with cause 0x03. -/
def execBistRequest (s : State) : Host.Outcome State Fault Refusal :=
  let req := s.r Reg.BIST_REQ
  if req = 0 then .next s
  else
    let s := (s.w Reg.BIST_REQ 0).w Reg.BIST_LAST_TIDE s.tide
    .next ((s.modStart (fun x => { x with bist := req })).orderReset 3)

/-- MRAM_WRITE_COMPLETE (R328): the write in progress completes, or has failed (`ok` false), and the next is chosen; a reset
that waits for its shutdown record follows. -/
def execMramWriteComplete (ok : Bool) (s : State) : Host.Outcome State Fault Refusal := .next (s.writeDone ok).resetDue

/-! ## Life-cycle (R403) -/

/-- A commit of LC_TARGET is allowed (Table 13.8). -/
def State.lcAllowed (s : State) (target : Nat) : Bool :=
  let lc := s.r Reg.DEV_LIFECYCLE
  let has := fun b => (s.activeGen b).isSome
  if s.otp.change.isSome then false
  else if target = 1 then decide (lc = 0 ∧ s.phase = .strand) && !s.rbit Reg.OTP_SPENT 0
  else if target = 2 then decide (lc = 1) && has 2 && has 3
  else if target = 3 then decide (lc = 2) && has 4 && has 5 && s.rb Reg.BILL_LR_MATCH
  else if target = 4 then decide (lc = 2 ∨ lc = 3) && !s.anyEnergised
  else false

/-- Blow a life-cycle fuse. -/
def State.blowFuse (s : State) (k : Nat) : State := s.wbit Reg.OTP_LC_FUSES k true

/-- Erase the bytes of a span of the fabric memory to 0x00. -/
def State.mzero (s : State) (lo hi : Nat) : State := { s with mem := s.mem.filter (fun c => decide (c.1 < lo ∨ hi ≤ c.1)) }

/-- LIFECYCLE_TRANSITION (R403, Table 13.8): an applied LC_TARGET. `serial` is the serial that the command out of BLANK
gives. The transitions into OWNED and SERVICE are complete at the boundary; the other two take their time. -/
def execLifecycleTransition (serial : BitVec 128) (s : State) : Host.Outcome State Fault Refusal :=
  let target := s.r Reg.OTP_LC_TARGET
  if target = 0 then .next s
  else
    let ok := s.lcAllowed target
    let s := s.w Reg.OTP_LC_TARGET 0
    if !ok then .next s
    else if target = 1 then
      let s := s.wbit Reg.OTP_SPENT 0 true
      .next (s.modOtp (fun o => { o with change := some (1, serial.toNat) }))
    else if target = 2 then .next ((s.blowFuse 1).orderReset 3)
    else if target = 3 then
      let s := (s.blowFuse 2).mzero (poolSlot 0) (poolSlot 18)
      .next (s.orderReset 3)
    else .next (s.modOtp (fun o => { o with change := some (4, 0) }))

/-- The IDENT generation of a device that leaves BLANK: serial, sealed root secret, time and revision (Table 13.6). -/
def identBytes (serial drs time rev : Nat) : List Byte :=
  genImage 1 (leBytes 16 serial ++ leBytes 48 drs ++ leBytes 8 time ++ leBytes 1 rev)

/-- LIFECYCLE_CHANGE_DONE (R403): the long part of a transition is complete, and the die restarts with cause 0x03. -/
def execLifecycleChangeDone (s : State) : Host.Outcome State Fault Refusal :=
  match s.otp.change with
  | none => .next s
  | some (target, serial) =>
    let s := s.modOtp (fun o => { o with change := none })
    if target = 1 then
      let (b, s) := s.freeBlock
      let bytes := identBytes serial b.toNat s.rtcS (s.r Reg.DEV_SILICON_REV)
      let s := (s.modVault (fun v => { v with drs := b.toNat })).otpStore { block := 1, gen := 0, bytes := bytes, sealedMat := some b.toNat }
      .next (((s.wbit Reg.OTP_VALID 0 true).blowFuse 0).logicReset 3)
    else
      let s := s.eraseAll.eraseLedge.modVault (fun v => { v with area0 := {}, area1 := {} })
      let s := s.blowFuse 3
      if s.alive then .next (s.orderReset 3) else .next (s.logicReset 3)

end Sys2Proof.Machine
end

