-- ==== Sys2Proof/Machine/Run.lean ====
section
/-! DEFINITION. Entry to RUN at a tide boundary (R72, R82, R135, R160, R263, R324, R446). -/
namespace Sys2Proof.Machine
set_option cleanup.letToHave false

/-- The last ebb record: the newer valid one of the ebb slots whose KIND is 0x1. -/
def State.lastEbb (s : State) : Option Nat := s.newestSlot ([0, 1].filter (fun k => decide (s.poolByte k 6 1 = 1)))

/-- N_saved of R72 with the RTC time of what holds it: the newer of the last ebb record and the settings generation. DESIGN
CHOICE: the spec does not say how the newer is told; their RTC times are compared, and the ebb record stands on a tie. -/
def State.savedTide (s : State) : Option (Nat × Nat) :=
  let e : Option (Nat × Nat) := s.lastEbb.map (fun k => (s.poolByte k 16 8, s.poolByte k 32 8))
  let gen : Option SettingsGen := if !s.start.genRead then none else if s.start.genSlot then s.start.gen1 else s.start.gen0
  let g : Option (Nat × Nat) := gen.map (fun (g : SettingsGen) => (g.tide, g.rtc))
  match e, g with
  | some a, some b => if b.2 ≤ a.2 then some a else some b
  | some a, none => some a
  | none, b => b

/-- The tide number of the first RUN boundary (R72); the count of the joining device has passed that boundary. DESIGN CHOICE: a
witness, which R72 does not name, is numbered as a root. -/
def State.runTideNumber (s : State) : Nat :=
  let join := match s.chain.cand with
    | some l => match Tab.find s.chain.last l, Tab.find s.chain.lastAt l with
      | some b, some t => some (b.tide + (s.tide - t))
      | _, _ => none
    | none => none
  match s.r Reg.CHAIN_STATE, join with
  | 0, some n => n
  | 1, some n => n
  | _, _ => match s.savedTide with
    | none => 1
    | some (n, t) => if s.rb Reg.BILL_RTC_VALID then n + 1 + (s.rtc - t) / 10 else n + 1

/-- TLS_KEY_GENERATE (R446): a missing TLS server key is generated in the lowest free general slot. -/
def State.tlsKeyRun (s : State) : State :=
  let k := s.r Reg.CMD_TLS_KEY
  let have_ := decide (s.keyState k = 1 ∧ s.r Reg.KEY_TYPE 0 k = 3 ∧ s.r Reg.KEY_USAGE 0 k = 5)
  if have_ || !decide (s.r Reg.DEV_LIFECYCLE = 2 ∨ s.r Reg.DEV_LIFECYCLE = 3) then s
  else match ((List.range 504).map (· + 8)).find? (fun i => s.slotEmpty i) with
    | none => s
    | some i =>
      let r := s.keyGenerate { slot := i, type := 3, usage := 5, limit := 0, count := 0, survive := true, ledge := false }
      let s := r.2.w Reg.CMD_TLS_KEY i
      (s.modStart (fun x => { x with settings := Tab.put x.settings (Reg.CMD_TLS_KEY.key 0 0 0) (BitVec.ofNat 32 i) })).settingsSave

/-- What the ebb record that RUN restores from gives the session records (R160): present after a power-on reset. -/
def State.ebbForRecords (s : State) : Option (List Nat × List Nat × Nat) :=
  match s.newestSlot (List.range 18) with
  | some k =>
    if s.poolByte k 6 1 = 1 ∧ s.r Reg.DEV_RESET_CAUSE = 1 then
      let wh := fun (n r : Nat) => s.poolByte k (736 + 24 * n + 12 * r) 8 / 1000000
      some ((List.range 32).map (fun n => wh n 0), (List.range 32).map (fun n => wh n 1), s.poolByte k 32 8)
    else none
  | none => none

/-- The tides that a start took, and the pause of an update (R464). -/
def State.startTimes (s : State) : State :=
  let n := s.start.sinceRelease + s.start.joinTides
  let s := s.w Reg.DEV_START_TIME (min 65535 n)
  let s := match s.start.pause with
    | some p => s.w Reg.UPD_LAST_PAUSE (min 65535 (p + n))
    | none => s
  s.modStart (fun x => { x with pause := none, fallback := none, runNext := false, runOpen := false, runTides := 0 })

/-- Registers and billing at RUN (R250, R263, R286, R324): they count in SERVICE alone; the time of the RTC runs in every life-cycle. -/
def State.meterRun (s : State) (asMs : Nat) : State :=
  if s.service then
    let slot := s.newestSlot (List.range 18)
    let s := s.restoreAtRun.w Reg.MET_STATE 2
    -- tamper class 14: each RUN that reconstructs is an event of its own (DEDUCED)
    let s := (s.w Reg.TAMP_ACTIVE 0 14).tamperArise 14 (s.rb Reg.MET_RESTORE_RECON)
    let s := (s.billRun slot).when (s.rb Reg.MET_RESTORE_RECON) (fun s => s.wbit Reg.BILLP_P_FLAGS 5 true 0)
    s.billTide asMs true
  else (s.rtcRunStart 0).billTide asMs true

/-- The role in which a unit of a pair enters RUN: a unit whose partner holds the flood enters in the ebb role (R79, R80). -/
def State.runRole (s : State) : State := if s.r Reg.PAIR_ROLE = 1 then s.w Reg.PAIR_ROLE 3 else s

/-- RUN is entered at this boundary: the device is due, or a unit of a pair finds its partner in flood. The command follows
the boundary, in wave 0 of the tide that it begins. -/
def State.runDue (s : State) : Bool :=
  decide (s.phase = .join ∧ s.wave = 0 ∧ 0 < s.start.joinTides) && (s.start.runOpen && decide (s.r Reg.PAIR_ROLE ≠ 1) ||
    (decide (s.r Reg.PAIR_ROLE = 1) && s.rb Reg.PAIR_FLOOD_IN && (s.start.runOpen || decide (s.r Reg.CHAIN_STATE = 3))))

/-- ENTER_RUN (R82): the power-die state is adopted before any output is driven. -/
def execEnterRun (q : WaveIn) (s : State) : Host.Outcome State Fault Refusal :=
  if !s.runDue || s.pins.ebb then .next s
  else
    let n := s.runTideNumber
    let old := s.tide
    let ebb := s.ebbForRecords
    let s := { s with phase := .run, inp := q }
    let s := ((s.w64 Reg.TIDE_NUMBER_LO Reg.TIDE_NUMBER_HI n).w Reg.TIDE_WAVE 0).startTimes.runRole
    let s := s.modChain (fun c => { c with lastAt := c.lastAt.map (fun p => (p.1, n - (old - p.2))) })
    let s := (s.driveRun.matrixRun).safetyRun
    let s := s.meterRun q.asMs
    let s := s.sessRun ebb
    let s := s.over (s.session.unsigned.filter (fun no => (Tab.find s.vault.signed no).isNone)) (fun no s =>
      (s.modSession (fun x => { x with unsigned := x.unsigned.erase no })).recSign no)
    let s := (s.denyRun ((s.start.last.map (·.denyOk)).getD true)).loopsRun.coolRun.tlsKeyRun
    let s := match s.chain.cand with
      | some l => s.joinSend l
      | none => s
    let s := s.beaconSend.chainDrain
    .next (if s.dialogues then s.allocate.matrixPlan State.lowWaterPlan else s)

end Sys2Proof.Machine
end

