-- ==== Sys2Proof/Machine/Check.lean ====
section
/-! DEFINITION. The checks of written and staged values (R449, R451, R515): the range of a field where it applies, and the
rules of its chapter with the other values taken as already in force. -/
namespace Sys2Proof.Machine
set_option cleanup.letToHave false

/-! ## The field itself -/

/-- The instance of a field carries it: a declared cabinet, cable or circuit, a point of its KIND, a port of its ROLE (R201,
Tables 4.6, 8.13, 14.11), a tamper class with an input (Table 9.11). -/
def State.applies (s : State) (p : Place) : Bool :=
  let n := p.n
  let f := p.f
  if f.block = 0x06 then s.rb Reg.CAB_PRESENT n
  else if fieldsCOOL.contains f then s.rb Reg.COOL_PRESENT n
  else if fieldsCOOLC.contains f then s.rb Reg.COOLC_PRESENT n
  else if f = Reg.MPT_SPLICE_TOL then decide (s.r Reg.MPT_KIND n = 2)
  else if f = Reg.MPT_NEUTRAL_TOL then decide (s.r Reg.MPT_KIND n = 1)
  else if f = Reg.T1S_LINK_HOLD then decide (s.r Reg.T1S_ROLE n = 1)
  else if f = Reg.T1S_NODE_MISS then decide (s.r Reg.T1S_ROLE n = 2)
  else if f = Reg.TAMP_TAMP_POL ∨ f = Reg.TAMP_TAMP_EN then decide (n < 8)
  else if f.block = 0x16 then decide (s.r Reg.T1S_ROLE n ≠ 0)
  else true

/-- The resource that a field of an instance belongs to (Table 1.8), where it is one with a released state. -/
def Place.resource (p : Place) : Option Nat :=
  if p.f.block = 0x08 then some (resId 0x13 p.n)
  else if p.f.block = 0x0A then some (resId 0x05 p.n)
  else if fieldsLS.contains p.f then some (resId 0x04 p.n)
  else if fieldsTSN.contains p.f then some (resId 0x0B p.n)
  else if p.f.block = 0x16 then some (resId 0x0C p.n)
  else if p.f.block = 0x17 then some (resId 0x0D p.n)
  else if p.f.block = 0x18 then some (resId 0x0F p.n)
  else none

/-- The error of any write to a field: a pair of a device that is none, an instance that does not carry the field, a resource
without an owner (R44), whose error code the spec does not state. -/
def State.placeErr (s : State) (p : Place) : Option Nat :=
  if p.f.block = 0x13 ∧ s.decl.pair.isNone then some 0x1302
  else if !s.applies p then some (rangeError p.f.block)
  else if p.resource.any s.isReleased then some (Config.noOwner.toNat + 1)
  else none

/-- The error of a value that its own field refuses (R515, Table 15.8). -/
def State.rangeErr (s : State) (p : Place) (v : Nat) : Option Nat :=
  let e := if p.f = Reg.OTP_RETIRE then 0x1E05 else rangeError p.f.block
  if (s.placeErr p).isSome then s.placeErr p
  else if !s.legalAt p v then some e
  else if p.f = Reg.CMD_ISS_STATE ∧ (v ≠ 2 ∨ s.r Reg.CMD_ISS_STATE 0 p.i = 0) then some e
  else if p.f = Reg.TAMP_RESPONSE ∧ v = 2 ∧ 8 ≤ p.n then some e
  else none

/-- A further right that staging a field needs (Table 15.3): OTP, SAFETY, ISSUERS. -/
def stageRight (f : Fld) : Option Nat :=
  if f = Reg.OTP_LC_TARGET ∨ f = Reg.OTP_RETIRE then some 4
  else if f = Reg.SAFE_CONFIRM then some 6
  else if f = Reg.CMD_ISS_STATE then some 8
  else none

/-! ## The rules of the chapters, with a list of values taken as in force -/

/-- Signed value of a field with a list in force. -/
def State.riWith (s : State) (l : List PendingField) (f : Fld) (n : Nat := 0) (i : Nat := 0) : Int := signedOf f.w (s.rWith l f n i)
/-- Binary32 value of a field with a list in force. -/
def State.rfWith (s : State) (l : List PendingField) (f : Fld) (n : Nat) : F32 := BitVec.ofNat 32 (s.rWith l f n)

/-- R45 for one entry of the ownership map. -/
def State.ownErr (s : State) (l : List PendingField) (i : Nat) : Option Nat :=
  let was := s.rb Reg.TIDE_OWN_OWNED 0 i
  let own := decide (s.rWith l Reg.TIDE_OWN_OWNED 0 i ≠ 0)
  let part := s.rWith l Reg.TIDE_OWN_PART 0 i
  let stays := was && own && (pendHas l Reg.TIDE_OWN_OWNED 0 i || decide (part ≠ s.r Reg.TIDE_OWN_PART 0 i))
  if stays then some 0x0205
  else if (own || pendHas l Reg.TIDE_OWN_PART 0 i) && !s.rb Reg.TIDE_PART_VALID 0 part then some 0x0206
  else none

/-- Owner of a resource with a list in force. -/
def State.ownerWith (s : State) (l : List PendingField) (rid : Nat) : Option Nat :=
  match s.ownEntry rid with
  | some i => if s.rWith l Reg.TIDE_OWN_OWNED 0 i = 0 then none else some (s.rWith l Reg.TIDE_OWN_PART 0 i)
  | none => none

/-- The loop rules of R199 and of a start of an injection (R188). -/
def State.loopErr (s : State) (l : List PendingField) (p : Place) (v : Nat) : Option Nat :=
  let n := p.n
  let i := fun f => s.riWith l f n
  let x := fun f => s.rfWith l f n
  let kp := x Reg.LOOP_KP
  let ki := x Reg.LOOP_KI
  let out := s.r Reg.LOOP_OUT_DST n
  let inDst := fun (q : Int) => decide (codeKind out ≠ 0x10 ∧ codeKind out ≠ 0x11) || decide (0 ≤ q ∧ q ≤ 10000)
  let inOut := fun (q : Int) => decide (i Reg.LOOP_OUT_MIN ≤ q ∧ q ≤ i Reg.LOOP_OUT_MAX)
  if p.f = Reg.LOOP_INJ_CTRL then
    if v = 1 then
      let st := s.r Reg.LOOP_STATE n
      let f0 := s.rf Reg.LOOP_SWEEP_F0 n
      let f1 := s.rf Reg.LOOP_SWEEP_F1 n
      let lim := fDiv (fOfInt 1) (fMul (fOfInt 4) (s.loopH n))
      let sweep := fLt 0 f0 && fLt f0 f1 && fLe f1 lim && decide (s.r Reg.LOOP_INJ_LEN n ≠ 0)
      if st = 0 ∨ 5 ≤ st ∨ s.r Reg.LOOP_INJ_TYPE n = 0 ∨ s.r Reg.LOOP_INJ_STATE n = 1 ∨ (s.r Reg.LOOP_INJ_TYPE n = 3 ∧ sweep = false) then some 0x0802
      else none
    else none
  else if p.f = Reg.LOOP_KP ∨ p.f = Reg.LOOP_KI then
    if (fLt kp 0 && fLt 0 ki) || (fLt 0 kp && fLt ki 0) then some 0x0801 else none
  else if p.f = Reg.LOOP_OUT_MIN ∨ p.f = Reg.LOOP_OUT_MAX then
    if i Reg.LOOP_OUT_MAX < i Reg.LOOP_OUT_MIN ∨ !inDst (i Reg.LOOP_OUT_MIN) ∨ !inDst (i Reg.LOOP_OUT_MAX) ∨
        !inOut (i Reg.LOOP_OUT_INIT) ∨ !inOut (i Reg.LOOP_MAN_OUT) then some 0x0801 else none
  else if p.f = Reg.LOOP_OUT_INIT ∨ p.f = Reg.LOOP_MAN_OUT then if inOut (signedOf 32 v) then none else some 0x0801
  else if p.f = Reg.LOOP_SAFE_OUT then if inDst (signedOf 32 v) then none else some 0x0801
  else if p.f = Reg.LOOP_EBB_RUN then if v = 1 ∧ codeKind out ≠ 0x10 then some 0x0801 else none
  else if p.f = Reg.LOOP_CAP_LEN ∨ p.f = Reg.LOOP_CAP_PRE then
    if s.rWith l Reg.LOOP_CAP_LEN n ≤ s.rWith l Reg.LOOP_CAP_PRE n then some 0x0801 else none
  else none

/-- The allocation rules (R97 to R99). -/
def State.allocErr (s : State) (l : List PendingField) (p : Place) (v : Nat) : Option Nat :=
  let mine := fun rid => decide (s.ownerWith l rid = some (s.r Reg.ALLOC_ALLOC_PART))
  if p.f = Reg.ALLOC_IMPORT_LIMIT ∨ p.f = Reg.ALLOC_EXPORT_LIMIT then
    if s.riWith l Reg.ALLOC_IMPORT_LIMIT < -((s.rWith l Reg.ALLOC_EXPORT_LIMIT : Nat) : Int) then some 0x0401 else none
  else if p.f = Reg.ALLOC_GRID_LOOP then if v ≠ 0xFF ∧ !mine (resId 0x13 v) then some 0x0404 else none
  else if p.f = Reg.ALLOC_LIN_EN ∨ p.f = Reg.ALLOC_LIN_CHAN then
    if s.rWith l Reg.ALLOC_LIN_EN 0 p.i = 1 ∧ !mine (resId 8 (s.rWith l Reg.ALLOC_LIN_CHAN 0 p.i)) then some 0x0404 else none
  else none

/-- The rules of the drives and the load switches (R206, R212, R218, Table 7.3). -/
def State.driveErr (s : State) (l : List PendingField) (p : Place) (v : Nat) : Option Nat :=
  let n := p.n
  if p.f = Reg.GD_CLR then if v = 1 ∧ !s.gdClrOk n then some 0x0A02 else none
  else if p.f = Reg.LS_CLR then if v = 1 ∧ s.lsFaultPresent n then some 0x0B03 else none
  else if p.f = Reg.LS_OUT_REQ ∨ p.f = Reg.LS_DUTY then if s.r Reg.LS_FUNCTION n ≠ 0 then some 0x0B02 else none
  else if p.f = Reg.LS_DRIVE_MODE then
    if v = 1 ∧ (s.r Reg.LS_FUNCTION n = 1 ∨ s.r Reg.LS_FUNCTION n = 2) then some 0x0B02 else none
  else if p.f.block = 0x0A then
    let dt := ([Reg.GD_DT_B0, Reg.GD_DT_B1, Reg.GD_DT_B2, Reg.GD_DT_B3, Reg.GD_DT_B4].map (fun f => s.rWith l f n)).foldl max 0
    if 1000000000 < 4 * dt * s.rWith l Reg.GD_PWM_FREQ n ∨ s.rWith l Reg.GD_VBS_REFRESH n ≤ s.rWith l Reg.GD_VBS_UV n then some 0x0A01 else none
  else none

/-- The rules of sessions, matrix and cooling (R132, R168, Tables 4.3, 5.9 and 6.7). -/
def State.powerErr (s : State) (l : List PendingField) (p : Place) (v : Nat) : Option Nat :=
  let n := p.n
  if p.f = Reg.MTX_CT_CLR then
    if v = 1 ∧ (s.rbit Reg.SAFE_ENABLED (s.r Reg.MTX_CT_GROUP 0 p.i) ∨ !s.readsOpen (some p.i)) then some 0x0509 else none
  else if p.f = Reg.MTX_ZERO_WAIT ∨ p.f = Reg.MTX_RAMP_WAVES then
    if s.rWith l Reg.MTX_ZERO_WAIT < s.rWith l Reg.MTX_RAMP_WAVES + 4 then some 0x0508 else none
  else if p.f = Reg.SESS_ISO_OK ∨ p.f = Reg.SESS_ISO_FAULT then
    if s.rWith l Reg.SESS_ISO_OK n < s.rWith l Reg.SESS_ISO_FAULT n then some 0x0712 else none
  else if p.f = Reg.SESSX_REC_ACK then
    if s.r Reg.SESSX_REC_NEWEST < v ∨ v < s.r Reg.SESSX_REC_ACK ∨ s.command.ri.any (fun q => decide (q.addr = Reg.SESSX_REC_ACK.addr 0 0 0 ∧ v < q.value)) then some 0x0712 else none
  else if p.f = Reg.COOL_FLOW_MIN ∨ p.f = Reg.COOL_FLOW_MAX then
    if s.rWith l Reg.COOL_FLOW_MAX n < s.rWith l Reg.COOL_FLOW_MIN n then some 0x0901 else none
  else if p.f = Reg.COOL_T_LOW ∨ p.f = Reg.COOL_T_HIGH then
    if s.riWith l Reg.COOL_T_HIGH n ≤ s.riWith l Reg.COOL_T_LOW n then some 0x0901 else none
  else none

/-- The error of a value that a rule of its field's chapter refuses, with `l` taken as already in force (R451). -/
def State.setErr (s : State) (l : List PendingField) (p : Place) (v : Nat) : Option Nat :=
  match p.f.block with
  | 0x02 => if p.f = Reg.TIDE_OWN_OWNED ∨ p.f = Reg.TIDE_OWN_PART then s.ownErr l p.i else none
  | 0x04 => s.allocErr l p v
  | 0x05 | 0x07 | 0x09 => s.powerErr l p v
  | 0x08 => s.loopErr l p v
  | 0x0A | 0x0B => s.driveErr l p v
  | 0x0E =>
    if p.f = Reg.BILL_SET_GO then
      if v = 1 ∧ s.setRefused (s.rWith l Reg.BILL_SET_HI * 4294967296 + s.rWith l Reg.BILL_SET_LO) then some 0x0E02 else none
    else if 0x0E000100 ≤ p.f.base ∧ p.f.base < 0x0E000300 ∧ !s.calendarOk l then some 0x0E01
    else none
  | 0x11 => if p.f = Reg.TAMP_SEAL_CLR ∧ v = 1 ∧ s.rb Reg.TAMP_ACTIVE p.n then some 0x1102 else none
  | 0x12 => if p.f = Reg.SAFE_CONFIRM ∧ v ≠ s.r Reg.SAFE_CHECK_VALUE then some 0x1201 else none
  | 0x13 => if p.f = Reg.PAIR_HANDOVER ∧ v = 0xA5 ∧ s.handoverRefused then some 0x1303 else none
  | 0x17 =>
    if p.f = Reg.CAN_NBR ∨ p.f = Reg.CAN_DBR then if s.rWith l Reg.CAN_DBR p.n < s.rWith l Reg.CAN_NBR p.n then some 0x1701 else none
    else if p.f = Reg.CAN_MODE ∧ v = 3 then
      if (List.range 8).all (fun k => decide (s.rWith l Reg.CAN_CAND_NBR p.n k = 0)) then some 0x1702 else none
    else none
  | 0x1C => if p.f = Reg.BIST_REQ ∧ v ≠ 0 ∧ s.anyEnergised ∧ !s.ebbRole then some 0x1C01 else none
  | 0x1E =>
    if p.f = Reg.OTP_LC_TARGET then if v ≠ 0 ∧ !s.lcAllowed v then some 0x1E01 else none
    else if p.f = Reg.OTP_RETIRE then if v ≠ 0 ∧ s.retireRefused v then some 0x1E05 else none
    else none
  | _ => none

/-- An event bit and a counter that a refused write leaves: TIME_SET, BIST and hand-over refusals, ownership refusals. -/
def State.refusalMark (s : State) (code : Nat) : State :=
  if code = 0x0E02 then s.ev Reg.BILL_EVENT 3
  else if code = 0x1C01 then s.ev Reg.BIST_EVENT 3
  else if code = 0x1303 then s.ev Reg.PAIR_EVENT 7
  else if code = 0x0205 ∨ code = 0x0206 ∨ code = Config.noOwner.toNat + 1 then s.inc Reg.TIDE_OWN_REFUSED
  else s

/-! ## The rules an image is checked by (R451) -/

/-- The ownership map as an image would give it. -/
def State.ownMap (s : State) (t : TtImage) : List OwnDef := t.ownership.map (fun o => { id := o.id, owner := s.ownerOf o.id })

/-- The resources that the allocation partition must own (R97, R99): the grid loop and the AUX channels of enabled inputs. -/
def State.allocOwns (s : State) : Bool :=
  let mine := fun rid => decide (s.ownerOf rid = some (s.r Reg.ALLOC_ALLOC_PART))
  (decide (s.r Reg.ALLOC_GRID_LOOP = 0xFF) || mine (resId 0x13 (s.r Reg.ALLOC_GRID_LOOP))) &&
    (List.range 4).all (fun i => !s.rb Reg.ALLOC_LIN_EN 0 i || mine (resId 8 (s.r Reg.ALLOC_LIN_CHAN 0 i)))

/-- The rules of an image that an ownership change or a choice of the grid loop touches (R43, R172, R225), over the values in
force after the set: the error, if one fails. -/
def State.imageErr (s : State) (l : List PendingField) : Option Nat :=
  let own := l.any (fun q => decide (q.addr / 0x10000 = 0x0200 ∧ 0x8000 ≤ q.addr % 0x10000))
  let grid := pendHas l Reg.ALLOC_GRID_LOOP
  let t := l.foldl State.wPend s
  if own && !(match s.start.image with | some m => buffersOk { m with ownership := t.ownMap m } | none => true) then some 0x0202
  else if own && !t.allocOwns then some 0x0404
  else if own && (!t.loopsOk || !t.pointsOk) then some 0x0207
  else if grid && !t.loopsOk then some 0x0402
  else none

end Sys2Proof.Machine
end

