-- ==== Sys2Proof/Machine/Command.lean ====
section
/-! DEFINITION. The command operations of chapter 15: the request queue, reads, writes, transactions of a device and of a
cove, subscriptions and issuers (R442 to R453). -/
namespace Sys2Proof.Machine
set_option cleanup.letToHave false

/-! ## The queue (R446, R447) -/

/-- Relay a request (R446), unread: one of a TLS connection under a message number of this device, whose reply goes back to the
connection; one of the chain under the number it came with. -/
def State.relay (s : State) (e : Env) (l ctrl path : Nat) : State :=
  match e.conn with
  | some k => (s.modChain (fun c => { c with relays := Tab.put c.relays c.msgId k })).chainSend l 0x30 ctrl path e.raw
  | none => s.chainMessage l 0x30 ctrl path e.msgId e.raw

/-- COMMAND_REQUEST_RECEIVE (R446, R447): a request for another device is relayed unread; one for this device enters the queue
of 64, and its operation is carried out by the command that names it. With the queue full nothing is read, and nothing is
lost. -/
def execCommandRequestReceive (e : Env) (op : Nat) (s : State) : Host.Outcome State Fault Refusal :=
  if !s.serving then .next s
  else
    let r := match e.addr with | some a => s.route a | none => .here
    match r with
    | .bad c => .next (s.replyTo e { result := c } false)
    | .parent => .next (s.relay e (s.r Reg.CHAIN_UPSTREAM) ctrlUp 0)
    | .hop l a => .next (s.relay e l a.ctrl.toNat a.path.toNat)
    | .here => .next (s.enqueue e op)

/-! ## Reads (R448) -/

/-- The blocks that strand mode reads (R473). -/
def strandBlock (addr : Nat) : Bool := decide (addr / 0x1000000 = 0x01 ∨ addr / 0x1000000 = 0x1A ∨ addr / 0x1000000 = 0x1E)

/-- The words of a read; the tick index at the read is free (R47). -/
def State.snapshot (s : State) (addr words : Nat) : Option (List Nat) × State :=
  let hit := decide (addr ≤ 0x02000008 ∧ 0x02000008 < addr + 4 * words)
  if hit then
    let (w, s) := s.freeWord
    let s := s.w Reg.TIDE_TICK (w.toNat % 625)
    (s.readWords addr words, s)
  else (s.readWords addr words, s)

/-- READ (R448). -/
def execRead (e : Env) (addr words : Nat) (s : State) : Host.Outcome State Fault Refusal :=
  if !s.serving then .next s
  else .next (s.serve e 0 true (strandBlock addr && strandBlock (addr + 4 * (words - 1))) (fun s _ =>
    if words = 0 ∨ 256 < words then ({ result := 0x1910 }, s)
    else match s.snapshot addr words with
      | (none, t) => ({ result := 0x1912, detail := some addr }, t)
      | (some l, t) => ({ data := l }, t)))

/-- BUFFER_READ (R448): bytes of a declared buffer. -/
def execBufferRead (e : Env) (rid ofs len : Nat) (s : State) : Host.Outcome State Fault Refusal :=
  if !s.serving then .next s
  else .next (s.serve e 0 true false (fun s _ =>
    if len = 0 ∨ 4096 < len then ({ result := 0x1910 }, s)
    else match s.decl.buffers.find? (fun b => decide (b.id = rid)) with
      | some b =>
        if b.size < ofs + len then ({ result := Config.noBuffer.toNat + 1 }, s)
        else ({ data := byteData (s.mread (b.base + ofs) len) }, s)
      | none => ({ result := Config.noBuffer.toNat + 1 }, s)))

/-! ## Writes (R449) -/

/-- What the places of a WRITE entry ask for: the first error, or the values of the RI fields. `l` holds the pending values. -/
def State.writePlaces (s : State) (w : WEntry) : List Place → List PendingField → List PendingField → Except Nat (List PendingField)
  | [], _, acc => .ok acc
  | p :: ps, l, acc =>
    let v := p.value w.value.toNat
    match p.f.acc with
    | .wc => match s.placeErr p with
      | some c => .error c
      | none => s.writePlaces w ps l acc
    | .ri =>
      let q := p.pend v
      match s.rangeErr p v with
      | some c => .error c
      | none => match s.setErr (l ++ [q]) p v with
        | some c => .error c
        | none => s.writePlaces w ps (l ++ [q]) (acc ++ [q])
    | _ => .error 0x190B

/-- The entries of a WRITE in order: index and error of the first that is refused, or the values and the bits to clear. -/
def State.writeEntries (s : State) : List WEntry → Nat → List PendingField → List Place → Except (Nat × Nat) (List PendingField × List (Place × Nat))
  | [], _, acc, _ => .ok (acc, [])
  | w :: ws, k, acc, done =>
    match selectPlaces w with
    | .error c => .error (c, k)
    | .ok ps =>
      if ps.isEmpty then .error (0x190B, k)
      else match s.writePlaces w ps (s.command.ri ++ acc) [] with
        | .error c => .error (c, k)
        | .ok new =>
          let clears := (ps.filter (fun p => decide (p.f.acc = .wc))).map (fun p => (p, p.value w.value.toNat))
          match s.writeEntries ws (k + 1) (acc ++ new) done with
          | .error x => .error x
          | .ok (ri, wc) => .ok (ri, clears ++ wc)

/-- WC_CLEAR (R449): the bits that the value names. -/
def State.wcClear (s : State) (p : Place) (v : Nat) : State :=
  let old := s.r p.f p.n p.i p.j
  s.w p.f (old &&& (old ^^^ v)) p.n p.i p.j

/-- WRITE: every entry is checked, then WC bits are cleared at once and RI values wait for the boundary. -/
def State.writeOp (s : State) (l : List WEntry) : Answer × State :=
  if l.isEmpty ∨ 64 < l.length then ({ result := 0x1910 }, s)
  else match s.writeEntries l 0 [] [] with
    | .error (c, k) => ({ result := c, detail := some k }, s.refusalMark c)
    | .ok (ri, wc) =>
      let s := s.over wc (fun x s => s.wcClear x.1 x.2)
      let s := s.over ri (fun q s => s.queueRi q)
      let go := ri.any (fun q => decide (q.addr = Reg.BILL_SET_GO.addr 0 0 0 ∧ q.value = 1))
      let s := if go then s.modBill (fun b => { b with setAt := s.rtc }) else s
      ({ apply := if ri.isEmpty then none else some s.applyTide }, s)

/-- WRITE (R449). -/
def execWrite (e : Env) (entries : List WEntry) (s : State) : Host.Outcome State Fault Refusal :=
  if !s.serving then .next s else .next (s.serve e 1 false false (fun s _ => s.writeOp entries))

/-- A write entry that covers a field. -/
def fieldEntry (f : Fld) (n i v : Nat) : WEntry :=
  { addr := BitVec.ofNat 32 (f.addr n i 0), value := BitVec.ofNat 32 (v * 2 ^ f.lo), mask := BitVec.ofNat 32 ((2 ^ f.w - 1) * 2 ^ f.lo) }

/-- LIMIT_WRITE (R98): a WRITE of IMPORT_LIMIT, or of EXPORT_LIMIT. -/
def execLimitWrite (e : Env) (exportSide : Bool) (kw : BitVec 32) (s : State) : Host.Outcome State Fault Refusal :=
  if !s.serving then .next s
  else .next (s.serve e 1 false false (fun s _ =>
    s.writeOp [fieldEntry (if exportSide then Reg.ALLOC_EXPORT_LIMIT else Reg.ALLOC_IMPORT_LIMIT) 0 0 kw.toNat]))

/-- LS_OUTPUT_WRITE (R218): a WRITE of OUT_REQ, or of DUTY. -/
def execLsOutputWrite (e : Env) (c : Fin 32) (duty : Bool) (value : BitVec 14) (s : State) : Host.Outcome State Fault Refusal :=
  if !s.serving then .next s
  else .next (s.serve e 1 false false (fun s _ =>
    s.writeOp [fieldEntry (if duty then Reg.LS_DUTY else Reg.LS_OUT_REQ) c.val 0 (if duty then value.toNat else value.toNat % 2)]))

/-! ## Transactions (R450, R451) -/

/-- BEGIN (R450): `cove` is scope 1, which a cove head opens. -/
def execBeginTxn (e : Env) (cove : Bool) (s : State) : Host.Outcome State Fault Refusal :=
  if !s.serving then .next s
  else .next (s.serve e 2 false true (fun s i =>
    if s.r Reg.CMD_TXN_STATE ≠ 0 then ({ result := 0x1905 }, s)
    else
      let id := s.command.nextTxn
      let s := (s.modCommand (fun c => { c with nextTxn := c.nextTxn % 4294967295 + 1 })).txnEnd (s.r Reg.CMD_TXN_RESULT)
      let s := (((s.w Reg.CMD_TXN_STATE 1).wb Reg.CMD_TXN_SCOPE cove).w Reg.CMD_TXN_ISSUER i).w Reg.CMD_TXN_AGE 0
      ({ data := [id] }, s.w Reg.CMD_TXN_ID id)))

/-- The open transaction answers to an issuer entry and a number: the error of R450 otherwise. DEDUCED: another issuer hears 0x1905
first, of an open and of a pending transaction; its own issuer hears 0x1907 of one that is pending. -/
def State.txnErr (s : State) (i txn : Nat) : Option Nat :=
  if s.r Reg.CMD_TXN_STATE = 0 then some 0x1907
  else if s.command.prepared ∨ s.r Reg.CMD_TXN_ISSUER ≠ i then some 0x1905
  else if s.r Reg.CMD_TXN_STATE ≠ 1 ∨ s.r Reg.CMD_TXN_ID ≠ txn then some 0x1907
  else none

/-- The target of a stage entry: none is this device. -/
def State.stageTarget (s : State) (cove : Bool) (t : Option ChainAddr) : Except Nat (Option ChainAddr) :=
  match t with
  | none => .ok none
  | some a =>
    if !cove then .error 0x1901
    else match s.route a with
      | .bad c => .error c
      | .parent => .error 0x0301
      | .here => .ok none
      | .hop _ _ => .ok (some a)

/-- The places of a stage entry, as staged fields; the first error. Strand mode stages LC_TARGET and RETIRE alone (R473). -/
def State.stagePlaces (s : State) (i : Nat) (w : WEntry) (target : Option ChainAddr) : List Place → Except Nat (List Staged)
  | [] => .ok []
  | p :: ps =>
    let v := p.value w.value.toNat
    if p.f.acc ≠ .rt then .error 0x190B
    else if s.phase = .strand ∧ p.f ≠ Reg.OTP_LC_TARGET ∧ p.f ≠ Reg.OTP_RETIRE then .error 0x1A0C
    else if (match stageRight p.f with | some k => !s.rbit Reg.CMD_ISS_RIGHTS k 0 i | none => false) then .error 0x1904
    else
      let err := if target.isSome then (if s.legalAt p v then none else some (rangeError p.f.block)) else s.rangeErr p v
      match err with
      | some c => .error c
      | none => match s.stagePlaces i w target ps with
        | .error c => .error c
        | .ok l => .ok (⟨p.pend v, target⟩ :: l)

/-- The entries of a STAGE in order. -/
def State.stageEntries (s : State) (i : Nat) (cove : Bool) : List SEntry → Nat → Except (Nat × Nat) (List Staged)
  | [], _ => .ok []
  | x :: xs, k =>
    match s.stageTarget cove x.target with
    | .error c => .error (c, k)
    | .ok t => match selectPlaces x.w with
      | .error c => .error (c, k)
      | .ok ps =>
        if ps.isEmpty then .error (0x190B, k)
        else match s.stagePlaces i x.w t ps with
          | .error c => .error (c, k)
          | .ok l => match s.stageEntries i cove xs (k + 1) with
            | .error y => .error y
            | .ok m => .ok (l ++ m)

/-- Stage a field: a restaged field takes the new value and counts once. -/
def stagePut (l : List Staged) (x : Staged) : List Staged :=
  if l.any (fun y => decide (y.f.addr = x.f.addr ∧ y.f.lo = x.f.lo ∧ y.target = x.target)) then
    l.map (fun y => if y.f.addr = x.f.addr ∧ y.f.lo = x.f.lo ∧ y.target = x.target then x else y)
  else l ++ [x]

/-- STAGE (R450). -/
def State.stageOp (s : State) (i txn : Nat) (l : List SEntry) : Answer × State :=
  match s.txnErr i txn with
  | some c => ({ result := c }, s)
  | none =>
    if s.command.coveReply.isSome then ({ result := 0x1905 }, s)
    else if l.isEmpty ∨ 64 < l.length then ({ result := 0x1910 }, s)
    else match s.stageEntries i (s.rb Reg.CMD_TXN_SCOPE) l 0 with
      | .error (c, k) => ({ result := c, detail := some k }, s)
      | .ok new =>
        let all := new.foldl stagePut s.command.staged
        if 512 < all.length then ({ result := 0x1908 }, s)
        else ({ data := [all.length] }, (s.modCommand (fun c => { c with staged := all })).w Reg.CMD_TXN_FIELDS all.length)

/-- STAGE. -/
def execStage (e : Env) (txn : Nat) (entries : List SEntry) (s : State) : Host.Outcome State Fault Refusal :=
  if !s.serving then .next s else .next (s.serve e 2 false true (fun s i => s.stageOp i txn entries))

/-- ISSUER_REVOKE (R442): ISS_STATE = 0x2 staged for an entry; the issuer is revoked when the commit is applied. -/
def execIssuerRevoke (e : Env) (txn : Nat) (entry : Fin 32) (s : State) : Host.Outcome State Fault Refusal :=
  if !s.serving then .next s
  else .next (s.serve e 2 false true (fun s i => s.stageOp i txn [⟨fieldEntry Reg.CMD_ISS_STATE 0 entry.val 2, none⟩]))

/-- REGISTER_WRITE (R12): one entry, written, or staged in a transaction. -/
def execRegisterWrite (e : Env) (txn : Option Nat) (w : WEntry) (s : State) : Host.Outcome State Fault Refusal :=
  if !s.serving then .next s
  else match txn with
    | none => .next (s.serve e 1 false false (fun s _ => s.writeOp [w]))
    | some t => .next (s.serve e 2 false true (fun s i => s.stageOp i t [⟨w, none⟩]))

/-- The staged values of this device. -/
def State.ownStaged (s : State) : List PendingField := (s.command.staged.filter (fun x => x.target.isNone)).map (·.f)

/-- Validation of a set (R451): the first error, with the address it concerns. -/
def State.validate (s : State) (l : List PendingField) : Option (Nat × Nat) :=
  let one := l.findSome? (fun q =>
    match pendPlace q with
    | none => some (0x1912, q.addr)
    | some p => match s.rangeErr p q.value with
      | some c => some (c, q.addr)
      | none => (s.setErr l p q.value).map (fun c => (c, q.addr)))
  match one with
  | some x => some x
  | none => (s.imageErr l).map (fun c => (c, (l.head?.map (·.addr)).getD 0))

/-- The target devices of a cove-wide transaction. -/
def State.coveAddrs (s : State) : List ChainAddr := (s.command.staged.filterMap (·.target)).eraseDups

/-- Messages of a cove-wide transaction (R452). -/
inductive CoveMsg where
  | prepare (fields : List PendingField)
  | commitAt (n : Nat)
  | rollback
  /-- READY, or the target's error. -/
  | ready (serial error : Nat)
  | ack (serial : Nat)
  deriving DecidableEq, Repr

/-- Payload of a message of a cove-wide transaction. DESIGN CHOICE: R452 names the messages and gives no layout: a code, then
the values, little-endian. -/
def coveBytes : CoveMsg → List Byte
  | .prepare l => leBytes 1 1 ++ leBytes 2 l.length ++ l.flatMap (fun q => leBytes 4 q.addr ++ leBytes 1 q.lo ++ leBytes 4 q.value)
  | .commitAt n => leBytes 1 2 ++ leBytes 8 n
  | .rollback => leBytes 1 3
  | .ready serial error => leBytes 1 4 ++ leBytes 16 serial ++ leBytes 2 error
  | .ack serial => leBytes 1 5 ++ leBytes 16 serial

/-- A message of a cove-wide transaction to a target. DESIGN CHOICE: it travels as a REQUEST. -/
def State.coveSend (s : State) (a : ChainAddr) (m : CoveMsg) : State :=
  match s.route a with
  | .hop l b => s.chainSend l 0x30 b.ctrl.toNat b.path.toNat (coveBytes m)
  | _ => s

/-- The answer of a target to its head. DESIGN CHOICE: it travels as a REPLY. -/
def State.coveUp (s : State) (m : CoveMsg) : State := s.chainSend (s.r Reg.CHAIN_UPSTREAM) 0x31 ctrlUp 0 (coveBytes m)

/-- PREPARE to a target, with its fields. -/
def State.prepareSend (s : State) (a : ChainAddr) : State :=
  s.coveSend a (.prepare ((s.command.staged.filter (fun x => decide (x.target = some a))).map (·.f)))

/-- The transaction waits for a boundary. -/
def State.txnPend (s : State) (n : Nat) (at_ : Option Nat) : State :=
  ((s.w Reg.CMD_TXN_STATE 2).w Reg.CMD_TXN_APPLY n).modCommand (fun c => { c with applyAt := at_ })

/-- COMMIT (R450 to R452). -/
def State.commitOp (s : State) (e : Env) (i txn : Nat) : Answer × State :=
  if s.command.coveReply.any (fun p => decide (p.1.id = e.id ∧ p.2 = i)) then ({ later := true }, s)
  else match s.txnErr i txn with
  | some c => ({ result := c }, s)
  | none =>
    if s.command.coveReply.isSome then ({ result := 0x1905 }, s)
    else match s.validate s.ownStaged with
      | some (c, a) => ({ result := c, detail := some a }, s.refusalMark c)
      | none =>
        if !s.rb Reg.CMD_TXN_SCOPE then ({ apply := some s.applyTide }, s.txnPend s.applyTide none)
        else
          let l := s.coveAddrs
          if l.isEmpty then
            let n := s.tide + s.r Reg.CMD_COVE_MARGIN
            ({ apply := some n }, s.txnPend n (some n))
          else
            let s := s.over l (fun a s => s.prepareSend a)
            ({ later := true }, s.modCommand (fun c => { c with
              coveReply := some (e, i)
              coveTargets := l.map (fun a => { addr := a, serial := 0, ready := false, acked := false, error := 0 })
              coveN := 0 }))

/-- COMMIT. -/
def execCommit (e : Env) (txn : Nat) (s : State) : Host.Outcome State Fault Refusal :=
  if !s.serving then .next s else .next (s.serve e 2 false true (fun s i => s.commitOp e i txn))

/-- ROLLBACK (R450): a request, or with none the word of a cove head to a target that it prepared (R452). -/
def execRollback (e : Option Env) (txn : Nat) (s : State) : Host.Outcome State Fault Refusal :=
  match e with
  | none => .next (if s.command.prepared ∧ s.r Reg.CMD_TXN_STATE = 1 then s.txnEnd (s.r Reg.CMD_TXN_RESULT) else s)
  | some e =>
    if !s.serving then .next s
    else .next (s.serve e 2 false true (fun s i =>
      match s.txnErr i txn with
      | some c => ({ result := c }, s)
      | none => if s.command.coveReply.isSome then ({ result := 0x1905 }, s) else ({}, s.txnEnd (s.r Reg.CMD_TXN_RESULT))))

/-- TRANSACTION_TIMEOUT (R450): an open transaction of age 6,000 tides is rolled back. DESIGN CHOICE: a COMMIT that still waits for
its targets is answered 0x1907, since the spec names no reply. -/
def execTransactionTimeout (s : State) : Host.Outcome State Fault Refusal :=
  if s.r Reg.CMD_TXN_STATE = 1 ∧ 6000 ≤ s.r Reg.CMD_TXN_AGE then
    .next (((s.coveAnswer { result := 0x1907 }).txnEnd (s.r Reg.CMD_TXN_RESULT)).ev Reg.CMD_EVENT 1)
  else .next s

/-! ## Cove-wide transactions (R452) -/

/-- PREPARE_RECEIVE: a target opens a local transaction, stages and validates the fields, and answers READY or its error. The rights
of the issuer were checked by the head when it staged the fields. -/
def execPrepareReceive (fields : List FieldInit) (s : State) : Host.Outcome State Fault Refusal :=
  if !s.running then .next s
  else
    let answer := fun (s : State) (c : Nat) => s.coveUp (.ready s.serial c)
    if s.r Reg.CMD_TXN_STATE ≠ 0 then .next (answer s 0x1905)
    else
      let l : List PendingField := fields.map (fun q => ⟨q.addr, q.lo, q.value⟩)
      let bad := l.findSome? (fun q => match pendPlace q with
        | some p => if p.f.acc = .rt then none else some 0x190B
        | none => some 0x1912)
      if 512 < l.length then .next (answer s 0x1908)
      else if bad.isSome then .next (answer s (bad.getD 0))
      else match s.validate l with
        | some (c, _) => .next (answer (s.refusalMark c) c)
        | none =>
          let id := s.command.nextTxn
          let s := s.modCommand (fun c => { c with nextTxn := id % 4294967295 + 1, staged := l.map (fun q => ⟨q, none⟩), prepared := true })
          let s := ((s.w Reg.CMD_TXN_STATE 1).w Reg.CMD_TXN_ID id).w Reg.CMD_TXN_FIELDS l.length
          .next (answer (s.w Reg.CMD_TXN_AGE 0) 0)

/-- COMMIT_AT to every target that has not acknowledged. -/
def State.commitAtSend (s : State) : State :=
  s.over (s.command.coveTargets.filter (fun t => !t.acked)) (fun t s => s.coveSend t.addr (.commitAt s.command.coveN))

/-- READY_RECEIVE: once every target has answered, the head rolls the prepared targets back, or sends COMMIT_AT with
N = R + COVE_MARGIN. `error` is 0 for READY. -/
def execReadyReceive (target : ChainAddr) (serial : BitVec 128) (error : Nat) (s : State) : Host.Outcome State Fault Refusal :=
  if s.command.coveReply.isNone ∨ s.command.coveN ≠ 0 ∨ s.r Reg.CMD_TXN_STATE ≠ 1 then .next s
  else
    let s := s.modCommand (fun c => { c with coveTargets := c.coveTargets.map (fun (t : CoveTarget) =>
      if t.addr = target then { t with ready := true, serial := serial, error := error } else t) })
    let l := s.command.coveTargets
    if l.any (fun t => !t.ready) then .next s
    else match l.find? (fun t => decide (t.error ≠ 0)) with
      | some t =>
        let s := s.over (l.filter (fun t => decide (t.error = 0))) (fun t s => s.coveSend t.addr .rollback)
        let s := s.coveAnswer { result := 0x190C, data := [t.error], detail := some t.serial.toNat }
        .next (s.modCommand (fun c => { c with coveTargets := [] }))
      | none =>
        let n := s.tide + s.r Reg.CMD_COVE_MARGIN
        let s := (s.modCommand (fun c => { c with coveN := n })).txnPend n (some n)
        .next s.commitAtSend

/-- COMMIT_AT_RECEIVE: a prepared target holds the tide and acknowledges. -/
def execCommitAtReceive (n : Nat) (s : State) : Host.Outcome State Fault Refusal :=
  if s.command.prepared ∧ s.r Reg.CMD_TXN_STATE ≠ 0 then
    .next ((s.txnPend n (some n)).coveUp (.ack s.serial))
  else .next s

/-- COMMIT_AT_ACK_RECEIVE: the head replies once every target has acknowledged. -/
def execCommitAtAckReceive (target : ChainAddr) (s : State) : Host.Outcome State Fault Refusal :=
  if s.command.coveN ≤ s.tide then .next s
  else
    let s := s.modCommand (fun c => { c with coveTargets := c.coveTargets.map (fun (t : CoveTarget) =>
      if t.addr = target then { t with acked := true } else t) })
    if s.command.coveTargets.all (·.acked) then .next (s.coveAnswer { apply := some s.command.coveN }) else .next s

/-- COVE_COMMIT_DEADLINE: tide N arrives with targets that have not acknowledged. -/
def execCoveCommitDeadline (s : State) : Host.Outcome State Fault Refusal :=
  let left := s.command.coveTargets.filter (fun t => !t.acked)
  if s.command.coveReply.isSome ∧ s.command.coveN ≠ 0 ∧ s.command.coveN ≤ s.tide ∧ !left.isEmpty then
    let s := s.ev Reg.CMD_EVENT 3
    let s := s.coveAnswer { result := 0x190D, data := left.map (fun t => t.serial.toNat), detail := (left.head?).map (fun t => t.serial.toNat) }
    .next (s.modCommand (fun c => { c with coveTargets := [], coveN := 0 }))
  else .next s

/-! ## Subscriptions (R453) -/

/-- SUBSCRIBE (R453): bound to the TLS connection that carries it. DESIGN CHOICE: over the chain there is none, and the request is
malformed. -/
def execSubscribe (e : Env) (period : Nat) (ranges : Ranges) (blocks : BitVec 32) (s : State) : Host.Outcome State Fault Refusal :=
  if !s.serving then .next s
  else .next (s.serve e 0 false false (fun s _ =>
    match e.conn with
    | none => ({ result := 0x1901 }, s)
    | some c =>
      if period = 0 ∨ 65535 < period ∨ 32 < ranges.length ∨ ranges.any (fun r => decide (r.2 = 0)) then ({ result := 0x1910 }, s)
      else match ranges.find? (fun r => (s.readWords r.1 r.2).isNone) with
        | some r => ({ result := 0x1912, detail := some r.1 }, s)
        | none =>
          if 8 ≤ s.command.subs.length then ({ result := 0x1905 }, s)
          else
            let k := ((List.range 8).find? (fun k => s.command.subs.all (fun x => decide (x.num ≠ k)))).getD 0
            let s := s.modCommand (fun x => { x with subs := x.subs ++ [⟨k, c, period, ranges, blocks⟩] })
            ({ data := [k] }, s.w Reg.CMD_SUBS s.command.subs.length)))

/-- COMMAND_CONNECTION_CLOSE (R453): the subscriptions of a closed connection end, and their messages with them. -/
def execCommandConnectionClose (conn : Nat) (s : State) : Host.Outcome State Fault Refusal :=
  let s := s.modCommand (fun c => { c with
    subs := c.subs.filter (fun b => decide (b.conn ≠ conn)), msgs := c.msgs.filter (fun m => decide (m.conn ≠ conn)) })
  .next (s.w Reg.CMD_SUBS s.command.subs.length)

/-! ## Issuers (R442) -/

/-- ISSUER_PURGE (R442): an entry is freed when the RTC is valid and lies beyond its NOT_AFTER. -/
def execIssuerPurge (e : Env) (entry : Nat) (s : State) : Host.Outcome State Fault Refusal :=
  if !s.serving then .next s
  else .next (s.serve e 8 false false (fun s _ =>
    if 32 ≤ entry then ({ result := 0x1910 }, s)
    else if s.rb Reg.BILL_RTC_VALID ∧ s.r Reg.CMD_ISS_NOT_AFTER 0 entry < s.rtcS then ({}, s.issuerFree entry)
    else ({ result := 0x1911 }, s)))

end Sys2Proof.Machine
end

