-- ==== Sys2Proof/Machine/Boundary.lean ====
section
/-! DEFINITION. The wave boundary and the tide boundary: the work of every wave (R13, R35) and the boundary work of Table 10.1
(R315 to R329). -/
namespace Sys2Proof.Machine
set_option cleanup.letToHave false

/-! ## Step 2: the committed transaction and the accepted RI writes (R317) -/

/-- Fields that only trigger: they are no settings. -/
def triggerFields : List Fld :=
  [Reg.TIDE_STAT_CLEAR, Reg.DEV_DEFAULTS_ACK, Reg.DEV_RESTART, Reg.MTX_CT_CLR, Reg.SESS_AUTH_GRANT, Reg.SESS_STOP,
   Reg.LOOP_INJ_CTRL, Reg.LOOP_CAP_CTRL, Reg.GD_CLR, Reg.LS_CLR, Reg.BILL_SET_GO, Reg.BILL_SET_LO, Reg.BILL_SET_HI,
   Reg.TAMP_SEAL_CLR, Reg.PAIR_HANDOVER, Reg.KEY_INVALIDATE, Reg.BIST_REQ, Reg.CAN_BUSOFF_RESTART, Reg.OTP_LC_TARGET,
   Reg.OTP_RETIRE, Reg.SAFE_CONFIRM, Reg.CMD_ISS_STATE]

/-- A value takes its field, with what the field's chapter makes of an applied value. -/
def State.applyField (s : State) (q : PendingField) : State :=
  match pendPlace q with
  | none => s
  | some p =>
    let old := s.r p.f p.n p.i p.j
    let s := s.wPend q
    let s :=
      if fieldsLOOP.contains p.f then s.loopApplied p.f p.n old
      else if fieldsLS.contains p.f then s.lsApplied p.f p.n
      else if fieldsCAN.contains p.f then s.canApplied p.f p.n
      else if p.f = Reg.TIDE_OWN_OWNED ∨ p.f = Reg.TIDE_OWN_PART then s.ownApply p.i
      else if p.f = Reg.CMD_ISS_STATE then s.ev Reg.CMD_EVENT 4
      else if p.f = Reg.SESSX_REC_ACK then s.recRefresh
      else if p.f = Reg.KEY_INVALIDATE then s.invalidateTide
      else if p.f = Reg.SAFE_CONFIRM then { s with safety := { s.safety with confirmDue := true } }
      else s
    if triggerFields.contains p.f then s
    else s.modStart (fun x => { x with settings := Tab.put x.settings (p.f.key p.n p.i p.j) (BitVec.ofNat 32 (s.r p.f p.n p.i p.j)) })

/-- TRANSACTION_APPLY: the pending transaction is applied as a whole at its boundary. A cove head that still waits for
acknowledgements keeps its targets. -/
def State.txnApply (s : State) : State :=
  let due := match s.command.applyAt with
    | some n => decide (n ≤ s.tide)
    | none => true
  if s.r Reg.CMD_TXN_STATE = 2 ∧ due = true then
    let c := s.command
    let s := (s.over s.ownStaged (fun q s => s.applyField q)).txnEnd 0
    if c.coveReply.isSome then
      s.modCommand (fun x => { x with coveReply := c.coveReply, coveTargets := c.coveTargets, coveN := c.coveN })
    else s
  else s

/-- RI_WRITE_APPLY: the accepted writes, in the order in which they were accepted. -/
def State.riApply (s : State) : State :=
  let l := s.command.ri
  (s.modCommand (fun c => { c with ri := [] })).over l (fun q s => s.applyField q)

/-- Step 2; an ebb warning latched at step 1 defers it (R327). What it changed goes into a settings generation. -/
def State.stepTwo (s : State) : State :=
  if s.ebbLatched then s
  else
    let old := s.start.settings
    let s := s.txnApply.riApply.denyTide
    if s.alive && decide (s.start.settings ≠ old) then s.settingsSave else s

/-! ## Messages (R453) -/

/-- TELEMETRY_SEND: after wave 399 of each tide whose number is a multiple of the period, one snapshot of every range. -/
def State.telemetry (s : State) : State :=
  s.over (s.command.subs.filter (fun b => decide (s.tide % max 1 b.period = 0))) (fun b s =>
    let r := b.ranges.foldl (fun (p : List Nat × State) q =>
      let (l, t) := p.2.snapshot q.1 q.2
      (p.1 ++ l.getD [], t)) ([], s)
    r.2.queueMsg { conn := b.conn, words := s.tide :: r.1 })

/-- The waiting messages leave; when some were dropped, one overflow event follows. DESIGN CHOICE: it goes to every connection that
holds a subscription, and carries the tide, the address of EVENT_DROPS and its value. -/
def State.deliver (s : State) : State :=
  let l := s.command.msgs
  let s := (s.modCommand (fun c => { c with msgs := [] })).over l (fun m s => s.emit (.message m.conn m.words))
  if s.command.overflow then
    let s := s.modCommand (fun c => { c with overflow := false })
    s.over ((s.command.subs.map (·.conn)).eraseDups) (fun k s =>
      s.emit (.message k [s.tide, Reg.CMD_EVENT_DROPS.addr 0 0 0, s.r Reg.CMD_EVENT_DROPS]))
  else s

/-! ## Counts of a tide -/

/-- The tides of a start, of a trial and of an open transaction. FAILED_STARTS is cleared when RUN reaches 100 tides (R61). -/
def State.countTide (s : State) : State :=
  let s := s.modStart (fun x => { x with
    joinTides := if s.phase = .join then x.joinTides + 1 else x.joinTides
    runOpen := x.runNext && decide (s.phase = .join)
    runTides := if s.phase = .run then x.runTides + 1 else x.runTides })
  let s := if s.phase = .run ∧ s.start.runTides = 100 then s.w Reg.DEV_FAILED_STARTS 0 else s
  let s := if s.r Reg.CMD_TXN_STATE ≠ 0 then s.w Reg.CMD_TXN_AGE (min 6000 (s.r Reg.CMD_TXN_AGE + 1)) else s
  (s.trialTide.vaultTide).modFabric (fun f => { f with scrubTides := f.scrubTides + 1, rollTides := f.rollTides + 1 })

/-- COMMIT_AT is repeated until it is acknowledged or until tide N − 1 (R452). -/
def State.commitRepeat (s : State) : State :=
  if s.command.coveN ≠ 0 ∧ s.tide < s.command.coveN then s.commitAtSend else s

/-! ## The boundary work (Table 10.1) -/

/-- What closes with wave 399: published values of the tide, the checkpoint, the telemetry, the heartbeat answer. -/
def State.tideEnd (s : State) (sBreach : Bool) : State :=
  let s := { s with safety := { s.safety with checksOk := s.safety.checksOk && s.inp.checksOk } }
  let s := if sBreach then s else s.heartbeat
  let s := { s with safety := { s.safety with hbDue := true } }
  ((s.meterTide.checkpoint).telemetry).thermTide

/-- The steps 9 and 10, for the unit that runs the position; with the ebb warning latched no new move is issued (R327). -/
def State.planTide (s : State) : State :=
  if s.dialogues then
    let s := s.cabTide.allocate
    if s.ebbLatched then s else s.matrixPlan State.lowWaterPlan
  else s

/-- Sessions and prepayment at a boundary, for the unit that runs the position. -/
def State.positionTide (s : State) : State :=
  if s.dialogues then ((s.sessTide s.inp.riso).prepTide).recRefresh else s

/-- The work of a tide boundary, after the numbers have advanced; `n` is the tide that ended. The limit inputs (R97) are read
once a tide. -/
def State.tideWork (s : State) (n : Nat) : State :=
  let s := (s.countTide.chainTide).pairTide
  let s := s.modMeter (fun m => { m with resume := false })
  let s := (s.stepTwo).actTide
  let s := s.tamperTide.asTide
  let s := if s.running then s.billTide s.inp.asMs false else s.timeRefresh
  let s := (s.keypadTide.safetyTide s.inp.aux s.inp.paramOk).linksTide
  let s := (s.positionTide.when s.running (fun s => s.linTide.coolTide n)).planTide
  ((s.coveTide).commitRepeat).deliver

/-! ## The wave -/

/-- What closes with a wave: evaluations and the fence that ends it, then what was sampled in it. -/
def State.waveEnd (s : State) : State :=
  let q := s.inp
  let s := s.loopCoolWave.fence
  let s := (s.meterWave q.mods q.overrun).ebbRecord.shutdownRecord
  let s := (s.safetyWave q.sin).readbackWave q.soutV q.soutI
  let s := s.when s.running State.tokenWave
  let s := { s with safety := { s.safety with
    frames := if s.safety.gotFrame then s.safety.frames else 0
    noFrame := if s.safety.gotFrame then 0 else s.safety.noFrame + 1
    gotFrame := false } }
  (s.thermWave s.wave).ledgeWave

/-- What begins with a wave: the throttle and the slots, and the work of the device's own engines. -/
def State.waveBegin (s : State) : State :=
  let s := s.throttleWave (s.r Reg.THERM_THR_DEMAND) s.ebbLatched
  let s := ((s.driveWave).pulseWave).pulsesWave.tsnWave
  let s := s.each 32 (fun k s => s.pduSend k)
  let s := s.delayReqSend.pairWave
  let s := if s.dialogues then (s.allocWave.matrixWave).sessWave else if s.running then s.contactorWave else s
  let s := if s.running then s.cabWave else s
  -- the mirror carries the SEQ of this wave's setpoint frames
  let s := if s.wave = 200 ∧ s.alive then s.mirrorSend else s
  s.chainWave.loopLatch

/-- The wave index advances, at wave 399 with the tide number (R13, R14). -/
def State.advance (s : State) : State :=
  let s := { s with waves := s.waves + 1 }
  if s.wave = 399 then (s.w Reg.TIDE_WAVE 0).w64 Reg.TIDE_NUMBER_LO Reg.TIDE_NUMBER_HI (s.tide + 1)
  else s.w Reg.TIDE_WAVE (s.wave + 1)

/-- A wave boundary. Strand mode and the retired start keep the wave and tide count, and at a tide boundary apply what
was committed. -/
def State.boundary (s : State) (q : WaveIn) : State :=
  let last := decide (s.wave = 399)
  let n := s.tide
  let s := ({ s with inp := q }).ebbWave
  if s.alive then
    let sBreach := s.breaching.any (fun p => decide (s.slotClass p.2 = 0))
    let s := s.waveEnd
    let s := if last then s.tideEnd sBreach else s
    let s := s.advance
    let s := if last then (s.rtcRun q.rtcMs).tideWork n else s
    s.waveBegin
  else
    let s := s.advance
    let s := if last then ((s.rtcRun q.rtcMs).countTide).stepTwo else s
    -- the IMAGE frames of strand mode (R473)
    if s.phase = .strand then s.chainWave else s

/-- WAVE_BOUNDARY (R13): the tick index passes from 624 to 0. At wave 399 the boundary is a tide boundary too. An ordered reset
that has no record to wait for follows the wave in which it was ordered. -/
def execWaveBoundary (w : WaveIn) (s : State) : Host.Outcome State Fault Refusal :=
  if s.clocked then .next (s.boundary w).resetDue else .next s

/-- TIDE_BOUNDARY (R315): the wave boundary at which the wave index passes from 399 to 0. -/
def execTideBoundary (w : WaveIn) (s : State) : Host.Outcome State Fault Refusal :=
  if s.clocked && decide (s.wave = 399) then .next (s.boundary w).resetDue else .next s

end Sys2Proof.Machine
end

