-- ==== Sys2Proof/Machine/Families.lean ====
section
/-! DEFINITION. The families of commands, gathered for the dispatch. -/
end

