-- ==== Sys2Proof/Machine/Dispatch.lean ====
section
/-! DEFINITION. The dispatch: one arm per command, each a direct call of its meaning. -/
namespace Sys2Proof.Machine

/-- The effect of a command on everything but the queue of waiting commands. -/
def exec (i : Instr) (s : State) : Host.Outcome State Fault Refusal :=
  match i with
  | .waveBoundary w => Sys2Proof.Machine.execWaveBoundary w s
  | .tideBoundary w => Sys2Proof.Machine.execTideBoundary w s
  | .refclkStop => Sys2Proof.Machine.execRefclkStop s
  | .slotRun n work => Sys2Proof.Machine.execSlotRun n work s
  | .fabricRequest q => Sys2Proof.Machine.execFabricRequest q s
  | .stalledRequestIssue req => Sys2Proof.Machine.execStalledRequestIssue req s
  | .fabricResponse tag ecc => Sys2Proof.Machine.execFabricResponse tag ecc s
  | .dmaStart c desc part => Sys2Proof.Machine.execDmaStart c desc part s
  | .dmaBeat c ecc => Sys2Proof.Machine.execDmaBeat c ecc s
  | .dmaRestart c part => Sys2Proof.Machine.execDmaRestart c part s
  | .statClear => Sys2Proof.Machine.execStatClear s
  | .resetRelease q => Sys2Proof.Machine.execResetRelease q s
  | .resetNAssert => Sys2Proof.Machine.execResetNAssert s
  | .ebbDuringStart => Sys2Proof.Machine.execEbbDuringStart s
  | .startResume => Sys2Proof.Machine.execStartResume s
  | .kernelFault recOk frameOk => Sys2Proof.Machine.execKernelFault recOk frameOk s
  | .devRestart => Sys2Proof.Machine.execDevRestart s
  | .defaultsAck => Sys2Proof.Machine.execDefaultsAck s
  | .enterRun q => Sys2Proof.Machine.execEnterRun q s
  | .beaconReceive link b => Sys2Proof.Machine.execBeaconReceive link b s
  | .joinReceive link j => Sys2Proof.Machine.execJoinReceive link j s
  | .admitReceive link => Sys2Proof.Machine.execAdmitReceive link s
  | .refuseReceive link => Sys2Proof.Machine.execRefuseReceive link s
  | .orphanWaitExpiry => Sys2Proof.Machine.execOrphanWaitExpiry s
  | .upstreamLost => Sys2Proof.Machine.execUpstreamLost s
  | .coveFormed => Sys2Proof.Machine.execCoveFormed s
  | .chainForward m => Sys2Proof.Machine.execChainForward m s
  | .chainReply msgId hops payload => Sys2Proof.Machine.execChainReply msgId hops payload s
  | .proxyReceive m inner => Sys2Proof.Machine.execProxyReceive m inner s
  | .chainLinkUp link => Sys2Proof.Machine.execChainLinkUp link s
  | .delayReqReceive link t2 t3 => Sys2Proof.Machine.execDelayReqReceive link t2 t3 s
  | .delayRespReceive link t1 t2 t3 t4 => Sys2Proof.Machine.execDelayRespReceive link t1 t2 t3 t4 s
  | .eventFrameReceive e => Sys2Proof.Machine.execEventFrameReceive e s
  | .soloStartClaim => Sys2Proof.Machine.execSoloStartClaim s
  | .curveReceive link q => Sys2Proof.Machine.execCurveReceive link q s
  | .grantReceive link g => Sys2Proof.Machine.execGrantReceive link g s
  | .childLost link => Sys2Proof.Machine.execChildLost link s
  | .childReserveFallback link => Sys2Proof.Machine.execChildReserveFallback link s
  | .orphanHoldExpiry => Sys2Proof.Machine.execOrphanHoldExpiry s
  | .limitInputAssert k => Sys2Proof.Machine.execLimitInputAssert k s
  | .limitInputRelease k => Sys2Proof.Machine.execLimitInputRelease k s
  | .limitWrite e exportSide kw => Sys2Proof.Machine.execLimitWrite e exportSide kw s
  | .zeroWaitExpiry m => Sys2Proof.Machine.execZeroWaitExpiry m s
  | .openWaitExpiry m => Sys2Proof.Machine.execOpenWaitExpiry m s
  | .weldConfirmDone m => Sys2Proof.Machine.execWeldConfirmDone m s
  | .matchWaitExpiry m => Sys2Proof.Machine.execMatchWaitExpiry m s
  | .closeWaitExpiry m => Sys2Proof.Machine.execCloseWaitExpiry m s
  | .rampWavesElapsed m => Sys2Proof.Machine.execRampWavesElapsed m s
  | .soutGroupCut g => Sys2Proof.Machine.execSoutGroupCut g s
  | .ctClr k => Sys2Proof.Machine.execCtClr k s
  | .statusFrameReceive cab frame => Sys2Proof.Machine.execStatusFrameReceive cab frame s
  | .cabinetLost cab => Sys2Proof.Machine.execCabinetLost cab s
  | .lostShareExpiry cab => Sys2Proof.Machine.execLostShareExpiry cab s
  | .vehicleLinkUp n => Sys2Proof.Machine.execVehicleLinkUp n s
  | .vehicleLinkDown n => Sys2Proof.Machine.execVehicleLinkDown n s
  | .sdpRequest n => Sys2Proof.Machine.execSdpRequest n s
  | .tlsClientHello n h => Sys2Proof.Machine.execTlsClientHello n h s
  | .supportedAppProtocolReq n q dc => Sys2Proof.Machine.execSupportedAppProtocolReq n q dc s
  | .sessionSetupReq n q => Sys2Proof.Machine.execSessionSetupReq n q s
  | .authorizationSetupReq n q => Sys2Proof.Machine.execAuthorizationSetupReq n q s
  | .authorizationReq n q a => Sys2Proof.Machine.execAuthorizationReq n q a s
  | .authGrant n => Sys2Proof.Machine.execAuthGrant n s
  | .authDeny n => Sys2Proof.Machine.execAuthDeny n s
  | .authWaitExpiry n => Sys2Proof.Machine.execAuthWaitExpiry n s
  | .serviceDiscoveryReq n q => Sys2Proof.Machine.execServiceDiscoveryReq n q s
  | .serviceSelectionReq n q service mode => Sys2Proof.Machine.execServiceSelectionReq n q service mode s
  | .chargeParameterDiscoveryReq n q p => Sys2Proof.Machine.execChargeParameterDiscoveryReq n q p s
  | .scheduleExchangeReq n q => Sys2Proof.Machine.execScheduleExchangeReq n q s
  | .lockConfirmed n => Sys2Proof.Machine.execLockConfirmed n s
  | .lockWaitExpiry n => Sys2Proof.Machine.execLockWaitExpiry n s
  | .cableCheckReq n q => Sys2Proof.Machine.execCableCheckReq n q s
  | .cableCheckPass n => Sys2Proof.Machine.execCableCheckPass n s
  | .cableWaitExpiry n => Sys2Proof.Machine.execCableWaitExpiry n s
  | .prechargeReq n q targetV => Sys2Proof.Machine.execPrechargeReq n q targetV s
  | .prechargeMatch n => Sys2Proof.Machine.execPrechargeMatch n s
  | .prechargeWaitExpiry n => Sys2Proof.Machine.execPrechargeWaitExpiry n s
  | .powerDeliveryReq n q k => Sys2Proof.Machine.execPowerDeliveryReq n q k s
  | .chargeLoopReq n q p => Sys2Proof.Machine.execChargeLoopReq n q p s
  | .pathHoldExpiry n => Sys2Proof.Machine.execPathHoldExpiry n s
  | .pauseMaxExpiry n => Sys2Proof.Machine.execPauseMaxExpiry n s
  | .sessionStopReq n q k => Sys2Proof.Machine.execSessionStopReq n q k s
  | .weldingDetectionReq n q => Sys2Proof.Machine.execWeldingDetectionReq n q s
  | .stoppingZero n => Sys2Proof.Machine.execStoppingZero n s
  | .unlockVoltageSafe n => Sys2Proof.Machine.execUnlockVoltageSafe n s
  | .sessionRecordSigned => Sys2Proof.Machine.execSessionRecordSigned s
  | .unlockHeld n => Sys2Proof.Machine.execUnlockHeld n s
  | .v2gSequenceTimeout n => Sys2Proof.Machine.execV2gSequenceTimeout n s
  | .vehicleTcpClose n => Sys2Proof.Machine.execVehicleTcpClose n s
  | .proxDisconnect n => Sys2Proof.Machine.execProxDisconnect n s
  | .hostStop n => Sys2Proof.Machine.execHostStop n s
  | .recAck e value => Sys2Proof.Machine.execRecAck e value s
  | .recordRead e no ocmf => Sys2Proof.Machine.execRecordRead e no ocmf s
  | .loopHoldTrip n => Sys2Proof.Machine.execLoopHoldTrip n s
  | .supervisionTrip n => Sys2Proof.Machine.execSupervisionTrip n s
  | .loopModeWrite n => Sys2Proof.Machine.execLoopModeWrite n s
  | .injectionStart n => Sys2Proof.Machine.execInjectionStart n s
  | .injectionStop n => Sys2Proof.Machine.execInjectionStop n s
  | .injectionDone n => Sys2Proof.Machine.execInjectionDone n s
  | .captureArm n => Sys2Proof.Machine.execCaptureArm n s
  | .captureRelease n => Sys2Proof.Machine.execCaptureRelease n s
  | .captureFull n => Sys2Proof.Machine.execCaptureFull n s
  | .bridgeLinkLoss => Sys2Proof.Machine.execBridgeLinkLoss s
  | .pwmPeriod x q => Sys2Proof.Machine.execPwmPeriod x q s
  | .bootstrapPrechargeEnd x vbs => Sys2Proof.Machine.execBootstrapPrechargeEnd x vbs s
  | .refreshInsertion x p us => Sys2Proof.Machine.execRefreshInsertion x p us s
  | .protectionFault p => Sys2Proof.Machine.execProtectionFault p s
  | .thermalCondition p => Sys2Proof.Machine.execThermalCondition p s
  | .thermalLatchClear p => Sys2Proof.Machine.execThermalLatchClear p s
  | .crossConduction x q => Sys2Proof.Machine.execCrossConduction x q s
  | .retryTimerExpiry o ms => Sys2Proof.Machine.execRetryTimerExpiry o ms s
  | .tryResetExpiry o ms => Sys2Proof.Machine.execTryResetExpiry o ms s
  | .gdClr x => Sys2Proof.Machine.execGdClr x s
  | .lsClr c => Sys2Proof.Machine.execLsClr c s
  | .lsSupplyLow c v => Sys2Proof.Machine.execLsSupplyLow c v s
  | .lsSupplyRecover c v held => Sys2Proof.Machine.execLsSupplyRecover c v held s
  | .openLoadDetect c n onFor => Sys2Proof.Machine.execOpenLoadDetect c n onFor s
  | .powerDieReset => Sys2Proof.Machine.execPowerDieReset s
  | .lsOutputWrite e c duty value => Sys2Proof.Machine.execLsOutputWrite e c duty value s
  | .modInputFault m => Sys2Proof.Machine.execModInputFault m s
  | .modInputRecover m => Sys2Proof.Machine.execModInputRecover m s
  | .spliceSet n => Sys2Proof.Machine.execSpliceSet n s
  | .spliceClear n => Sys2Proof.Machine.execSpliceClear n s
  | .lineCycleEnd p => Sys2Proof.Machine.execLineCycleEnd p s
  | .neutralSet p => Sys2Proof.Machine.execNeutralSet p s
  | .neutralClear p => Sys2Proof.Machine.execNeutralClear p s
  | .pulseStart j => Sys2Proof.Machine.execPulseStart j s
  | .pulseEnd j => Sys2Proof.Machine.execPulseEnd j s
  | .mramWriteComplete ok => Sys2Proof.Machine.execMramWriteComplete ok s
  | .ebbWarning source => Sys2Proof.Machine.execEbbWarning source s
  | .ebbSnapshot => Sys2Proof.Machine.execEbbSnapshot s
  | .ebbRelease => Sys2Proof.Machine.execEbbRelease s
  | .meterReceive link q => Sys2Proof.Machine.execMeterReceive link q s
  | .timeSet e set => Sys2Proof.Machine.execTimeSet e set s
  | .billingSteps upTo marked => Sys2Proof.Machine.execBillingSteps upTo marked s
  | .tamperInputActive c level ms => Sys2Proof.Machine.execTamperInputActive c level ms s
  | .sealClr c => Sys2Proof.Machine.execSealClr c s
  | .keypadKey n seq key => Sys2Proof.Machine.execKeypadKey n seq key s
  | .keypadEntryTimeout n => Sys2Proof.Machine.execKeypadEntryTimeout n s
  | .keypadUnlock n => Sys2Proof.Machine.execKeypadUnlock n s
  | .linkFrameReceive spacingOk => Sys2Proof.Machine.execLinkFrameReceive spacingOk s
  | .linkFrameLoss => Sys2Proof.Machine.execLinkFrameLoss s
  | .soutReadbackFault c => Sys2Proof.Machine.execSoutReadbackFault c s
  | .darkTest failed => Sys2Proof.Machine.execDarkTest failed s
  | .sinFilterChange n => Sys2Proof.Machine.execSinFilterChange n s
  | .dualDiscrepancy f => Sys2Proof.Machine.execDualDiscrepancy f s
  | .sf3FilterExpiry f => Sys2Proof.Machine.execSf3FilterExpiry f s
  | .safetyPduReceive k groupB pdu => Sys2Proof.Machine.execSafetyPduReceive k groupB pdu s
  | .safeDataWatchdog k => Sys2Proof.Machine.execSafeDataWatchdog k s
  | .safeAckRelease => Sys2Proof.Machine.execSafeAckRelease s
  | .ackHeldTooLong => Sys2Proof.Machine.execAckHeldTooLong s
  | .safeConfirm => Sys2Proof.Machine.execSafeConfirm s
  | .healthReceive link h => Sys2Proof.Machine.execHealthReceive link h s
  | .lighthouseDecision => Sys2Proof.Machine.execLighthouseDecision s
  | .lightReceive link l => Sys2Proof.Machine.execLightReceive link l s
  | .lighthouseLost => Sys2Proof.Machine.execLighthouseLost s
  | .floodYield => Sys2Proof.Machine.execFloodYield s
  | .yieldNoticeReceive link cause => Sys2Proof.Machine.execYieldNoticeReceive link cause s
  | .floodClaim => Sys2Proof.Machine.execFloodClaim s
  | .floodInChange level => Sys2Proof.Machine.execFloodInChange level s
  | .yieldMaxExpiry => Sys2Proof.Machine.execYieldMaxExpiry s
  | .mirrorReceive link m => Sys2Proof.Machine.execMirrorReceive link m s
  | .resumeWaitExpiry n => Sys2Proof.Machine.execResumeWaitExpiry n s
  | .handover => Sys2Proof.Machine.execHandover s
  | .takeback => Sys2Proof.Machine.execTakeback s
  | .keyGenerate e a => Sys2Proof.Machine.execKeyGenerate e a s
  | .keyLoad e a anchor pub w => Sys2Proof.Machine.execKeyLoad e a anchor pub w s
  | .keyDerive e parent label ctx a => Sys2Proof.Machine.execKeyDerive e parent label ctx a s
  | .keyInvalidate e slot => Sys2Proof.Machine.execKeyInvalidate e slot s
  | .keyExportPublic e slot => Sys2Proof.Machine.execKeyExportPublic e slot s
  | .handoverWrap e target => Sys2Proof.Machine.execHandoverWrap e target s
  | .denyLoad e digests => Sys2Proof.Machine.execDenyLoad e digests s
  | .cryptoOperationComplete => Sys2Proof.Machine.execCryptoOperationComplete s
  | .attest e challenge => Sys2Proof.Machine.execAttest e challenge s
  | .otpProgram e block payload w => Sys2Proof.Machine.execOtpProgram e block payload w s
  | .otpProgramDone readOk => Sys2Proof.Machine.execOtpProgramDone readOk s
  | .otpRetire => Sys2Proof.Machine.execOtpRetire s
  | .lifecycleTransition serial => Sys2Proof.Machine.execLifecycleTransition serial s
  | .ledgeSupplyLoss => Sys2Proof.Machine.execLedgeSupplyLoss s
  | .tsnFrameReceive p tick f => Sys2Proof.Machine.execTsnFrameReceive p tick f s
  | .tsnFrameTransmit p tick => Sys2Proof.Machine.execTsnFrameTransmit p tick s
  | .gateControlEntry p => Sys2Proof.Machine.execGateControlEntry p s
  | .fdbAgeOut vid mac => Sys2Proof.Machine.execFdbAgeOut vid mac s
  | .tsnLinkChange p up => Sys2Proof.Machine.execTsnLinkChange p up s
  | .asSyncReceive p m => Sys2Proof.Machine.execAsSyncReceive p m s
  | .asMessageTimer p sync => Sys2Proof.Machine.execAsMessageTimer p sync s
  | .icmpEcho v6 => Sys2Proof.Machine.execIcmpEcho v6 s
  | .t1sFrameReceive p f => Sys2Proof.Machine.execT1sFrameReceive p f s
  | .plcaBeacon p => Sys2Proof.Machine.execPlcaBeacon p s
  | .t1sNodeLost p j => Sys2Proof.Machine.execT1sNodeLost p j s
  | .canFrameReceive c f => Sys2Proof.Machine.execCanFrameReceive c f s
  | .canTransmit c queued acked tec => Sys2Proof.Machine.execCanTransmit c queued acked tec s
  | .canTxTimeout c => Sys2Proof.Machine.execCanTxTimeout c s
  | .canAckError c => Sys2Proof.Machine.execCanAckError c s
  | .canLoneProbe c acked tec => Sys2Proof.Machine.execCanLoneProbe c acked tec s
  | .canBusoffRecovery c => Sys2Proof.Machine.execCanBusoffRecovery c s
  | .busoffRestart c => Sys2Proof.Machine.execBusoffRestart c s
  | .rateDetectDwell c => Sys2Proof.Machine.execRateDetectDwell c s
  | .sentFrameReceive n f => Sys2Proof.Machine.execSentFrameReceive n f s
  | .sentTimeout n => Sys2Proof.Machine.execSentTimeout n s
  | .commandRequestReceive e op => Sys2Proof.Machine.execCommandRequestReceive e op s
  | .read e addr words => Sys2Proof.Machine.execRead e addr words s
  | .write e entries => Sys2Proof.Machine.execWrite e entries s
  | .registerWrite e txn w => Sys2Proof.Machine.execRegisterWrite e txn w s
  | .beginTxn e cove => Sys2Proof.Machine.execBeginTxn e cove s
  | .stage e txn entries => Sys2Proof.Machine.execStage e txn entries s
  | .commit e txn => Sys2Proof.Machine.execCommit e txn s
  | .rollback e txn => Sys2Proof.Machine.execRollback e txn s
  | .bufferRead e rid ofs len => Sys2Proof.Machine.execBufferRead e rid ofs len s
  | .subscribe e period ranges blocks => Sys2Proof.Machine.execSubscribe e period ranges blocks s
  | .issuerPurge e entry => Sys2Proof.Machine.execIssuerPurge e entry s
  | .issuerRevoke e txn entry => Sys2Proof.Machine.execIssuerRevoke e txn entry s
  | .transactionTimeout => Sys2Proof.Machine.execTransactionTimeout s
  | .prepareReceive fields => Sys2Proof.Machine.execPrepareReceive fields s
  | .readyReceive target serial error => Sys2Proof.Machine.execReadyReceive target serial error s
  | .commitAtReceive n => Sys2Proof.Machine.execCommitAtReceive n s
  | .commitAtAckReceive target => Sys2Proof.Machine.execCommitAtAckReceive target s
  | .coveCommitDeadline => Sys2Proof.Machine.execCoveCommitDeadline s
  | .commandConnectionClose conn => Sys2Proof.Machine.execCommandConnectionClose conn s
  | .updateOpen e a => Sys2Proof.Machine.execUpdateOpen e a s
  | .bankEraseDone => Sys2Proof.Machine.execBankEraseDone s
  | .updateChunk e tt ofs data f t => Sys2Proof.Machine.execUpdateChunk e tt ofs data f t s
  | .updateVerify e => Sys2Proof.Machine.execUpdateVerify e s
  | .verifyComplete => Sys2Proof.Machine.execVerifyComplete s
  | .updateActivate e => Sys2Proof.Machine.execUpdateActivate e s
  | .updateAbort e => Sys2Proof.Machine.execUpdateAbort e s
  | .activationBegin readOk => Sys2Proof.Machine.execActivationBegin readOk s
  | .actWaitExpiry => Sys2Proof.Machine.execActWaitExpiry s
  | .trialConfirm => Sys2Proof.Machine.execTrialConfirm s
  | .trialDeadline => Sys2Proof.Machine.execTrialDeadline s
  | .imageFrameReceive e op whole => Sys2Proof.Machine.execImageFrameReceive e op whole s
  | .mramParamSwitch => Sys2Proof.Machine.execMramParamSwitch s
  | .warningExit => Sys2Proof.Machine.execWarningExit s
  | .lowWaterBegin => Sys2Proof.Machine.execLowWaterBegin s
  | .lowWaterSave => Sys2Proof.Machine.execLowWaterSave s
  | .lowWaterExit => Sys2Proof.Machine.execLowWaterExit s
  | .hardShutdown => Sys2Proof.Machine.execHardShutdown s
  | .hardShutdownRelease => Sys2Proof.Machine.execHardShutdownRelease s
  | .supplyOutOfRange => Sys2Proof.Machine.execSupplyOutOfRange s
  | .holdupStoreTest => Sys2Proof.Machine.execHoldupStoreTest s
  | .bistRequest => Sys2Proof.Machine.execBistRequest s
  | .powerDieStart vls switchesOk => Sys2Proof.Machine.execPowerDieStart vls switchesOk s
  | .refclkReturn => Sys2Proof.Machine.execRefclkReturn s
  | .tamperInputInactive c level => Sys2Proof.Machine.execTamperInputInactive c level s
  | .chainLinkDown link => Sys2Proof.Machine.execChainLinkDown link s
  | .openLoadClear c n => Sys2Proof.Machine.execOpenLoadClear c n s
  | .driveSupplyRecover v => Sys2Proof.Machine.execDriveSupplyRecover v s
  | .lifecycleChangeDone => Sys2Proof.Machine.execLifecycleChangeDone s
  | .vledgeLow mv => Sys2Proof.Machine.execVledgeLow mv s

end Sys2Proof.Machine
end

