-- ==== Sys2Proof/WellFormed.lean ====
section
/-! DEFINITION. Well-formed commands: what the outside world can bring at all. A value that the device itself refuses is well
formed; what no pin, converter, frame or message can carry is not. -/
namespace Sys2Proof

/-- At most so many inputs of each kind, and converter codes of 16 bits. -/
def WaveIn.wf (q : WaveIn) : Bool :=
  decide (q.soutV.length ≤ 16 ∧ q.soutI.length ≤ 16 ∧ q.aux.length ≤ 32 ∧ q.mods.length ≤ 152) &&
    decide (q.riso.length ≤ 32 ∧ q.lsI.length ≤ 32 ∧ q.lsT.length ≤ 32 ∧ q.vls.length ≤ 2 ∧ q.temps.length ≤ 48) &&
    q.aux.all (fun v => decide (v < 65536))

/-- The data of a write, and of no other access, has the length of the access (R17). -/
def FabReq.wf (q : FabReq) : Bool :=
  match q.kind with
  | .write => decide (q.data.length = q.len)
  | .read => q.data.isEmpty
  | .exec => q.data.isEmpty

/-- Self-test results name a zone or a memory (R491); bad entries name a slot of the vault (R391). -/
def StartIn.wf (q : StartIn) : Bool := q.bist.all (fun x => decide (x.zone < 14)) && q.vaultBad.all (fun k => decide (k < 512))

/-- A path has at most 21 hops of 3 bits (R74). -/
def Routed.wf (m : Routed) : Bool := decide (m.kind < 256 ∧ m.travelled ≤ 21 ∧ m.msgId < 65536 ∧ m.lastFrag < 256)

/-- The seven AC sums of a METER record (Table 8.6). -/
def MeterRec.wf (q : MeterRec) : Bool := decide (q.ac.length = 7)

/-- Three phases (R208). -/
def PwmIn.wf (q : PwmIn) : Bool := decide (q.vbs.length = 3 ∧ q.tsw.length = 3)

/-- A VLAN tag holds a VID of 12 bits (R408). -/
def TsnFrame.wf (f : TsnFrame) : Bool :=
  match f.tag with
  | some (vid, _) => decide (vid < 4096)
  | none => true

/-- A field lies in a word. -/
def FieldInit.wf (q : FieldInit) : Bool := decide (q.lo < 32) && decide (q.value < 4294967296)

/-- The indices of a mirror name a cabinet, a connector, a loop, a cable, a link, a move slot. -/
def Mirror.wf (m : Mirror) : Bool :=
  m.changes.all FieldInit.wf && m.seqs.all (fun p => decide (p.1 < 64)) && m.sids.all (fun p => decide (p.1 < 32)) &&
    m.loops.all (fun q => decide (q.loop < 128)) && m.cables.all (fun q => decide (q.cable < 32)) &&
    m.children.all (fun q => decide (q.link < 8)) && m.moves.all (fun q => decide (q.slot < 8))

/-- A CURVE record counts its points in 16 bits, and its levels have 16 bits (Table 3.5). -/
def CurveRec.wf (q : CurveRec) : Bool := decide (q.points.length < 65536) && q.points.all (fun p => decide (p.1 < 65536))

/-- A sample of a bridge has at most three phases (R208). -/
def GdSample.wf (q : GdSample) : Bool := decide (q.shunt.length ≤ 3 ∧ q.vds.length ≤ 3 ∧ q.both.length ≤ 3 ∧ q.vbs.length ≤ 3)

/-- A sample of a protected output. -/
def ProtSample.wf : ProtSample → Bool
  | .gd _ q => q.wf
  | .ls _ _ => true

/-- A request of the chain has travelled at most 21 hops, under a MSG_ID of 16 bits (R74, R426). -/
def Env.wf (e : Env) : Bool := decide (e.hops ≤ 21 ∧ e.msgId < 65536)

/-- An ephemeral public key has 96 bytes (R384). -/
def KeyWrap.wf (w : KeyWrap) : Bool := decide (w.qe.length ≤ 96)

/-- A command that the outside world can bring. -/
def Instr.wf : Instr → Bool
  | .waveBoundary w => w.wf
  | .tideBoundary w => w.wf
  | .refclkStop => true
  | .slotRun _ _ => true
  | .fabricRequest q => q.wf
  | .stalledRequestIssue _ => true
  | .fabricResponse _ _ => true
  | .dmaStart _ _ _ => true
  | .dmaBeat _ _ => true
  | .dmaRestart _ _ => true
  | .statClear => true
  | .resetRelease q => q.wf
  | .resetNAssert => true
  | .ebbDuringStart => true
  | .startResume => true
  | .kernelFault _ _ => true
  | .devRestart => true
  | .defaultsAck => true
  | .enterRun q => q.wf
  | .beaconReceive _ _ => true
  | .joinReceive _ _ => true
  | .admitReceive _ => true
  | .refuseReceive _ => true
  | .orphanWaitExpiry => true
  | .upstreamLost => true
  | .coveFormed => true
  | .chainForward m => m.wf
  | .chainReply msgId hops _ => decide (hops ≤ 21 ∧ msgId < 65536)
  | .proxyReceive m inner => m.wf && inner.wf
  | .chainLinkUp _ => true
  | .delayReqReceive _ _ _ => true
  | .delayRespReceive _ _ _ _ _ => true
  | .eventFrameReceive e => decide (e.bits < 4294967296 ∧ e.addr < 4294967296)
  | .soloStartClaim => true
  | .curveReceive _ q => q.wf
  | .grantReceive _ _ => true
  | .childLost _ => true
  | .childReserveFallback _ => true
  | .orphanHoldExpiry => true
  | .limitInputAssert _ => true
  | .limitInputRelease _ => true
  | .limitWrite e _ _ => e.wf
  | .zeroWaitExpiry _ => true
  | .openWaitExpiry _ => true
  | .weldConfirmDone _ => true
  | .matchWaitExpiry _ => true
  | .closeWaitExpiry _ => true
  | .rampWavesElapsed _ => true
  | .soutGroupCut _ => true
  | .ctClr _ => true
  | .statusFrameReceive _ frame => decide (frame.length ≤ 1518)
  | .cabinetLost _ => true
  | .lostShareExpiry _ => true
  | .vehicleLinkUp _ => true
  | .vehicleLinkDown _ => true
  | .sdpRequest _ => true
  | .tlsClientHello _ _ => true
  | .supportedAppProtocolReq _ _ _ => true
  | .sessionSetupReq _ _ => true
  | .authorizationSetupReq _ _ => true
  | .authorizationReq _ _ _ => true
  | .authGrant _ => true
  | .authDeny _ => true
  | .authWaitExpiry _ => true
  | .serviceDiscoveryReq _ _ => true
  | .serviceSelectionReq _ _ _ _ => true
  | .chargeParameterDiscoveryReq _ _ _ => true
  | .scheduleExchangeReq _ _ => true
  | .lockConfirmed _ => true
  | .lockWaitExpiry _ => true
  | .cableCheckReq _ _ => true
  | .cableCheckPass _ => true
  | .cableWaitExpiry _ => true
  | .prechargeReq _ _ _ => true
  | .prechargeMatch _ => true
  | .prechargeWaitExpiry _ => true
  | .powerDeliveryReq _ _ _ => true
  | .chargeLoopReq _ _ _ => true
  | .pathHoldExpiry _ => true
  | .pauseMaxExpiry _ => true
  | .sessionStopReq _ _ _ => true
  | .weldingDetectionReq _ _ => true
  | .stoppingZero _ => true
  | .unlockVoltageSafe _ => true
  | .sessionRecordSigned => true
  | .unlockHeld _ => true
  | .v2gSequenceTimeout _ => true
  | .vehicleTcpClose _ => true
  | .proxDisconnect _ => true
  | .hostStop _ => true
  | .recAck e _ => e.wf
  | .recordRead e _ _ => e.wf
  | .loopHoldTrip _ => true
  | .supervisionTrip _ => true
  | .loopModeWrite _ => true
  | .injectionStart _ => true
  | .injectionStop _ => true
  | .injectionDone _ => true
  | .captureArm _ => true
  | .captureRelease _ => true
  | .captureFull _ => true
  | .bridgeLinkLoss => true
  | .pwmPeriod _ q => q.wf
  | .bootstrapPrechargeEnd _ vbs => decide (vbs.length = 3)
  | .refreshInsertion _ _ _ => true
  | .protectionFault p => p.wf
  | .thermalCondition p => p.wf
  | .thermalLatchClear p => p.wf
  | .crossConduction _ q => q.wf
  | .retryTimerExpiry _ _ => true
  | .tryResetExpiry _ _ => true
  | .gdClr _ => true
  | .lsClr _ => true
  | .lsSupplyLow _ _ => true
  | .lsSupplyRecover _ _ _ => true
  | .openLoadDetect _ _ _ => true
  | .powerDieReset => true
  | .lsOutputWrite e _ _ _ => e.wf
  | .modInputFault _ => true
  | .modInputRecover _ => true
  | .spliceSet _ => true
  | .spliceClear _ => true
  | .lineCycleEnd _ => true
  | .neutralSet _ => true
  | .neutralClear _ => true
  | .pulseStart _ => true
  | .pulseEnd _ => true
  | .mramWriteComplete _ => true
  | .ebbWarning _ => true
  | .ebbSnapshot => true
  | .ebbRelease => true
  | .meterReceive _ q => q.wf
  | .timeSet e _ => e.wf
  | .billingSteps _ _ => true
  | .tamperInputActive _ _ _ => true
  | .sealClr _ => true
  | .keypadKey _ _ _ => true
  | .keypadEntryTimeout _ => true
  | .keypadUnlock _ => true
  | .linkFrameReceive _ => true
  | .linkFrameLoss => true
  | .soutReadbackFault _ => true
  | .darkTest _ => true
  | .sinFilterChange _ => true
  | .dualDiscrepancy _ => true
  | .sf3FilterExpiry _ => true
  | .safetyPduReceive _ _ pdu => decide (pdu.length ≤ 4096)
  | .safeDataWatchdog _ => true
  | .safeAckRelease => true
  | .ackHeldTooLong => true
  | .safeConfirm => true
  | .healthReceive _ _ => true
  | .lighthouseDecision => true
  | .lightReceive _ _ => true
  | .lighthouseLost => true
  | .floodYield => true
  | .yieldNoticeReceive _ cause => decide (cause < 256)
  | .floodClaim => true
  | .floodInChange _ => true
  | .yieldMaxExpiry => true
  | .mirrorReceive _ m => m.wf
  | .resumeWaitExpiry _ => true
  | .handover => true
  | .takeback => true
  | .keyGenerate e _ => e.wf
  | .keyLoad e _ _ pub w => e.wf && w.wf && decide (pub.length ≤ 96)
  | .keyDerive e _ _ _ _ => e.wf
  | .keyInvalidate e _ => e.wf
  | .keyExportPublic e _ => e.wf
  | .handoverWrap e _ => e.wf
  | .denyLoad e digests => e.wf && digests.all (fun d => decide (d < 2 ^ 384))
  | .cryptoOperationComplete => true
  | .attest e challenge => e.wf && decide (challenge.length ≤ 16384)
  | .otpProgram e _ payload w => e.wf && w.wf && decide (payload.length ≤ 2560)
  | .otpProgramDone _ => true
  | .otpRetire => true
  | .lifecycleTransition _ => true
  | .ledgeSupplyLoss => true
  | .tsnFrameReceive _ _ f => f.wf
  | .tsnFrameTransmit _ _ => true
  | .gateControlEntry _ => true
  | .fdbAgeOut vid _ => decide (vid < 4096)
  | .tsnLinkChange _ _ => true
  | .asSyncReceive _ _ => true
  | .asMessageTimer _ _ => true
  | .icmpEcho _ => true
  | .t1sFrameReceive _ f => decide (f.node < 16)
  | .plcaBeacon _ => true
  | .t1sNodeLost _ _ => true
  | .canFrameReceive _ f => decide (f.data.length ≤ 64)
  | .canTransmit _ queued _ tec => queued.all (fun b => decide (b.data.length ≤ 64)) && decide (tec < 512)
  | .canTxTimeout _ => true
  | .canAckError _ => true
  | .canLoneProbe _ _ tec => decide (tec < 512)
  | .canBusoffRecovery _ => true
  | .busoffRestart _ => true
  | .rateDetectDwell _ => true
  | .sentFrameReceive _ _ => true
  | .sentTimeout _ => true
  | .commandRequestReceive e _ => e.wf
  | .read e _ _ => e.wf
  | .write e _ => e.wf
  | .registerWrite e _ _ => e.wf
  | .beginTxn e _ => e.wf
  | .stage e _ _ => e.wf
  | .commit e _ => e.wf
  | .rollback e _ => e.all Env.wf
  | .bufferRead e _ _ _ => e.wf
  | .subscribe e _ _ _ => e.wf
  | .issuerPurge e _ => e.wf
  | .issuerRevoke e _ _ => e.wf
  | .transactionTimeout => true
  | .prepareReceive fields => fields.all FieldInit.wf
  | .readyReceive _ _ error => decide (error < 65536)
  | .commitAtReceive _ => true
  | .commitAtAckReceive _ => true
  | .coveCommitDeadline => true
  | .commandConnectionClose _ => true
  | .updateOpen e _ => e.wf
  | .bankEraseDone => true
  | .updateChunk e _ _ data _ _ => e.wf && decide (data.length ≤ 65536)
  | .updateVerify e => e.wf
  | .verifyComplete => true
  | .updateActivate e => e.wf
  | .updateAbort e => e.wf
  | .activationBegin _ => true
  | .actWaitExpiry => true
  | .trialConfirm => true
  | .trialDeadline => true
  | .imageFrameReceive e _ _ => e.wf
  | .mramParamSwitch => true
  | .warningExit => true
  | .lowWaterBegin => true
  | .lowWaterSave => true
  | .lowWaterExit => true
  | .hardShutdown => true
  | .hardShutdownRelease => true
  | .supplyOutOfRange => true
  | .holdupStoreTest => true
  | .bistRequest => true
  | .powerDieStart _ _ => true
  | .refclkReturn => true
  | .tamperInputInactive _ _ => true
  | .chainLinkDown _ => true
  | .openLoadClear _ _ => true
  | .driveSupplyRecover _ => true
  | .lifecycleChangeDone => true
  | .vledgeLow _ => true

end Sys2Proof
end

