-- ==== Sys2Proof/Safety.lean ====
section
/-! DEFINITION. What a safe run is, in the terms claims use: the canonical form of the state, well-formed waiting commands, and
the channels that a latched cause cuts. -/
namespace Sys2Proof.Machine

/-- The state stands in canonical form: the keys of the listed registers rise strictly, and so do the addresses of the listed bytes of
the fabric memory, none of which is zero. -/
def State.canonical (s : State) : Bool := Tab.wf s.regs && Memory.wf s.mem

/-- Every waiting command is one the outside world can bring. -/
def State.queueWf (s : State) : Bool := s.pending.all Instr.wf

/-- What every step keeps. -/
def State.inv (s : State) : Bool := s.canonical && s.queueWf

/-- An outcome that is a next state of which a condition holds. -/
def Answers (o : Host.Outcome State Fault Refusal) (p : State → Prop) : Prop := ∃ t, o = .next t ∧ p t

/-- Every field off a list of keys reads as before. -/
def State.regsBut (s t : State) (l : List Nat) : Prop := ∀ f n i j, f.key n i j ∉ l → t.r f n i j = s.r f n i j

/-- Nothing but registers at the listed keys differs. -/
def State.onlyRegs (s t : State) (l : List Nat) : Prop := t = { s with regs := t.regs } ∧ s.regsBut t l

/-- A state with what events send taken from another: the messages of R453 and the frames queued on the chain links. -/
def State.sends (u t : State) : State :=
  { u with
    regs := t.regs
    command := { u.command with msgs := t.command.msgs, overflow := t.command.overflow }
    chain := { u.chain with queue := t.chain.queue, msgId := t.chain.msgId } }

/-- Nothing but registers at the listed keys differs, and what events send. -/
def State.onlyEvents (s t : State) (l : List Nat) : Prop := t = s.sends t ∧ s.regsBut t (Reg.CMD_EVENT_DROPS.key 0 0 0 :: l)

/-- The state with nothing but registers, events and one internal part changed: `u` has that part already. -/
def State.onlyEventsFrom (s u t : State) (l : List Nat) : Prop :=
  t = u.sends t ∧ s.regsBut t (Reg.CMD_EVENT_DROPS.key 0 0 0 :: l)

/-- A status frame of a cabinet (Table 4.4) with its check. -/
def statusFrame (cab seq iOut st flags mirrors vOut pAvail code : Nat) (pad : List Byte) : List Byte :=
  let body := leBytes 1 0x81 ++ leBytes 1 cab ++ leBytes 2 seq ++ leBytes 4 iOut ++ leBytes 2 st ++ leBytes 1 flags ++ leBytes 1 mirrors ++
    leBytes 4 vOut ++ leBytes 4 pAvail ++ leBytes 2 code ++ pad
  body ++ leBytes 4 (crc32c body).toNat

/-- The channels that the latched causes cut. -/
def State.lockedOut (s : State) : BitVec 16 := lockedMask s.safety.latched

/-- A safe state of the outputs: no channel is enabled that a latched cause cuts (R334, R352). -/
def State.outputsSafe (s : State) : Bool := decide (BitVec.ofNat 16 (s.r Reg.SAFE_ENABLED) &&& s.lockedOut = 0)

/-- A message of the vehicle that the device takes: the unit holds the dialogues, the TLS connection is up, the message decodes,
is short enough and does not say FAILED. -/
def State.v2gOpen (s : State) (n : Nat) (q : V2g) : Bool :=
  s.dialogues && (s.conn n).tls && q.decodes && !q.failed && decide (q.size ≤ 8192)

/-- What a message to a vehicle puts out: a port without an owner sends nothing (R46). -/
def State.v2gOut (s : State) (n : Nat) (msg : String) (vals : List Int) : List Out :=
  if s.isReleased (resId 0x0C n) then [] else [.v2g n msg vals]

/-- The same within the open V2G session, with its SessionID. -/
def State.v2gOn (s : State) (n : Nat) (q : V2g) : Bool :=
  s.v2gOpen n q && (s.conn n).v2g && decide (q.sid = some (s.conn n).sid)

/-- A request of a known issuer that passes every check of R443 and is neither held for strand mode nor for the ebb role. -/
def State.admits (s : State) (e : Env) (right i : Nat) : Prop :=
  s.alive = true ∧ s.ebbRole = false ∧ (s.dequeue e).gate e right = (.pass i, s.dequeue e)

/-- A request is answered once (R446, R447): by a reply to its TLS connection, or on the chain by a REPLY, and with an entry in its
issuer's window. -/
def State.replied (s t : State) (e : Env) (i : Nat) (a : Answer) : Prop :=
  (∀ c, e.conn = some c → t.out = s.out ++ [.reply c e.id s.serial a.result a.data a.apply false a.detail]) ∧
    (e.conn = none → s.phase ≠ .strand → e.hops = 0 → t.out = s.out ++ [.bytes "REPLY" (replyBytes e.id s.serial a false)]) ∧
    ∃ x ∈ t.window i, x.id = e.id ∧ x.result = a.result

/-- What a request leaves when it is answered, besides the operation's own effect `u`: its one reply, the window entry, the
counters. -/
def State.answered (s u t : State) (e : Env) (i : Nat) (a : Answer) : Prop :=
  s.replied t e i a ∧ t.mem = u.mem ∧ t.safety = u.safety ∧ t.session = u.session ∧
    t.vault = u.vault ∧ t.bill = u.bill ∧ t.drive = u.drive ∧ t.phase = u.phase ∧ t.command.ri = u.command.ri ∧
    t.command.staged = u.command.staged ∧ t.command.subs = u.command.subs ∧
    u.regsBut t [Reg.CMD_QUEUE.key 0 0 0, Reg.CMD_ACCEPTED.key 0 0 0, Reg.CMD_REFUSED.key 0 0 0, Reg.CMD_ISS_FLOOR_LO.key 0 i 0,
      Reg.CMD_ISS_FLOOR_HI.key 0 i 0, Reg.CMD_ISS_HELD.key 0 i 0, Reg.CMD_ISS_COUNT.key 0 i 0]

/-- What a reset of the logic die leaves (R52, Table 2.8, R262): the die in reset with its cause, every SOUT channel off, no key
material outside the vault store; the fabric memory and the session records stand, the open ones with the peak of their session. -/
def State.resetLeaves (s t : State) (cause : Nat) : Prop :=
  t.phase = .reset ∧ t.r Reg.DEV_RESET_CAUSE = cause ∧ t.r Reg.SAFE_ENABLED = 0 ∧ t.vault.mat = [] ∧ t.mem = s.mem ∧
    t.session.recs = s.peaksKept.session.recs ∧ t.pending = s.pending

/-- No write to MRAM is under way or due and no reset is ordered. -/
def State.quiet (s : State) : Prop :=
  s.start.ordered = none ∧ s.start.shutDue = false ∧ s.meter.writing = none ∧ s.meter.waiting = []

/-- A record write is under way or waits. -/
def State.asks (s : State) (r : StoreRec) : Prop := ∃ w, (s.meter.writing = some w ∨ w ∈ s.meter.waiting) ∧ w.what = r

/-- The registers that an event of tamper class `c` may write. -/
def tamperKeys (c : Nat) : List Nat :=
  [Reg.TAMP_ACTIVE.key c 0 0, Reg.TAMP_COUNT.key c 0 0, Reg.TAMP_FIRST_LO.key c 0 0, Reg.TAMP_FIRST_HI.key c 0 0,
    Reg.TAMP_LAST_LO.key c 0 0, Reg.TAMP_LAST_HI.key c 0 0, Reg.TAMP_SEALED.key c 0 0, Reg.TAMPX_SEALED_MASK.key 0 0 0,
    Reg.TAMPX_EVENT.key 0 0 0, Reg.PROF_IV_STATUS.key 0 0 0, Reg.CMD_EVENT_DROPS.key 0 0 0]

/-- One event of tamper class `c` took place between two states (R294 to R296): counted, with its time, reported, the seal of
response 1 set, its record asked for. -/
def State.tampered (s t : State) (c : Nat) : Prop :=
  t.r Reg.TAMP_ACTIVE c = 1 ∧ t.r Reg.TAMP_COUNT c = min 4294967295 (s.r Reg.TAMP_COUNT c + 1) ∧
    t.r64 Reg.TAMP_LAST_LO Reg.TAMP_LAST_HI c = s.rtc % 2 ^ 64 ∧
    t.r64 Reg.TAMP_FIRST_LO Reg.TAMP_FIRST_HI c =
      (if s.r Reg.TAMP_COUNT c = 0 then s.rtc % 2 ^ 64 else s.r64 Reg.TAMP_FIRST_LO Reg.TAMP_FIRST_HI c) ∧
    t.rbit Reg.TAMPX_EVENT c = true ∧
    (s.r Reg.TAMP_RESPONSE c = 1 → t.r Reg.TAMP_SEALED c = 1 ∧ t.rbit Reg.TAMPX_SEALED_MASK c = true ∧ t.rbit Reg.PROF_IV_STATUS 6 = true) ∧
    (s.r Reg.TAMP_RESPONSE c ≠ 1 → t.r Reg.TAMP_SEALED c = s.r Reg.TAMP_SEALED c) ∧ t.asks (.tamper c)

end Sys2Proof.Machine
end

