-- ==== Sys2Proof/Certificates/Slice0/Obligations.lean ====
section
/-! DEFINITION. The statements for the provers, by chapter of the spec. A docstring names the rules a statement rests on, and the
entries of the assumption log where it also rests on a choice of the model. -/

open Sys2Proof Sys2Proof.Machine

/-- O1 (tier 1). The command at the front of the queue takes effect with the queue's rest; an empty queue idles. The model's choices
in it: log 1. -/
def Obligations.StepTakesTheFront : Prop :=
  (∀ (c : Instr) (rest : List Instr) (s : State), s.pending = c :: rest → step s = exec c { s with pending := rest }) ∧
    ∀ s : State, s.pending = [] → step s = .next s

/-- O2 (tier 1). The state after reset meets what every step keeps, waits in reset and lists nothing: every register reads its
default. The model's choices in it: log 2, 10, 11. -/
def Obligations.ResetMeetsTheInvariant : Prop :=
  State.reset.inv = true ∧ State.reset.phase = .reset ∧ State.reset.pending = [] ∧
    ∀ f n i j, State.reset.r f n i j = f.default n

/-- O3 (tier 3). Every step keeps the canonical form of registers and memory and takes exactly the front of the queue, so that what
waits stays well formed. The model's choices in it: log 1. -/
def Obligations.EveryStepKeepsTheInvariant : Prop :=
  ∀ s t : State, s.inv = true → step s = .next t → t.inv = true ∧ t.pending = s.pending.tail

/-- O4 (tier 2). A field reads what was written into it, as far as it is wide, and no other field changes; a register file in
canonical form stays so. -/
def Obligations.RegisterReadAfterWrite : Prop :=
  ∀ (s : State) (f : Fld) (v n i j : Nat), f.w ≤ 32 →
    (s.w f v n i j).r f n i j = v % 2 ^ f.w ∧ s.onlyRegs (s.w f v n i j) [f.key n i j] ∧
      (s.canonical = true → (s.w f v n i j).canonical = true)

/-- O5 (tier 2). Bytes written to the fabric memory read back, every byte outside them is unchanged, and the memory stays in
canonical form. The model's choices in it: log 8. -/
def Obligations.MemoryReadAfterWrite : Prop :=
  ∀ (s : State) (a : Nat) (bs : List Byte),
    (s.mwrite a bs).mread a bs.length = bs ∧ (∀ x, x < a ∨ a + bs.length ≤ x → memRead (s.mwrite a bs).mem x = memRead s.mem x) ∧
      (s.canonical = true → (s.mwrite a bs).canonical = true)

/-- O6 (tier 2). While REFCLK stands still no boundary takes effect and no slot starts; its return lets them again. Within a tide a
boundary advances the wave index by one and leaves the tide number; at wave 399 the wave index wraps to 0 and the tide number
goes up by one. Shown where the timebase alone runs: strand mode and the retired start, with nothing committed and no reset
ordered. The model's choices in it: log 4, 96, 187. -/
def Obligations.TimebaseCounts : Prop :=
  (∀ s : State,
    exec .refclkStop s = .next { s with pins := { s.pins with refclk := false } } ∧
    exec .refclkReturn s = .next { s with pins := { s.pins with refclk := true } } ∧
    (s.pins.refclk = false → ∀ (q : WaveIn) (i : Nat) (work : SlotWork),
      exec (.waveBoundary q) s = .next s ∧ exec (.tideBoundary q) s = .next s ∧ exec (.slotRun i work) s = .next s)) ∧
  (∀ (s : State) (q : WaveIn), s.pins.refclk = true → (s.phase = .strand ∨ s.phase = .retired) → s.start.ordered = none →
    (s.wave < 399 → Answers (exec (.waveBoundary q) s) fun t =>
      t.wave = s.wave + 1 ∧ t.tide = s.tide ∧ t.phase = s.phase ∧ s.regsBut t [Reg.TIDE_WAVE.key 0 0 0]) ∧
    (s.wave ≠ 399 → exec (.tideBoundary q) s = .next s) ∧
    (s.wave = 399 → s.tide + 1 < 2 ^ 64 → s.r Reg.CMD_TXN_STATE = 0 → s.command.ri = [] → s.vault.denyDue = none →
      Answers (exec (.tideBoundary q) s) fun t => t.wave = 0 ∧ t.tide = s.tide + 1 ∧ t.phase = s.phase))

/-- O7 (tier 2). The order of a boundary in JOIN and RUN: what the wave closes with its fence first, the work of the ended tide
after it, then the numbers, then the boundary work of Table 10.1, and what begins with the new wave; an ordered reset that has
no record to wait for follows. The model's choices in it: log 4. -/
def Obligations.BoundaryOrder : Prop :=
  ∀ (s : State) (q : WaveIn), s.pins.refclk = true → s.alive = true →
    let u := ({ s with inp := q } : State).ebbWave
    let late := u.breaching.any (fun p => decide (u.slotClass p.2 = 0))
    (s.wave ≠ 399 → exec (.waveBoundary q) s = .next u.waveEnd.advance.waveBegin.resetDue) ∧
    (s.wave = 399 → exec (.tideBoundary q) s = .next ((((u.waveEnd.tideEnd late).advance.rtcRun q.rtcMs).tideWork s.tide).waveBegin).resetDue ∧
      exec (.waveBoundary q) s = exec (.tideBoundary q) s)

/-- O8 (tier 2). A request beyond its requester's credit limit is withheld and counted, and nothing else happens; a withheld request
is issued once the requester is below its limit. A write to memory that meets no fault stores its bytes and no others, a read of
memory takes the bytes that stand there; a transaction completes with the response of its tag. While the ebb warning is latched
no read of the tide store does. The model's choices in it: log 34, 35, 157. -/
def Obligations.FabricRequests : Prop :=
  (∀ (s : State) (q : FabReq), s.alive = true → s.atLimit q.req.val = true →
    Answers (exec (.fabricRequest q) s) fun t =>
      t.fabric = { s.fabric with stalled := s.fabric.stalled ++ [q] } ∧ t.mem = s.mem ∧
        t.r Reg.TIDE_STALL_COUNT = (s.r Reg.TIDE_STALL_COUNT + 1) % 2 ^ 32 ∧ s.regsBut t [Reg.TIDE_STALL_COUNT.key 0 0 0]) ∧
  (∀ (s : State) (q : FabReq), s.alive = true → s.atLimit q.req.val = false → s.fabric.stalled = [] → q.kind = .write →
    s.accessFault q = 0 → addrMemory q.addr.toNat = true →
    Answers (exec (.fabricRequest q) s) fun t =>
      t.fabric.flight = s.fabric.flight ++ [⟨q, 0, []⟩] ∧ t.mem = memWriteAll s.mem q.addr.toNat (q.data.take q.len) ∧
        (∀ x, x < q.addr.toNat ∨ q.addr.toNat + (q.data.take q.len).length ≤ x → memRead t.mem x = memRead s.mem x) ∧
        s.regsBut t [Reg.TIDE_INFLIGHT.key 0 0 0, Reg.TIDE_PEAK.key 0 0 0]) ∧
  (∀ (s : State) (q : FabReq), s.alive = true → s.atLimit q.req.val = false →
    (s.fabric.stalled.any fun x => decide (x.req = q.req)) = false → q.kind ≠ .write → s.accessFault q = 0 →
    addrMemory q.addr.toNat = true →
    Answers (exec (.fabricRequest q) s) fun t =>
      t.fabric.flight = s.fabric.flight ++ [⟨q, 0, s.mread q.addr.toNat q.len⟩] ∧ t.mem = s.mem ∧
        s.regsBut t [Reg.TIDE_INFLIGHT.key 0 0 0, Reg.TIDE_PEAK.key 0 0 0]) ∧
  (∀ (s : State) (q : FabReq) (rest : List FabReq), s.fabric.stalled = q :: rest → s.atLimit q.req.val = false →
    s.accessFault q = 0 → q.kind = .write → addrMemory q.addr.toNat = true →
    Answers (exec (.stalledRequestIssue q.req) s) fun t =>
      t.fabric.stalled = rest ∧ t.fabric.flight = s.fabric.flight ++ [⟨q, 0, []⟩] ∧
        t.mem = memWriteAll s.mem q.addr.toNat (q.data.take q.len)) ∧
  (∀ (s : State) (x : Txn) (rest : List Txn), s.fabric.flight = x :: rest → x.fault = 0 →
    (s.meter.ebb = none ∨ addrTideStore x.r.addr.toNat = false ∨ x.r.kind = .write) →
    Answers (exec (.fabricResponse x.r.tag .clean) s) fun t =>
      t.fabric.flight = rest ∧ t.out = s.out ++ [.fabric x.r.req.val x.r.tag.toNat 0 x.data] ∧ t.mem = s.mem ∧
        s.regsBut t [Reg.TIDE_INFLIGHT.key 0 0 0])

/-- O9 (tier 2). R29: a refused task access ends the slot, is counted, sets PART_EVENT bit 1 and has the class consequence: the safe
state with cause FENCE_S for class S, the breach flag of every enabled point of the partition for class M, nothing for the
others. It stores nothing and completes with its fault code. -/
def Obligations.RefusedAccess : Prop :=
  (∀ (s : State) (p i : Nat), p < 64 →
    let t := s.regionFault p (some i)
    (Tab.find t.fabric.slots i).any (fun x => x.done) = true ∧
    t.r Reg.TIDE_PART_FAULT 0 p = (s.r Reg.TIDE_PART_FAULT 0 p + 1) % 2 ^ Reg.TIDE_PART_FAULT.w ∧
    t.rbit Reg.TIDE_PART_EVENT 1 0 p = true ∧
    (s.r Reg.TIDE_PART_CLASS 0 p = 0 → lockedMask t.safety.latched = 0xFFFF ∧ (Tab.find t.safety.latched (causeKey 0x11 0)) = some 0xFFFF) ∧
    (s.r Reg.TIDE_PART_CLASS 0 p = 1 → ∀ m, m < 40 → s.r Reg.MPT_KIND m ≠ 0 → s.r Reg.MPT_PARTITION m = p → t.rbit Reg.MPT_IV_FLAGS 0 m = true) ∧
    (1 < s.r Reg.TIDE_PART_CLASS 0 p → t.safety = s.safety ∧ t.session = s.session)) ∧
  (∀ (s : State) (q : FabReq) (p : Fin 64) (i : Nat), s.alive = true → s.atLimit q.req.val = false →
    (s.fabric.stalled.any fun x => decide (x.req = q.req)) = false → (s.accessFault q = 1 ∨ s.accessFault q = 2) →
    q.part = some p → q.slot = some i →
    Answers (exec (.fabricRequest q) s) fun t =>
      (Tab.find t.fabric.slots i).any (fun x => x.done) = true ∧
      t.r Reg.TIDE_PART_FAULT 0 p.val = (s.r Reg.TIDE_PART_FAULT 0 p.val + 1) % 2 ^ Reg.TIDE_PART_FAULT.w ∧
      t.rbit Reg.TIDE_PART_EVENT 1 0 p.val = true ∧
      (s.r Reg.TIDE_PART_CLASS 0 p.val = 0 → lockedMask t.safety.latched = 0xFFFF ∧
        (Tab.find t.safety.latched (causeKey 0x11 0)) = some 0xFFFF) ∧
      (s.r Reg.TIDE_PART_CLASS 0 p.val = 1 → ∀ m, m < 40 → s.r Reg.MPT_KIND m ≠ 0 → s.r Reg.MPT_PARTITION m = p.val →
        t.rbit Reg.MPT_IV_FLAGS 0 m = true) ∧
      (1 < s.r Reg.TIDE_PART_CLASS 0 p.val → t.safety = s.safety ∧ t.session = s.session) ∧
      t.mem = s.mem ∧ t.fabric.flight = s.fabric.flight ++ [⟨q, s.accessFault q, []⟩])

/-- O10 (tier 2). Throttling sheds no slot of classes S, M and C, and under the ebb warning every slot of classes N and H (R39,
R484). A slot that is due starts when the earlier slots of its engine have started, keeps its end wave and ends them; no slot of
another engine changes, and on a task engine nothing else does. In a class H slot of the DMA engine the scrubber counts the
words it corrected and found uncorrectable (R22). STAT_CLEAR applied as 1 clears PEAK and STALL_COUNT and reads 0. The model's
choices in it: log 33, 159. -/
def Obligations.SlotsAndShedding : Prop :=
  (∀ (s : State) (e demand : Nat) (ebb : Bool),
    (∀ x ∈ (s.engineWave e demand ebb).2, 3 ≤ s.slotClass x.2) ∧
    (∀ x ∈ s.dueOn e, s.slotClass x.2 < 3 → x ∈ (s.engineWave e demand ebb).1) ∧
    (∀ x ∈ (s.engineWave e demand true).1, s.slotClass x.2 < 3)) ∧
  ((∀ (s : State) (i : Nat) (d : SlotDef) (x : SlotRun) (work : SlotWork), s.slotTable[i]? = some d →
    Tab.find s.fabric.slots i = some x → x.started = false → s.alive = true → s.pins.refclk = true →
    (∀ j, j < i → ∀ e, s.slotTable[j]? = some e → e.engine = d.engine → ∀ y, Tab.find s.fabric.slots j = some y → y.started = true) →
    Answers (exec (.slotRun i work) s) fun t =>
      Tab.find t.fabric.slots i = some { x with started := true, done := work.finish } ∧
      (∀ j, j < i → ∀ e, s.slotTable[j]? = some e → e.engine = d.engine → ∀ y, Tab.find s.fabric.slots j = some y →
        Tab.find t.fabric.slots j = some { y with done := true }) ∧
      (∀ j, ∀ e, s.slotTable[j]? = some e → e.engine ≠ d.engine → Tab.find t.fabric.slots j = Tab.find s.fabric.slots j) ∧
      (d.engine < 24 ∧ s.slotClass d ≠ 4 → t = { s with fabric := { s.fabric with slots := t.fabric.slots } }) ∧
      (64 ≤ d.engine ∧ s.slotClass d = 4 ∧ s.r Reg.TIDE_DMA_STATE 0 (d.engine - 64) ≠ 4 ∧ work.scrubEnd = false ∧ work.bist = none →
        t.r Reg.TIDE_SCRUB_CORR = (s.r Reg.TIDE_SCRUB_CORR + work.scrubCorr) % 2 ^ 32 ∧
          t.r Reg.TIDE_SCRUB_UNCORR = (s.r Reg.TIDE_SCRUB_UNCORR + work.scrubUncorr) % 2 ^ 32 ∧
          s.regsBut t [Reg.TIDE_SCRUB_CORR.key 0 0 0, Reg.TIDE_SCRUB_UNCORR.key 0 0 0])) ∧
  (∀ s : State, s.rb Reg.TIDE_STAT_CLEAR = true →
    Answers (exec .statClear s) fun t =>
      t.r Reg.TIDE_PEAK = 0 ∧ t.r Reg.TIDE_STALL_COUNT = 0 ∧ t.r Reg.TIDE_STAT_CLEAR = 0 ∧
        s.onlyRegs t [Reg.TIDE_PEAK.key 0 0 0, Reg.TIDE_STALL_COUNT.key 0 0 0, Reg.TIDE_STAT_CLEAR.key 0 0 0]))

/-- O11 (tier 2). DMA: the owner of a channel starts it on a sound descriptor, or restarts a faulted or paused one from DONE; a
partition that does not own it is refused with fault code 0x07 and nothing moves; in a slot of the channel a beat moves its
bytes and writes DONE back, and touches nothing outside them and the descriptor; the last beat of a descriptor ends it, with the
end event that its CTRL asks for, and goes on to its NEXT; a beat that meets a fault moves nothing and stops the chain. The
model's choices in it: log 35, 158. -/
def Obligations.DmaTransfers : Prop :=
  (∀ (s : State) (c p : Fin 64) (d : BitVec 32), s.alive = true → s.rb Reg.TIDE_DMA_OWNED 0 c.val = true →
    s.r Reg.TIDE_DMA_OWNER 0 c.val = p.val → s.descBad d.toNat = false →
    bit (s.mword (d.toNat + 16) 4) 0 = false ∨ s.mword (d.toNat + 12) 4 < s.mword (d.toNat + 8) 4 →
    Answers (exec (.dmaStart c d p) s) fun t =>
      t.r Reg.TIDE_DMA_STATE 0 c.val = 1 ∧ t.r Reg.TIDE_DMA_FAULT 0 c.val = 0 ∧ t.r Reg.TIDE_DMA_DESC 0 c.val = d.toNat ∧
      t.r Reg.TIDE_DMA_DONE 0 c.val = (if bit (s.mword (d.toNat + 16) 4) 0 then s.mword (d.toNat + 12) 4 else 0) ∧
      Tab.find t.fabric.dma c.val = some ⟨s.mword d.toNat 4, s.mword (d.toNat + 4) 4, s.mword (d.toNat + 8) 4⟩ ∧
      (∀ x, x < d.toNat + 12 ∨ d.toNat + 24 ≤ x → memRead t.mem x = memRead s.mem x) ∧
      s.regsBut t [Reg.TIDE_DMA_STATE.key 0 c.val 0, Reg.TIDE_DMA_FAULT.key 0 c.val 0, Reg.TIDE_DMA_DESC.key 0 c.val 0,
        Reg.TIDE_DMA_DONE.key 0 c.val 0]) ∧
  (∀ (s : State) (c p : Fin 64) (d : BitVec 32), s.alive = true →
    (s.rb Reg.TIDE_DMA_OWNED 0 c.val && decide (s.r Reg.TIDE_DMA_OWNER 0 c.val = p.val)) = false →
    (Answers (exec (.dmaStart c d p) s) fun t =>
      t.mem = s.mem ∧ t.out = s.out ++ [.fabric 30 c.val 7 []] ∧ s.regsBut t [Reg.TIDE_OWN_REFUSED.key 0 0 0]) ∧
    Answers (exec (.dmaRestart c p) s) fun t =>
      t.mem = s.mem ∧ t.out = s.out ++ [.fabric 30 c.val 7 []] ∧ s.regsBut t [Reg.TIDE_OWN_REFUSED.key 0 0 0]) ∧
  (∀ (s : State) (c p : Fin 64), s.alive = true → s.rb Reg.TIDE_DMA_OWNED 0 c.val = true →
    s.r Reg.TIDE_DMA_OWNER 0 c.val = p.val → (s.r Reg.TIDE_DMA_STATE 0 c.val = 3 ∨ s.r Reg.TIDE_DMA_STATE 0 c.val = 4) →
    let d := s.r Reg.TIDE_DMA_DESC 0 c.val
    s.descBad d = false → s.mword (d + 12) 4 < s.mword (d + 8) 4 →
    Answers (exec (.dmaRestart c p) s) fun t =>
      t.r Reg.TIDE_DMA_STATE 0 c.val = 1 ∧ t.r Reg.TIDE_DMA_FAULT 0 c.val = 0 ∧
        t.r Reg.TIDE_DMA_DONE 0 c.val = s.mword (d + 12) 4 ∧ t.r Reg.TIDE_DMA_DESC 0 c.val = d ∧
        Tab.find t.fabric.dma c.val = some ⟨s.mword d 4, s.mword (d + 4) 4, s.mword (d + 8) 4⟩ ∧
        (∀ x, x < d + 12 ∨ d + 24 ≤ x → memRead t.mem x = memRead s.mem x) ∧
        s.regsBut t [Reg.TIDE_DMA_STATE.key 0 c.val 0, Reg.TIDE_DMA_FAULT.key 0 c.val 0, Reg.TIDE_DMA_DONE.key 0 c.val 0]) ∧
  (∀ (s : State) (c : Fin 64), s.r Reg.TIDE_DMA_STATE 0 c.val = 1 → s.dmaSlot c.val = true →
    let d := s.r Reg.TIDE_DMA_DESC 0 c.val
    let done := s.r Reg.TIDE_DMA_DONE 0 c.val
    let y := Tab.getD s.fabric.dma c.val {}
    let src := y.src + done
    let dst := y.dst + done
    let len := beatLength dst (y.length - done)
    s.beatFault (s.r Reg.TIDE_DMA_OWNER 0 c.val) src dst len ⟨.clean, .clean⟩ = none → addrMemory dst = true →
    y.length < 2 ^ 32 → done < y.length → (dst + len ≤ d + 12 ∨ d + 28 ≤ dst) →
    (done + len < y.length ∨ s.mword (d + 24) 4 = 0 →
      Answers (exec (.dmaBeat c ⟨.clean, .clean⟩) s) fun t =>
        t.r Reg.TIDE_DMA_DONE 0 c.val = done + len ∧ t.mread dst len = s.fabricRead src len ∧
        (done + len < y.length → t.r Reg.TIDE_DMA_STATE 0 c.val = 1 ∧ t.out = s.out) ∧
        (done + len = y.length → t.r Reg.TIDE_DMA_STATE 0 c.val = 2 ∧
          t.out = s.out ++ (if bit (s.mword (d + 16) 4) 1 then [.dmaEnd (s.r Reg.TIDE_DMA_OWNER 0 c.val) c.val] else [])) ∧
        (∀ x, (x < dst ∨ dst + len ≤ x) → (x < d + 12 ∨ d + 24 ≤ x) → memRead t.mem x = memRead s.mem x) ∧
        s.regsBut t [Reg.TIDE_DMA_STATE.key 0 c.val 0, Reg.TIDE_DMA_FAULT.key 0 c.val 0, Reg.TIDE_DMA_DONE.key 0 c.val 0]) ∧
    (done + len = y.length → s.mword (d + 24) 4 ≠ 0 →
      exec (.dmaBeat c ⟨.clean, .clean⟩) s =
        .next (((s.mwrite dst (s.fabricRead src len)).dmaDone c.val (done + len)).dmaBegin c.val (s.mword (d + 24) 4) false))) ∧
  (∀ (s : State) (c : Fin 64) (f a : Nat), s.r Reg.TIDE_DMA_STATE 0 c.val = 1 → s.dmaSlot c.val = true →
    let d := s.r Reg.TIDE_DMA_DESC 0 c.val
    let y := Tab.getD s.fabric.dma c.val {}
    let dst := y.dst + s.r Reg.TIDE_DMA_DONE 0 c.val
    s.beatFault (s.r Reg.TIDE_DMA_OWNER 0 c.val) (y.src + s.r Reg.TIDE_DMA_DONE 0 c.val) dst
      (beatLength dst (y.length - s.r Reg.TIDE_DMA_DONE 0 c.val)) ⟨.clean, .clean⟩ = some (f, a) →
    Answers (exec (.dmaBeat c ⟨.clean, .clean⟩) s) fun t =>
      t.r Reg.TIDE_DMA_STATE 0 c.val = 3 ∧ t.r Reg.TIDE_DMA_FAULT 0 c.val = f ∧ t.mword (d + 28) 4 = a % 2 ^ 32 ∧
        t.r Reg.TIDE_DMA_DONE 0 c.val = s.r Reg.TIDE_DMA_DONE 0 c.val ∧
        (∀ x, x < d + 12 ∨ d + 32 ≤ x → memRead t.mem x = memRead s.mem x))

/-- O12 (tier 2). The link frame of a wave enables exactly the channels that may be enabled: none outside RUN and SERVICE, none
without commissioning, none that a latched cause cuts (R334). In the first frame of wave 0 a wrong or missing heartbeat answer,
once answers are due, latches cause 0x20 on every channel (R335, R336). The model's choices in it: log 98. -/
def Obligations.LinkFrameEnables : Prop :=
  (∀ s : State, s.alive = true → (s.wave ≠ 0 ∨ s.safety.gotFrame = true) →
    Answers (exec (.linkFrameReceive true) s) fun t =>
      (∀ c, c < 16 → (t.rbit Reg.SAFE_ENABLED c = true ↔ s.soutAllowed c = true)) ∧ t.outputsSafe = true ∧
        t.safety.latched = s.safety.latched ∧ t.mem = s.mem ∧ t.session = s.session) ∧
  (∀ s : State, s.alive = true → s.wave = 0 → s.safety.gotFrame = false → s.safety.hbDue = true →
    s.safety.answer ≠ some (crcKoopman (leBytes 4 (s.r Reg.SAFE_HB_CHALLENGE) ++ leBytes 4 Config.sigExp.toNat)) →
    Answers (exec (.linkFrameReceive true) s) fun t =>
      Tab.find t.safety.latched (causeKey 0x20 0) = some 0xFFFF ∧ t.r Reg.SAFE_ENABLED = 0 ∧ t.rb Reg.PAIR_FLOOD_OUT = false)

/-- O13 (tier 2). Without a frame for four waves, or with a die that does not run, the cut island cuts every channel at once,
latches cause 0x12 and withdraws FLOOD_OUT (R335, R361). A readback that stays high on a channel that is off is the internal
fault 0x22; one that falls on a channel that is on latches cause 8 on that channel and switches it off. A dark test counts the
channels that passed (R338). The model's choices in it: log 97, 99. -/
def Obligations.IslandAndReadbacks : Prop :=
  (∀ s : State, (s.alive = false ∨ 4 ≤ s.safety.noFrame) → Answers (exec .linkFrameLoss s) fun t =>
    t.r Reg.SAFE_ENABLED = 0 ∧ t.outputsSafe = true ∧ t.rb Reg.PAIR_FLOOD_OUT = false ∧
      Tab.find t.safety.latched (causeKey 0x12 0) = some 0xFFFF ∧ t.mem = s.mem ∧ t.session = s.session) ∧
  ((∀ (s : State) (c : Fin 16), 2 ≤ Tab.getD s.safety.low c.val 0 → Tab.getD s.safety.stuck c.val 0 < 2 →
    Answers (exec (.soutReadbackFault c) s) fun t =>
      (Tab.getD t.safety.latched (causeKey 8 c.val) 0).getLsbD c.val = true ∧ t.rbit Reg.SAFE_ENABLED c.val = false) ∧
  (∀ (s : State) (c : Fin 16), 2 ≤ Tab.getD s.safety.stuck c.val 0 → Tab.getD s.safety.low c.val 0 < 2 →
    Answers (exec (.soutReadbackFault c) s) fun t =>
      Tab.find t.safety.latched (causeKey 0x22 0) = some 0xFFFF ∧ t.rbit Reg.SAFE_INT_FAULT 2 = true) ∧
  (∀ s : State, s.alive = true → s.r Reg.SAFE_OUT_TEST ≤ s.safety.sinceDark →
    Answers (exec (.darkTest 0) s) fun t =>
      t.safety = { s.safety with sinceDark := 0 } ∧
        (∀ c, c < 16 → t.r Reg.SAFE_CH_TESTS 0 c =
          if s.rbit Reg.SAFE_ENABLED c then (s.r Reg.SAFE_CH_TESTS 0 c + 1) % 2 ^ Reg.SAFE_CH_TESTS.w else s.r Reg.SAFE_CH_TESTS 0 c) ∧
        s.regsBut t ((List.range 16).map (fun c => Reg.SAFE_CH_TESTS.key 0 c 0))))

/-- O14 (tier 2). The filtered state of an input follows after SIN_FILT equal samples and is what every demand reads; a discrepancy
longer than FN_DISC is an input fault of its entry (R339, R341). An SF3 entry beyond its threshold for FN_FILT tides trips its
channels with its type as cause (R342, R345). The model's choices in it: log 97. -/
def Obligations.InputsAndFunctions : Prop :=
  (∀ (s : State) (i : Fin 32), s.sinDue i.val = true → (∀ f, f < 64 → s.r Reg.SAFE_FN_TYPE 0 f = 0) →
    Answers (exec (.sinFilterChange i) s) fun t =>
      t.rb Reg.SAFE_SIN_STATE 0 i.val = (Tab.getD s.safety.sins i.val {}).val ∧ s.onlyRegs t [Reg.SAFE_SIN_STATE.key 0 i.val 0]) ∧
  (∀ (s : State) (f : Fin 64), s.alive = true → s.r Reg.SAFE_FN_TYPE 0 f.val = 1 → s.fnCondition f.val = false →
    s.r Reg.SAFE_FN_STATE 0 f.val = 0 → s.r Reg.SAFE_FN_CUT 0 f.val = 0xFFFF →
    s.r Reg.SAFE_FN_DISC 0 f.val * 40 < (Tab.getD s.safety.fns f.val {}).differ →
    Answers (exec (.dualDiscrepancy f) s) fun t =>
      (Tab.getD t.safety.fns f.val {}).inputFault = true ∧ t.r Reg.SAFE_FN_STATE 0 f.val = 1 ∧ t.r Reg.SAFE_FN_CAUSE 0 f.val = 7 ∧
        Tab.find t.safety.latched (causeKey 7 f.val) = some 0xFFFF) ∧
  (∀ (s : State) (f : Fin 64), s.alive = true → s.r Reg.SAFE_FN_TYPE 0 f.val = 3 →
    s.r Reg.SAFE_FN_FILT 0 f.val ≤ (Tab.getD s.safety.fns f.val {}).beyond → s.fnFault f.val = false →
    s.r Reg.SAFE_FN_STATE 0 f.val = 0 → s.r Reg.SAFE_FN_CUT 0 f.val = 0xFFFF →
    Answers (exec (.sf3FilterExpiry f) s) fun t =>
      t.r Reg.SAFE_FN_STATE 0 f.val = 1 ∧ t.r Reg.SAFE_FN_CAUSE 0 f.val = 3 ∧
        Tab.find t.safety.latched (causeKey 3 f.val) = some 0xFFFF)

/-- O15 (tier 2). The second copy of a safety PDU, equal to the one that waits from the other network group since at most 2 waves,
delivers its DATA; one that differs from it is counted in CN_DIFF and delivers nothing; a copy that is no good PDU is counted in
CN_BAD and changes nothing else (R349). The model's choices in it: log 101. -/
def Obligations.SafetyPdus : Prop :=
  (∀ (s : State) (k : Fin 32) (x : CnI) (b : Bool) (seq tide wave data at_ : Nat), s.alive = true →
    s.r Reg.SAFE_CN_ROLE 0 k.val = 1 → (∀ f, f < 64 → s.r Reg.SAFE_FN_TYPE 0 f = 0) → seq < 2 ^ 32 → tide < 2 ^ 32 → wave < 2 ^ 16 →
    data < 2 ^ 64 → s.now ≤ at_ + 2 → Tab.find s.safety.cns k.val = some x →
    x.delivered = false ∨ (s.r Reg.SAFE_CN_SEQ 0 k.val < seq ∧ seq < s.r Reg.SAFE_CN_SEQ 0 k.val + 2 ^ 31 ∧ x.lastTide < tide ∧
      tide < x.lastTide + 2 ^ 31) →
    let head := pduHead k.val (s.r Reg.SAFE_CN_SOURCE 0 k.val) seq tide wave data
    let pdu := head ++ leBytes 4 (pduCrc (s.cnKey k.val) head).toNat
    (x.copy = some ⟨seq, tide, wave, BitVec.ofNat 64 data, ofLe head, !b, at_⟩ →
      Answers (exec (.safetyPduReceive k b pdu) s) fun t =>
        t.r64 Reg.SAFE_CN_DATA_LO Reg.SAFE_CN_DATA_HI 0 k.val = data ∧ t.r Reg.SAFE_CN_SEQ 0 k.val = seq ∧
          t.r Reg.SAFE_CN_AGE 0 k.val = 0 ∧ t.r Reg.SAFE_CN_STATE 0 k.val = 1 ∧ t.safety.latched = s.safety.latched ∧
          s.regsBut t [Reg.SAFE_CN_DATA_LO.key 0 k.val 0, Reg.SAFE_CN_DATA_HI.key 0 k.val 0, Reg.SAFE_CN_SEQ.key 0 k.val 0,
            Reg.SAFE_CN_AGE.key 0 k.val 0, Reg.SAFE_CN_STATE.key 0 k.val 0, Reg.SAFE_CN_DELIVERED.key 0 k.val 0]) ∧
    (∀ c : CopyI, x.copy = some c → c.seq = seq → c.groupB = (!b) → c.at_ = at_ → c.rest ≠ ofLe head →
      Answers (exec (.safetyPduReceive k b pdu) s) fun t =>
        (Tab.getD t.safety.cns k.val {}).copy = none ∧
          t.r Reg.SAFE_CN_DIFF 0 k.val = (s.r Reg.SAFE_CN_DIFF 0 k.val + 1) % 2 ^ Reg.SAFE_CN_DIFF.w ∧
          t.safety.latched = s.safety.latched ∧
          s.regsBut t [Reg.SAFE_CN_DIFF.key 0 k.val 0, Reg.SAFE_EVENT.key 0 0 0, Reg.CMD_EVENT_DROPS.key 0 0 0])) ∧
  (∀ (s : State) (k : Fin 32) (b : Bool) (pdu : List Byte), s.alive = true → s.r Reg.SAFE_CN_ROLE 0 k.val = 1 →
    (∀ f, f < 64 → s.r Reg.SAFE_FN_TYPE 0 f = 0) → pdu.length ≠ 32 →
    Answers (exec (.safetyPduReceive k b pdu) s) fun t =>
      t.r Reg.SAFE_CN_BAD 0 k.val = (s.r Reg.SAFE_CN_BAD 0 k.val + 1) % 2 ^ Reg.SAFE_CN_BAD.w ∧ s.onlyRegs t [Reg.SAFE_CN_BAD.key 0 k.val 0])

/-- O16 (tier 2). A safe-data connection without delivery for CN_WDOG × 40 waves latches cause 6 on every channel of CN_CUT (R350).
A press of SAFE_ACK of more than 300 tides does nothing and reads ACK_STATE 2 (R353); a good press leaves no channel that a
cause still cuts enabled. CONFIRM equal to CHECK_VALUE commissions and lifts INHIBIT bit 2 (R355). The model's choices in it:
log 100. -/
def Obligations.WatchdogAckConfirm : Prop :=
  (∀ (s : State) (k : Fin 32), s.running = true → s.r Reg.SAFE_CN_ROLE 0 k.val = 1 → s.r Reg.SAFE_CN_STATE 0 k.val = 1 →
    s.r Reg.SAFE_CN_WDOG 0 k.val * 40 ≤ s.r Reg.SAFE_CN_AGE 0 k.val → s.r Reg.SAFE_CN_CUT 0 k.val = 0xFFFF →
    Answers (exec (.safeDataWatchdog k) s) fun t =>
      t.r Reg.SAFE_CN_STATE 0 k.val = 2 ∧ Tab.find t.safety.latched (causeKey 6 k.val) = some 0xFFFF ∧
        t.r Reg.SAFE_LOCKED = 0xFFFF) ∧
  (∀ s : State, 120000 < s.safety.ackHeld → Answers (exec .ackHeldTooLong s) fun t =>
      t.r Reg.SAFE_ACK_STATE = 2 ∧ s.onlyRegs t [Reg.SAFE_ACK_STATE.key 0 0 0]) ∧
  (∀ s : State, s.running = true → s.rb Reg.SAFE_SIN_STATE 0 (s.r Reg.SAFE_ACK_SIN) = false → 20000 ≤ s.safety.ackHeld →
    s.safety.ackHeld ≤ 120000 → s.r Reg.SAFE_ACK_STATE = 1 → (∀ f, f < 64 → s.r Reg.SAFE_FN_TYPE 0 f = 0) →
    s.safety.latched = [(causeKey 0x10 0, 0xFFFF)] → s.safety.latchWave ≠ some s.now →
    Answers (exec .safeAckRelease s) fun t => t.safety.latched = [] ∧ t.r Reg.SAFE_LOCKED = 0 ∧ t.safety.ackHeld = 0) ∧
  (∀ s : State, s.running = true → s.safety.confirmDue = true →
    s.r Reg.SAFE_CONFIRM = s.r Reg.SAFE_CHECK_VALUE →
    Answers (exec .safeConfirm s) fun t =>
      t.rb Reg.SAFE_COMMISSIONED = true ∧ t.rbit Reg.DEV_INHIBIT 2 = false ∧ t.rbit Reg.SAFE_EVENT 7 = true ∧
        t.safety.confirmed = some (BitVec.ofNat 32 (s.r Reg.SAFE_CONFIRM)) ∧ t.safety.latched = s.safety.latched)

/-- O17 (tier 2). RESET_N, a supply out of range, a hard thermal shutdown and a kernel fault reset the die with the causes of Table
2.1; a kernel fault whose shutdown record is complete leaves it in its slot of the pool (R262). The release of the thermal
shutdown lets the die start again. The model's choices in it: log 9, 43, 50, 185. -/
def Obligations.ResetCauses : Prop :=
  (∀ s : State, s.phase ≠ .reset → s.meter.writing = none →
    Answers (exec .resetNAssert s) (fun t => s.resetLeaves t 2) ∧
    Answers (exec .supplyOutOfRange s) (fun t => s.resetLeaves t 1 ∧ t.pins.refclk = false) ∧
    Answers (exec .hardShutdown s) (fun t => s.resetLeaves t 6 ∧ t.pins.hotHold = true) ∧
    (s.alive = true → ∀ frame : Bool, Answers (exec (.kernelFault false frame) s) fun t => s.resetLeaves t 5)) ∧
  (∀ (s : State) (no : Nat) (rec_ : List Byte), s.alive = true → s.legalStore = true → s.meter.writing = none →
    s.shutdownBytes false = some (no, rec_) →
    Answers (exec (.kernelFault true false) s) fun t =>
      t.phase = .reset ∧ t.r Reg.DEV_RESET_CAUSE = 5 ∧ t.r Reg.SAFE_ENABLED = 0 ∧
        t.mem = memWriteAll s.mem (poolSlot s.shutdownSlot) rec_) ∧
  ∀ s : State, exec .hardShutdownRelease s = .next { s with pins := { s.pins with hotHold := false } }

/-- O18 (tier 2). The release of reset samples the straps and reports the cause; a BLANK die enters strand mode; with EBB_N asserted
the start is held, and it goes on from step 2 when EBB_N has been high for 10 ms (R49 to R52, R58, R472). A reset that still
holds is not released. The model's choices in it: log 2, 37, 41, 51, 184. -/
def Obligations.ReleaseAndHold : Prop :=
  (∀ (s : State) (q : StartIn), s.phase = .reset → q.ready = true → s.pins.hotHold = false → s.start.bist = 0 →
    s.r Reg.OTP_LC_FUSES = 0 →
    Answers (exec (.resetRelease q) s) fun t =>
      t.phase = (if s.pins.ebb then .held else .strand) ∧ t.pins.refclk = true ∧
        t.r Reg.DEV_STRAPS = q.chainRoot.toNat + 2 * q.homeSel.toNat + 4 * q.strandN.toNat ∧
        t.r Reg.DEV_LIFECYCLE = 0 ∧ (s.pins.ebb = false → t.r Reg.DEV_START_MODE = 1)) ∧
  (∀ (s : State) (q : StartIn), s.pins.hotHold = true ∨ q.ready = false → exec (.resetRelease q) s = .next s) ∧
  (∀ s : State, s.phase = .join → s.meter.writing = none → Answers (exec .ebbDuringStart s) fun t =>
      t.phase = .held ∧ t.pins.ebb = true ∧ t.r Reg.DEV_STRAPS = s.r Reg.DEV_STRAPS % 2 ^ Reg.DEV_STRAPS.w ∧ t.r Reg.SAFE_ENABLED = 0 ∧ t.mem = s.mem) ∧
  (∀ (s : State) (q : StartIn), s.phase = .held → s.start.last = some q → s.r Reg.DEV_LIFECYCLE = 0 →
    Answers (exec .startResume s) fun t =>
      t.phase = .strand ∧ t.pins.ebb = false ∧ t.r Reg.DEV_START_MODE = 1 ∧ t.r Reg.UPD_STRAND_CAUSE = 0 ∧
        t.r Reg.DEV_STRAPS = s.r Reg.DEV_STRAPS)

/-- O19 (tier 2). The applied values that restart the die: DEV.RESTART and a self-test request with cause 0x03, the second leaving
its zones to ROM; an acknowledgement of the defaults lifts INHIBIT bit 1 and starts the write of a settings generation one after
the last (R83, R492, R60). The restarts are shown outside SERVICE, where no shutdown record is due; in SERVICE with the firmware
running the record is due first, and the outputs are cut meanwhile (R262, R335). The model's choices in it: log 9, 16, 50. -/
def Obligations.OrderedRestarts : Prop :=
  (∀ s : State, s.phase ≠ .reset → s.quiet → s.r Reg.DEV_LIFECYCLE ≠ 3 → s.r Reg.DEV_RESTART = 0xA5 →
    Answers (exec .devRestart s) fun t => s.resetLeaves t 3) ∧
  (∀ s : State, s.phase ≠ .reset → s.quiet → s.r Reg.DEV_LIFECYCLE ≠ 3 → s.r Reg.BIST_REQ ≠ 0 →
    Answers (exec .bistRequest s) fun t => s.resetLeaves t 3 ∧ t.start.bist = s.r Reg.BIST_REQ) ∧
  (∀ s : State, s.alive = true → s.start.ordered = none → s.r Reg.DEV_LIFECYCLE = 3 →
    (s.r Reg.DEV_RESTART = 0xA5 → Answers (exec .devRestart s) fun t =>
      t.start.ordered = some 3 ∧ t.start.shutDue = true ∧ t.r Reg.SAFE_ENABLED = 0 ∧ t.phase = s.phase) ∧
    (s.r Reg.BIST_REQ ≠ 0 → Answers (exec .bistRequest s) fun t =>
      t.start.ordered = some 3 ∧ t.start.shutDue = true ∧ t.start.bist = s.r Reg.BIST_REQ ∧ t.r Reg.SAFE_ENABLED = 0 ∧ t.phase = s.phase)) ∧
  (∀ s : State, s.quiet → s.r Reg.DEV_DEFAULTS_ACK = 1 → s.rbit Reg.DEV_INHIBIT 1 = true →
    Answers (exec .defaultsAck s) fun t =>
      t.r Reg.DEV_DEFAULTS_ACK = 0 ∧ t.rbit Reg.DEV_INHIBIT 1 = false ∧ t.mem = s.mem ∧
        (∃ slot g, t.meter.writing = some ⟨.other, .settings slot g, s.now⟩ ∧ g.seq = s.r Reg.DEV_SETTINGS_GEN + 1 ∧
          g.regs = s.start.settings) ∧
        s.regsBut t [Reg.DEV_DEFAULTS_ACK.key 0 0 0, Reg.DEV_INHIBIT.key 0 0 0])

/-- O20 (tier 2). Record writes to MRAM run one at a time: when one completes, what it stores stands (the bytes at their address; a
settings generation in its slot, with its number in SETTINGS_GEN) and the next waiting write of the lowest rank starts; a failed
write touches no byte outside its record (R328, R468). The model's choices in it: log 95. -/
def Obligations.RecordWritesOneByOne : Prop :=
  (∀ (s : State) (kind : WriteKind) (addr asked : Nat) (bytes : List Byte), s.start.ordered = none →
    s.meter.writing = some ⟨kind, .bytes addr bytes, asked⟩ →
    (Answers (exec (.mramWriteComplete true) s) fun t =>
      t.mem = memWriteAll s.mem addr bytes ∧ t.meter.writing = nextWrite s.meter.waiting ∧
        (∀ y ∈ s.meter.waiting, ∀ z, t.meter.writing = some z → z.kind.rank ≤ y.kind.rank) ∧
        (∀ a, a < addr ∨ addr + bytes.length ≤ a → memRead t.mem a = memRead s.mem a)) ∧
    Answers (exec (.mramWriteComplete false) s) fun t =>
      t.meter.writing = nextWrite s.meter.waiting ∧ (∀ a, a < addr ∨ addr + bytes.length ≤ a → memRead t.mem a = memRead s.mem a)) ∧
  (∀ (s : State) (kind : WriteKind) (asked : Nat) (slot : Bool) (g : SettingsGen), s.start.ordered = none →
    s.meter.writing = some ⟨kind, .settings slot g, asked⟩ →
    Answers (exec (.mramWriteComplete true) s) fun t =>
      (if slot then t.start.gen1 else t.start.gen0) = some g ∧ (if slot then t.start.gen0 = s.start.gen0 else t.start.gen1 = s.start.gen1) ∧
        t.r Reg.DEV_SETTINGS_GEN = g.seq % 2 ^ Reg.DEV_SETTINGS_GEN.w ∧ t.mem = s.mem ∧
        t.meter.writing = nextWrite s.meter.waiting ∧ s.regsBut t [Reg.DEV_SETTINGS_GEN.key 0 0 0]) ∧
  ∀ (s : State) (ok : Bool), s.start.ordered = none → s.meter.writing = none → exec (.mramWriteComplete ok) s = .next s

/-- O21 (tier 2). A commit of LC_TARGET out of MANUFACTURE blows fuse 1 and restarts the die; the fuse outlives the reset. One into
SERVICE blows fuse 2 and leaves the pool blank. The end of a retirement blows fuse 3, and no area of the vault store is left;
the end of the way out of BLANK blows fuse 0 (R403, Table 13.8). A target that Table 13.8 does not allow changes nothing but the
field. The model's choices in it: log 44. -/
def Obligations.LifeCycle : Prop :=
  (∀ (s : State) (n : BitVec 128), s.phase ≠ .reset → s.quiet → s.r Reg.DEV_LIFECYCLE = 1 → s.r Reg.OTP_LC_TARGET = 2 →
    s.lcAllowed 2 = true →
    Answers (exec (.lifecycleTransition n) s) fun t => s.resetLeaves t 3 ∧ t.rbit Reg.OTP_LC_FUSES 1 = true) ∧
  (∀ (s : State) (n : BitVec 128), s.phase ≠ .reset → s.quiet → s.r Reg.DEV_LIFECYCLE = 2 → s.r Reg.OTP_LC_TARGET = 3 →
    s.lcAllowed 3 = true →
    Answers (exec (.lifecycleTransition n) s) fun t =>
      t.phase = .reset ∧ t.r Reg.DEV_RESET_CAUSE = 3 ∧ t.rbit Reg.OTP_LC_FUSES 2 = true ∧
        (∀ a, poolSlot 0 ≤ a → a < poolSlot 18 → memRead t.mem a = 0) ∧
        (∀ a, a < poolSlot 0 ∨ poolSlot 18 ≤ a → memRead t.mem a = memRead s.mem a)) ∧
  (∀ (s : State) (n : BitVec 128), s.r Reg.OTP_LC_TARGET ≠ 0 → s.lcAllowed (s.r Reg.OTP_LC_TARGET) = false →
    Answers (exec (.lifecycleTransition n) s) fun t =>
      t.r Reg.OTP_LC_TARGET = 0 ∧ s.onlyRegs t [Reg.OTP_LC_TARGET.key 0 0 0]) ∧
  (∀ s : State, s.alive = true → s.quiet → s.r Reg.DEV_LIFECYCLE = 2 → s.otp.change = some (4, 0) →
    Answers (exec .lifecycleChangeDone s) fun t =>
      t.phase = .reset ∧ t.r Reg.DEV_RESET_CAUSE = 3 ∧ t.rbit Reg.OTP_LC_FUSES 3 = true ∧ t.vault.area0 = {} ∧ t.vault.area1 = {}) ∧
  (∀ (s : State) (serial : Nat), s.phase ≠ .reset → s.otp.change = some (1, serial) →
    Answers (exec .lifecycleChangeDone s) fun t =>
      t.phase = .reset ∧ t.r Reg.DEV_RESET_CAUSE = 3 ∧ t.rbit Reg.OTP_LC_FUSES 0 = true)

/-- O22 (tier 1). A device enters RUN at the boundary that its start has made due and at no other, and never while EBB_N is
asserted; what it does there is done in the order of R82: the power die's state is adopted before anything is driven. The
model's choices in it: log 41. -/
def Obligations.EnterRun : Prop :=
  (∀ (s : State) (q : WaveIn), s.runDue = false ∨ s.pins.ebb = true → exec (.enterRun q) s = .next s) ∧
  (∀ (s : State) (q : WaveIn), s.runDue = true → s.pins.ebb = false →
    let n := s.runTideNumber
    let u := (((({ s with phase := .run, inp := q } : State).w64 Reg.TIDE_NUMBER_LO Reg.TIDE_NUMBER_HI n).w Reg.TIDE_WAVE 0).startTimes.runRole).modChain
      (fun c => { c with lastAt := c.lastAt.map (fun p => (p.1, n - (s.tide - p.2))) })
    let v := (((u.driveRun.matrixRun).safetyRun).meterRun q.asMs).sessRun s.ebbForRecords
    let x := v.over (v.session.unsigned.filter (fun no => (Tab.find v.vault.signed no).isNone)) (fun no s =>
      (s.modSession (fun x => { x with unsigned := x.unsigned.erase no })).recSign no)
    let y := (x.denyRun ((x.start.last.map (·.denyOk)).getD true)).loopsRun.coolRun.tlsKeyRun
    let z := (match y.chain.cand with
      | some l => y.joinSend l
      | none => y).beaconSend.chainDrain
    exec (.enterRun q) s = .next (if z.dialogues then z.allocate.matrixPlan State.lowWaterPlan else z))

/-- O23 (tier 2). R71. A root, or an admitted device, that receives a beacon with a different root identity sets CHAIN.EVENT bit 2
and ignores the beacon: nothing else changes but what the event sends. -/
def Obligations.ForeignRootIsIgnored : Prop :=
  ∀ (s : State) (l : Fin 8) (b : Beacon), s.alive = true → s.declaredLink l.val = true → (s.chainState = 2 ∨ s.chainState = 3) →
    b.root.toNat ≠ s.rootId →
    Answers (exec (.beaconReceive l b) s) fun t => t.rbit Reg.CHAIN_EVENT 2 = true ∧ s.onlyEvents t [Reg.CHAIN_EVENT.key 0 0 0]

/-- O24 (tier 2). Beacons and losses: a beacon of the upstream link gives depth and position, and a boundary further than 40 ticks
away steps the phase, a nearer one sets the trim within 200 ppm (R65, R430); a root that hears its own root identity on a link
that is no child link keeps it as a standby link (R68); a listening device takes the link of an acceptable beacon as its
candidate and aligns its boundaries to it (R65); the third missed beacon makes the device an orphan at the next boundary, or the
lowest standby link of the same position takes over (R70). The model's choices in it: log 46, 47, 165. -/
def Obligations.BeaconsAndUpstream : Prop :=
  (∀ (s : State) (l : Fin 8) (b : Beacon), s.alive = true → s.declaredLink l.val = true → s.chainState = 2 →
    b.root.toNat = s.rootId → s.r Reg.CHAIN_UPSTREAM = l.val →
    Answers (exec (.beaconReceive l b) s) fun t =>
      t.r Reg.CHAIN_DEPTH = min 65535 (b.depth.toNat + 1) ∧ t.upPosition = b.position.toNat ∧
        (40 < b.skew.natAbs → t.chain.phase = s.chain.phase + b.skew ∧ t.chain.trim = s.chain.trim) ∧
        (b.skew.natAbs ≤ 40 → t.chain.phase = s.chain.phase ∧ t.chain.trim.natAbs ≤ 200) ∧
        Tab.find t.chain.last l.val = some b ∧ Tab.find t.chain.miss l.val = some 0 ∧
        s.regsBut t (Reg.CHAIN_DEPTH.key 0 0 0 :: (List.range 4).flatMap (fun k =>
          [Reg.CHAIN_POSITION_ID.key 0 k 0, Reg.CHAIN_PEER_ID.key 0 l.val k]))) ∧
  (∀ (s : State) (l : Fin 8) (b : Beacon), s.alive = true → s.declaredLink l.val = true → s.chainState = 3 →
    b.root.toNat = s.rootId → s.rbit Reg.CHAIN_CHILD_MASK l.val = false → s.rbit Reg.CHAIN_REFUSED_MASK l.val = false →
    Answers (exec (.beaconReceive l b) s) fun t =>
      t.rbit Reg.CHAIN_STANDBY_MASK l.val = true ∧ t.r Reg.CHAIN_LINK_STATE 0 l.val = 4 ∧ t.chainState = 3 ∧
        s.regsBut t (Reg.CHAIN_STANDBY_MASK.key 0 0 0 :: Reg.CHAIN_LINK_STATE.key 0 l.val 0 ::
          (List.range 4).map (fun k => Reg.CHAIN_PEER_ID.key 0 l.val k))) ∧
  (∀ (s : State) (l : Fin 8) (b : Beacon), s.alive = true → s.chainState = 0 → s.acceptable l.val = true → s.chain.cand = none →
    Answers (exec (.beaconReceive l b) s) fun t =>
      t.chain.cand = some l.val ∧ t.chain.waited = 0 ∧ t.wave = 0 ∧ t.chain.phase = s.chain.phase + b.skew ∧
        (s.phase = .join → t.start.runNext = true) ∧ (s.running = true → s.chain.joinOut = false → t.chain.joinDue = true) ∧
        s.regsBut t (Reg.TIDE_WAVE.key 0 0 0 :: (List.range 4).map (fun k => Reg.CHAIN_PEER_ID.key 0 l.val k))) ∧
  (∀ s : State, s.running = true → s.chainState = 2 → 3 ≤ Tab.getD s.chain.miss (s.r Reg.CHAIN_UPSTREAM) 0 →
    s.chain.lostUp = false → (∀ j, j < 8 → j ≠ s.r Reg.CHAIN_UPSTREAM → Tab.find s.chain.last j = none) →
    Answers (exec .upstreamLost s) fun t =>
      t.chain.orphanDue = true ∧ t.rbit Reg.CHAIN_EVENT 0 = true ∧ t.chainState = 2 ∧
        s.onlyEventsFrom { s with chain := { s.chain with orphanDue := true, lostUp := true } } t [Reg.CHAIN_EVENT.key 0 0 0]) ∧
  (∀ (s : State) (l : Fin 8) (b : Beacon), s.running = true → s.chainState = 2 →
    3 ≤ Tab.getD s.chain.miss (s.r Reg.CHAIN_UPSTREAM) 0 → s.chain.lostUp = false → l.val ≠ s.r Reg.CHAIN_UPSTREAM →
    s.acceptable l.val = true → s.rbit Reg.CHAIN_CHILD_MASK l.val = false → Tab.find s.chain.last l.val = some b →
    b.position.toNat = s.upPosition → s.chain.missAt ≤ Tab.getD s.chain.lastAt l.val 0 →
    (∀ j, j < l.val → j ≠ s.r Reg.CHAIN_UPSTREAM → Tab.find s.chain.last j = none) →
    Answers (exec .upstreamLost s) fun t =>
      t.r Reg.CHAIN_UPSTREAM = l.val ∧ t.r Reg.CHAIN_LINK_STATE 0 l.val = 2 ∧ t.rbit Reg.CHAIN_STANDBY_MASK l.val = false ∧
        t.chainState = 2 ∧ t.chain = { s.chain with queue := t.chain.queue, msgId := t.chain.msgId })

/-- O25 (tier 2). Joining (R66, R67, R69, R77): the parent admits a declared child whose signature holds, and refuses any other with
0x0302 and no other effect; an admission gives the upstream link and INHIBIT bit 3 then stands for a zero budget alone; a
refusal marks the link and listens again, an orphan stays one; a device that hears nothing becomes an orphan; the cove is formed
when none is missing. The model's choices in it: log 46, 48, 141. -/
def Obligations.Joining : Prop :=
  (∀ (s : State) (l : Fin 8) (j : Join), s.running = true → s.ebbRole = false → s.declaredLink l.val = true →
    (s.decl.children.any (fun c => decide (c.serial = j.serial.toNat ∧ c.keyDigest = j.keyDigest)) && j.sigOk) = true →
    Answers (exec (.joinReceive l j) s) fun t =>
      t.rbit Reg.CHAIN_CHILD_MASK l.val = true ∧ t.rbit Reg.CHAIN_STANDBY_MASK l.val = false ∧ t.r Reg.CHAIN_LINK_STATE 0 l.val = 3 ∧
        Tab.find t.chain.childId l.val = some j.serial.toNat ∧ t.chain.queue = (s.chainSend l.val 0x05 0 0 []).chain.queue ∧ t.out = s.out ∧
        (s.childState l.val = 0 → t.childState l.val = 1) ∧ (s.childState l.val ≠ 0 → t.childState l.val = s.childState l.val)) ∧
  (∀ (s : State) (l : Fin 8) (j : Join), s.running = true → s.ebbRole = false → s.declaredLink l.val = true →
    (s.decl.children.any (fun c => decide (c.serial = j.serial.toNat ∧ c.keyDigest = j.keyDigest)) && j.sigOk) = false →
    exec (.joinReceive l j) s = .next (s.chainSend l.val 0x06 0 0 (leBytes 2 0x0302))) ∧
  (∀ (s : State) (l : Fin 8), s.running = true → s.chain.joinOut = true → s.chain.cand = some l.val →
    Answers (exec (.admitReceive l) s) fun t =>
      t.chainState = 2 ∧ t.r Reg.CHAIN_UPSTREAM = l.val ∧ t.r Reg.CHAIN_LINK_STATE 0 l.val = 2 ∧ t.rbit Reg.DEV_INHIBIT 3 = decide (s.r Reg.ALLOC_BUDGET = 0) ∧
        t.chain.joinOut = false ∧ t.chain.cand = none ∧ t.chain.admitted = true ∧ t.ri Reg.ALLOC_GRANT_IN = 0) ∧
  (∀ (s : State) (l : Fin 8), s.running = true → s.chain.joinOut = true → s.chain.cand = some l.val →
    Answers (exec (.refuseReceive l) s) fun t =>
      t.rbit Reg.CHAIN_REFUSED_MASK l.val = true ∧ t.r Reg.CHAIN_LINK_STATE 0 l.val = 5 ∧
        t.rbit Reg.CHAIN_EVENT 3 = true ∧ t.chain.joinOut = false ∧ t.chain.cand = none ∧ (s.chainState = 4 → t.chainState = 4) ∧
        (s.chainState ≠ 4 → t.chainState = 0 ∧ t.rbit Reg.DEV_INHIBIT 3 = true)) ∧
  (∀ s : State, s.running = true → s.chainState = 0 → s.r Reg.CHAIN_ORPHAN_WAIT ≤ s.chain.waited →
    exec .orphanWaitExpiry s = .next { s with chain := { s.chain with orphanDue := true } }) ∧
  (∀ s : State, s.phase = .join → s.chainState = 0 → s.r Reg.CHAIN_ORPHAN_WAIT ≤ s.chain.waited →
    Answers (exec .orphanWaitExpiry s) fun t =>
      t.chainState = 4 ∧ t.r Reg.CHAIN_UPSTREAM = 0xF ∧ t.r Reg.CHAIN_DEPTH = 0 ∧ t.rbit Reg.DEV_INHIBIT 3 = decide (s.r Reg.ALLOC_BUDGET = 0) ∧ t.start.runNext = true) ∧
  (∀ s : State, s.running = true → s.decl.children ≠ [] → s.chain.formed = false →
    (s.missingChildren = 0 ∨ s.r Reg.CHAIN_JOIN_WAIT ≤ s.start.runTides) →
    Answers (exec .coveFormed s) fun t =>
      t.r Reg.CHAIN_MISSING = s.missingChildren % 2 ^ 16 ∧ t = { s with regs := t.regs, chain := { s.chain with formed := true } } ∧
        s.regsBut t [Reg.CHAIN_MISSING.key 0 0 0])

/-- O26 (tier 2). Routing (R74 to R76, R426): a downward message takes the link its path names, with one hop fewer and the path
shifted by it; without a child on that link its sender gets 0x0301 and nothing is forwarded; with no hop left it is delivered
here; a reply loses one hop at each device, and the last one goes to the proxy's sender or to the connection whose request was
relayed. The model's choices in it: log 25, 179. -/
def Obligations.ChainRouting : Prop :=
  (∀ (s : State) (m : Routed), s.running = true → msgWhole m = true → m.addr.ctrl.toNat ≠ 0 → m.addr.ctrl.toNat ≤ 21 →
    s.rbit Reg.CHAIN_CHILD_MASK (m.addr.path.toNat % 8) = true →
    exec (.chainForward m) s = .next (s.chainMessage (m.addr.path.toNat % 8) m.kind (m.addr.ctrl.toNat - 1) (m.addr.path.toNat / 8)
      m.msgId (msgPayload m))) ∧
  (∀ (s : State) (m : Routed), s.running = true → msgWhole m = true → m.addr.ctrl.toNat ≠ 0 → m.addr.ctrl.toNat ≤ 21 →
    s.rbit Reg.CHAIN_CHILD_MASK (m.addr.path.toNat % 8) = false → 0 < m.travelled →
    exec (.chainForward m) s = .next (s.chainMessage (s.r Reg.CHAIN_UPSTREAM) 0x31 (ctrlUp + m.travelled) 0 m.msgId (leBytes 2 0x0301))) ∧
  (∀ (s : State) (m : Routed), s.running = true → msgWhole m = true → m.addr.ctrl.toNat = 0 →
    exec (.chainForward m) s = .next (s.emit (.bytes "DELIVER" (msgPayload m)))) ∧
  (∀ (s : State) (m : Routed), msgWhole m = false → exec (.chainForward m) s = .next s) ∧
  (∀ (s : State) (id hops : Nat) (p : List Byte), s.running = true → 1 < hops →
    exec (.chainReply id hops p) s = .next (s.chainMessage (s.r Reg.CHAIN_UPSTREAM) 0x31 (ctrlUp + (hops - 1)) 0 id p)) ∧
  (∀ (s : State) (id h : Nat) (p : List Byte), s.running = true → Tab.find s.chain.proxies id = some h → 0 < h →
    exec (.chainReply id 1 p) s = .next (({ s with chain := { s.chain with proxies := Tab.del s.chain.proxies id } } : State).chainMessage
      (s.r Reg.CHAIN_UPSTREAM) 0x31 (ctrlUp + h) 0 id p)) ∧
  (∀ (s : State) (id k : Nat) (p : List Byte), s.running = true → Tab.find s.chain.proxies id = none → Tab.find s.chain.relays id = some k →
    exec (.chainReply id 1 p) s = .next (({ s with chain := { s.chain with relays := Tab.del s.chain.relays id } } : State).emit
      (.link "TLS" k (p.map (·.toNat))))) ∧
  (∀ (s : State) (m inner : Routed), s.running = true → msgWhole m = true → m.addr.ctrl.toNat = 0 →
    inner.addr.ctrl.toNat ≠ 0 → inner.addr.ctrl.toNat ≤ 21 → s.rbit Reg.CHAIN_CHILD_MASK (inner.addr.path.toNat % 8) = true →
    exec (.proxyReceive m inner) s =
      .next (({ s with chain := { s.chain with proxies := Tab.put s.chain.proxies m.msgId m.travelled } } : State).chainMessage
        (inner.addr.path.toNat % 8) inner.kind (inner.addr.ctrl.toNat - 1) (inner.addr.path.toNat / 8) m.msgId (msgPayload inner)))

/-- O27 (tier 2). Chain links (R425, R430, R453): a link comes up in the state of its role, and goes down; the far end of a delay
exchange answers with its two times; the delay shown is the mean of the exchanges in ticks, and a link beyond 2,500 ticks is
held down; an event of a member goes to the subscriptions here, else upward; of the frames that wait for a link the next is one
of the lowest priority number (R428). The model's choices in it: log 47, 48, 161. -/
def Obligations.ChainLinks : Prop :=
  (∀ (s : State) (l : Fin 8), s.alive = true → s.r Reg.CHAIN_LINK_STATE 0 l.val = 0 → s.chain.heldDown.contains l.val = false →
    Answers (exec (.chainLinkUp l) s) fun t =>
      t.r Reg.CHAIN_LINK_STATE 0 l.val = s.linkRole l.val ∧ s.onlyRegs t [Reg.CHAIN_LINK_STATE.key 0 l.val 0]) ∧
  (∀ (s : State) (l : Fin 8), s.r Reg.CHAIN_LINK_STATE 0 l.val ≠ 0 →
    Answers (exec (.chainLinkDown l) s) fun t =>
      t.r Reg.CHAIN_LINK_STATE 0 l.val = 0 ∧ t.rbit Reg.CHAIN_STANDBY_MASK l.val = false ∧
        s.onlyRegs t [Reg.CHAIN_LINK_STATE.key 0 l.val 0, Reg.CHAIN_STANDBY_MASK.key 0 0 0]) ∧
  (∀ (s : State) (l : Fin 8) (t2 t3 : Nat), s.alive = true → s.r Reg.CHAIN_LINK_STATE 0 l.val ≠ 0 →
    exec (.delayReqReceive l t2 t3) s = .next (s.chainSend l.val 0x03 0 0 (leBytes 8 t2 ++ leBytes 8 t3))) ∧
  (∀ (s : State) (l : Fin 8) (t1 t2 t3 t4 : Nat), s.alive = true →
    (s.r Reg.CHAIN_LINK_STATE 0 l.val = 2 ∨ s.r Reg.CHAIN_LINK_STATE 0 l.val = 4) →
    let ds := ((((t4 : Int) - t1) - ((t3 : Int) - t2)) :: Tab.getD s.chain.delays l.val []).take 8
    let ticks := (max 0 (delayTicks ds)).toNat
    Answers (exec (.delayRespReceive l t1 t2 t3 t4) s) fun t =>
      Tab.find t.chain.delays l.val = some ds ∧ t.r Reg.CHAIN_DELAY 0 l.val = min 65535 ticks ∧
        (ticks ≤ 2500 → t.r Reg.CHAIN_LINK_STATE 0 l.val = s.r Reg.CHAIN_LINK_STATE 0 l.val) ∧
        (2500 < ticks → t.r Reg.CHAIN_LINK_STATE 0 l.val = 0 ∧ t.chain.heldDown.contains l.val = true) ∧
        s.regsBut t [Reg.CHAIN_DELAY.key 0 l.val 0, Reg.CHAIN_LINK_STATE.key 0 l.val 0, Reg.CHAIN_STANDBY_MASK.key 0 0 0]) ∧
  (∀ (s : State) (e : EventMsg), s.running = true → s.command.subs = [] → s.chainState = 2 →
    exec (.eventFrameReceive e) s = .next (s.chainSend (s.r Reg.CHAIN_UPSTREAM) 0x33 ctrlUp 0 (eventBytes e.tide e.addr e.bits))) ∧
  (∀ (s : State) (e : EventMsg) (b : Sub), s.running = true → s.command.subs = [b] →
    b.blocks.getLsbD (e.addr / 0x1000000) = true → s.command.msgs.length < 1024 →
    Answers (exec (.eventFrameReceive e) s) fun t =>
      t.command.msgs = s.command.msgs ++ [{ conn := b.conn, words := [e.tide, e.addr, e.bits] }] ∧ t.regs = s.regs ∧ t.out = s.out) ∧
  (∀ (q : List ChainTx) (x : ChainTx), nextTx q = some x → x ∈ q ∧ ∀ y ∈ q, chainPriority x.type ≤ chainPriority y.type)

/-- O28 (tier 2). R92, R93: for a sum of curves that never falls, the 16 steps of the bisection give the greatest level at which the
sum stays within the budget, and 0 where no level does. -/
def Obligations.TideMarkIsGreatest : Prop :=
  ∀ (sum : Nat → Int) (budget : Int), (∀ x y, x ≤ y → y ≤ 65535 → sum x ≤ sum y) →
    let m := tideMark sum budget 16 0
    m ≤ 65535 ∧ (sum 0 ≤ budget → sum m ≤ budget) ∧ (∀ x, x ≤ 65535 → m < x → budget < sum x)

/-- O29 (tier 2). A child (R104, R107): a valid curve waits for the next boundary and changes no register; one of a child position
of a pair that arrives on the other link of the pair takes the entry there (R110); an invalid one is an event; three tides
without one make the child lost with its last grant reserved; after HOLD_TIDES + 3 the reservation falls to the orphan budget it
declared. A grant of the upstream link waits for the next boundary, where it is GRANT_IN, and clears GRANT_AGE (R106). The limit
inputs follow after 10 tides (R97), and an orphan's hold ends after HOLD_TIDES (R106). The model's choices in it: log 53, 54,
141, 167. -/
def Obligations.ChildrenAndGrants : Prop :=
  (∀ (s : State) (l : Fin 8) (q : CurveRec), s.running = true → s.childState l.val ≠ 0 → s.pairEntry l.val = none → curveRecValid q = true →
    Answers (exec (.curveReceive l q) s) fun t =>
      (t.child l.val).fresh = some q ∧ t = { s with alloc := t.alloc } ∧ ∀ j, j ≠ l.val → t.child j = s.child j) ∧
  (∀ (s : State) (l : Fin 8) (j : Nat) (q : CurveRec), s.running = true → s.pairEntry l.val = some j → curveRecValid q = true →
    Answers (exec (.curveReceive l q) s) fun t =>
      t.child l.val = { s.child j with fresh := some q } ∧ t.childState l.val = s.childState j ∧ t.childState j = 0 ∧
        t.r Reg.ALLOC_CHILD_MISS 0 l.val = s.r Reg.ALLOC_CHILD_MISS 0 j ∧ t.r Reg.ALLOC_CHILD_GRANT 0 l.val = s.r Reg.ALLOC_CHILD_GRANT 0 j ∧
        t.r Reg.ALLOC_CHILD_RESERVE 0 l.val = s.r Reg.ALLOC_CHILD_RESERVE 0 j ∧ t.r Reg.ALLOC_CHILD_RESERVE 0 j = 0 ∧
        t.mem = s.mem ∧ t.chain = s.chain) ∧
  (∀ (s : State) (l : Fin 8) (q : CurveRec), s.running = true → (s.childState l.val ≠ 0 ∨ s.pairEntry l.val ≠ none) → curveRecValid q = false →
    Answers (exec (.curveReceive l q) s) fun t => t.rbit Reg.ALLOC_EVENT 5 = true ∧ s.onlyEvents t [Reg.ALLOC_EVENT.key 0 0 0]) ∧
  (∀ (s : State) (l : Fin 8) (g : GrantRec), s.running = true → (s.chainState = 2 ∨ s.chainState = 4) →
    s.r Reg.CHAIN_UPSTREAM = l.val →
    Answers (exec (.grantReceive l g) s) fun t =>
      t.alloc = { s.alloc with fresh := some g.budget } ∧ t.r Reg.ALLOC_GRANT_AGE = 0 ∧ t.mem = s.mem ∧
        s.regsBut t [Reg.ALLOC_GRANT_AGE.key 0 0 0]) ∧
  (∀ (s : State) (g : Int), s.alloc.fresh = some g →
    s.grantTide.r Reg.ALLOC_GRANT_IN = unsignedOf 32 g ∧ s.grantTide.alloc = { s.alloc with grant := some g, fresh := none } ∧
      s.regsBut s.grantTide [Reg.ALLOC_GRANT_IN.key 0 0 0]) ∧
  (∀ (s : State) (l : Fin 8), s.childState l.val = 2 → 3 ≤ s.r Reg.ALLOC_CHILD_MISS 0 l.val →
    Answers (exec (.childLost l) s) fun t =>
      t.childState l.val = 3 ∧ t.r Reg.ALLOC_CHILD_RESERVE 0 l.val = unsignedOf 32 (s.child l.val).lastGrant ∧
        t.rbit Reg.ALLOC_EVENT 4 = true ∧ t.rbit Reg.CHAIN_EVENT 1 = true ∧
        s.onlyEvents t [Reg.ALLOC_CHILD_STATE.key 0 l.val 0, Reg.ALLOC_CHILD_RESERVE.key 0 l.val 0, Reg.ALLOC_EVENT.key 0 0 0,
          Reg.CHAIN_EVENT.key 0 0 0]) ∧
  (∀ (s : State) (l : Fin 8), s.childState l.val = 3 → s.r Reg.ALLOC_CHILD_HOLD 0 l.val + 3 ≤ (s.child l.val).sinceGrant →
    Answers (exec (.childReserveFallback l) s) fun t =>
      t.childState l.val = 4 ∧
        t.r Reg.ALLOC_CHILD_RESERVE 0 l.val = unsignedOf 32 (min (max (s.child l.val).lastGrant 0) (s.r Reg.ALLOC_CHILD_ORPHAN 0 l.val)) ∧
        s.onlyRegs t [Reg.ALLOC_CHILD_STATE.key 0 l.val 0, Reg.ALLOC_CHILD_RESERVE.key 0 l.val 0]) ∧
  (∀ s : State, s.r Reg.ALLOC_MODE = 3 → s.r Reg.ALLOC_HOLD_TIDES ≤ s.r Reg.ALLOC_GRANT_AGE →
    Answers (exec .orphanHoldExpiry s) fun t => t.r Reg.ALLOC_MODE = 4 ∧ s.onlyRegs t [Reg.ALLOC_MODE.key 0 0 0]) ∧
  (∀ (s : State) (k : Fin 4), s.rb Reg.ALLOC_LIN_EN 0 k.val = true → 10 ≤ Tab.getD s.alloc.onSide k.val 0 →
    Answers (exec (.limitInputAssert k) s) fun t =>
      t.rbit Reg.ALLOC_LIN_STATE k.val = true ∧ (∀ j, j < 4 → j ≠ k.val → t.rbit Reg.ALLOC_LIN_STATE j = s.rbit Reg.ALLOC_LIN_STATE j) ∧
        s.onlyRegs t [Reg.ALLOC_LIN_STATE.key 0 0 0]) ∧
  (∀ (s : State) (k : Fin 4), 10 ≤ Tab.getD s.alloc.offSide k.val 0 →
    Answers (exec (.limitInputRelease k) s) fun t =>
      t.rbit Reg.ALLOC_LIN_STATE k.val = false ∧ (∀ j, j < 4 → j ≠ k.val → t.rbit Reg.ALLOC_LIN_STATE j = s.rbit Reg.ALLOC_LIN_STATE j) ∧
        s.onlyRegs t [Reg.ALLOC_LIN_STATE.key 0 0 0])

/-- O30 (tier 2). The guard (R122): a select is turned on only where no other contactor of one of its guard sets counts as possibly
closed; a blocked select stays off, is counted and sets EVENT bit 0. A contactor marked welded or faulty is not selected (R132).
Move phases that end (Table 4.2): the waits that expire abort the move with 0x0502, the cabinets not at zero in fault, 0x0504
and 0x0505, the last with its contactor marked faulty; a confirmed opening takes the cabinet off its bus and goes on; the end of
the ramp is DONE. A committed CT_CLR clears the mark of a contactor whose group is cut and which reads open, and reads 0 again
(R132). The model's choices in it: log 57, 60, 169, 170. -/
def Obligations.GuardsAndMoves : Prop :=
  ((∀ (s : State) (k : Nat), k < 256 → s.rb Reg.MTX_CT_CMD 0 k = false → s.ctWelded k = false → s.ctFaulty k = false → s.guardPasses k = false →
    (∀ f, f < 64 → s.r Reg.SAFE_FN_TYPE 0 f = 0) →
    (s.selectOn k).rb Reg.MTX_CT_CMD 0 k = false ∧ (s.selectOn k).r Reg.MTX_GUARD_BLOCKS = (s.r Reg.MTX_GUARD_BLOCKS + 1) % 2 ^ 32 ∧
      (s.selectOn k).rbit Reg.MTX_EVENT 0 = true ∧
      s.onlyEventsFrom (s.emit (.report 0x0501 k)) (s.selectOn k) [Reg.MTX_GUARD_BLOCKS.key 0 0 0, Reg.MTX_EVENT.key 0 0 0]) ∧
  (∀ (s : State) (k : Nat), k < 256 → s.guardPasses k = true → s.ctWelded k = false → s.ctFaulty k = false →
    (s.selectOn k).rb Reg.MTX_CT_CMD 0 k = true) ∧
  (∀ (s : State) (k : Nat), (s.ctWelded k || s.ctFaulty k) = true → s.selectOn k = s) ∧
  (∀ (s : State) (k g j : Nat), g < s.r Reg.MTX_GUARD_SETS → g < 192 → s.inGuard g k = true → s.inGuard g j = true → j ≠ k →
    j ∈ s.contactors → s.ctMaybeClosed j = true → s.guardPasses k = false)) ∧
  ((∀ (s : State) (m : Fin 8), s.mvExpired m.val 1 (s.r Reg.MTX_ZERO_WAIT) = true →
    Answers (exec (.zeroWaitExpiry m) s) fun t =>
      t.r Reg.MTX_MV_TYPE 0 m.val = 0 ∧ t.r Reg.MTX_MV_RESULT 0 m.val = 0x502 ∧ t.rbit Reg.MTX_EVENT 2 = true ∧ t.mem = s.mem ∧
        t.session = s.session ∧
        ∀ c ∈ s.zeroCounted m.val, c < 64 → (s.cab c).zero < 4 → t.r Reg.CAB_STATE c = 3 ∧ (t.cab c).devFault = true) ∧
  (∀ (s : State) (m : Fin 8), s.mvExpired m.val 4 (s.r Reg.MTX_MATCH_WAIT) = true →
    Answers (exec (.matchWaitExpiry m) s) fun t =>
      t.r Reg.MTX_MV_TYPE 0 m.val = 0 ∧ t.r Reg.MTX_MV_RESULT 0 m.val = 0x504 ∧ t.rbit Reg.MTX_EVENT 3 = true ∧
        t.session = s.session ∧ t.safety = s.safety ∧ t.mem = s.mem) ∧
  (∀ (s : State) (m : Fin 8) (k : Fin 256), s.mvExpired m.val 5 (s.r Reg.MTX_CLOSE_WAIT) = true → s.mvClose m.val = some k.val →
    s.ctWelded k.val = false →
    Answers (exec (.closeWaitExpiry m) s) fun t =>
      t.r Reg.MTX_MV_TYPE 0 m.val = 0 ∧ t.r Reg.MTX_MV_RESULT 0 m.val = 0x505 ∧ t.rbit Reg.MTX_EVENT 4 = true ∧
        t.r Reg.MTX_CT_STATE 0 k.val = 5 ∧ t.mem = s.mem) ∧
  (∀ (s : State) (m : Fin 8), s.mvBusy m.val = true → s.mvPhase m.val = 6 → s.r Reg.MTX_RAMP_WAVES ≤ (s.move m.val).waves →
    Answers (exec (.rampWavesElapsed m) s) fun t =>
      t.r Reg.MTX_MV_TYPE 0 m.val = 0 ∧ t.r Reg.MTX_MV_RESULT 0 m.val = 0 ∧
        t.r Reg.MTX_MOVES_DONE = (s.r Reg.MTX_MOVES_DONE + 1) % 2 ^ 32 ∧ t.mem = s.mem) ∧
  (∀ (s : State) (m : Fin 8), s.mvBusy m.val = true → s.mvPhase m.val = 3 → s.r Reg.MTX_WELD_CONFIRM ≤ (s.move m.val).ok →
    exec (.weldConfirmDone m) s = .next (s.mvNext m.val).sessWelds ∧
      (s.mvCab m.val = true → (s.mvOpened m.val).r Reg.CAB_BUS (s.mvSubject m.val) = 0xFF)) ∧
  (∀ (s : State) (m : Fin 8), s.mvBusy m.val = true → s.mvPhase m.val = 3 → s.r Reg.MTX_WELD_CONFIRM ≤ (s.move m.val).ok →
    s.mvCab m.val = true → s.mvClose m.val = none → (∀ n, n < 32 → s.sess n ≠ 10) →
    Answers (exec (.weldConfirmDone m) s) fun t =>
      t.r Reg.MTX_MV_TYPE 0 m.val = 0 ∧ t.r Reg.MTX_MV_RESULT 0 m.val = 0 ∧ t.mem = s.mem) ∧
  (∀ (s : State) (k : Fin 256), s.rb Reg.MTX_CT_CLR 0 k.val = true → (s.ctWelded k.val || s.ctFaulty k.val) = true →
    s.rbit Reg.SAFE_ENABLED (s.r Reg.MTX_CT_GROUP 0 k.val) = false → s.readsOpen (some k.val) = true →
    Answers (exec (.ctClr k) s) fun t =>
      t.r Reg.MTX_CT_CLR 0 k.val = 0 ∧ t.r Reg.MTX_CT_STATE 0 k.val = (if s.rb Reg.MTX_CT_CMD 0 k.val then 1 else 0) ∧
        s.onlyRegs t [Reg.MTX_CT_CLR.key 0 k.val 0, Reg.MTX_CT_STATE.key 0 k.val 0]) ∧
  (∀ (s : State) (k : Fin 256), s.rb Reg.MTX_CT_CLR 0 k.val = true → s.rbit Reg.SAFE_ENABLED (s.r Reg.MTX_CT_GROUP 0 k.val) = true →
    Answers (exec (.ctClr k) s) fun t => t.r Reg.MTX_CT_CLR 0 k.val = 0 ∧ s.onlyRegs t [Reg.MTX_CT_CLR.key 0 k.val 0]))

/-- O31 (tier 2). Cabinets (R140, R141, R516): a frame with a wrong length or check is counted and nothing else; one with a known
sequence number gives the cabinet's readings; STATE 0x05 puts the cabinet in fault, and a lost cabinet is back as not ready; one
with an unknown number is an event, or the number a lost cabinet starts from; STATUS_MISS waves without a frame lose the
cabinet; a lost cabinet drops out of sharing when its hold has run. The model's choices in it: log 58, 59. -/
def Obligations.CabinetFrames : Prop :=
  (∀ (s : State) (c : Fin 64) (f : List Byte), s.running = true → s.rb Reg.CAB_PRESENT c.val = true → f.length ≠ 32 →
    Answers (exec (.statusFrameReceive c f) s) fun t =>
      t.r Reg.CAB_CRC_ERRORS c.val = (s.r Reg.CAB_CRC_ERRORS c.val + 1) % 2 ^ 32 ∧ s.onlyRegs t [Reg.CAB_CRC_ERRORS.key c.val 0 0]) ∧
  (∀ (s : State) (c : Fin 64) (seq st fl mir code iOut vOut pAvail : Nat) (pad : List Byte), s.running = true →
    s.rb Reg.CAB_PRESENT c.val = true → (s.cab c.val).got = false → (s.cab c.val).sent.contains seq = true →
    seq < 2 ^ 16 → iOut < 2 ^ 32 → vOut < 2 ^ 32 → pAvail < 2 ^ 32 → code < 2 ^ 16 → st < 2 ^ 16 → fl < 2 → mir < 256 → pad.length = 6 →
    Answers (exec (.statusFrameReceive c (statusFrame c.val seq iOut st fl mir vOut pAvail code pad)) s) fun t =>
      t.r Reg.CAB_I_OUT c.val = iOut ∧ t.r Reg.CAB_V_OUT c.val = vOut ∧ t.r Reg.CAB_P_AVAIL c.val = pAvail ∧
        t.r Reg.CAB_MIRROR_MASK c.val = mir ∧ t.r Reg.CAB_FAULT_CODE c.val = code ∧ t.r Reg.CAB_REP_STATE c.val = st ∧
        t.r Reg.CAB_REP_FLAGS c.val = fl ∧ (t.cab c.val).got = true ∧
        (s.cabAvail c.val = true → (s.cab c.val).devFault = false → fl = 1 → st ≠ 4 → st ≠ 5 →
          t.r Reg.CAB_STATE c.val = 1 ∧
            s.regsBut t [Reg.CAB_I_OUT.key c.val 0 0, Reg.CAB_V_OUT.key c.val 0 0, Reg.CAB_REP_STATE.key c.val 0 0,
              Reg.CAB_REP_FLAGS.key c.val 0 0, Reg.CAB_P_AVAIL.key c.val 0 0, Reg.CAB_FAULT_CODE.key c.val 0 0, Reg.CAB_MIRROR_MASK.key c.val 0 0]) ∧
        (s.cabAvail c.val = true → st ≠ 5 → (fl = 0 ∨ st = 4) → t.r Reg.CAB_STATE c.val = 2) ∧
        (st = 5 → t.r Reg.CAB_STATE c.val = 3 ∧ (s.r Reg.CAB_STATE c.val ≠ 3 → t.rbit Reg.CAB_EVENT 1 c.val = true)) ∧
        (s.r Reg.CAB_STATE c.val = 4 → st ≠ 5 → (s.cab c.val).devFault = false → t.r Reg.CAB_STATE c.val = 2)) ∧
  (∀ (s : State) (c : Fin 64) (seq st fl mir code iOut vOut pAvail : Nat) (pad : List Byte), s.running = true →
    s.rb Reg.CAB_PRESENT c.val = true → (s.cab c.val).got = false → (s.cab c.val).sent.contains seq = false →
    seq < 2 ^ 16 → pad.length = 6 →
    let f := statusFrame c.val seq iOut st fl mir vOut pAvail code pad
    (s.r Reg.CAB_STATE c.val = 4 → Answers (exec (.statusFrameReceive c f) s) fun t =>
      t.cab c.val = { s.cab c.val with seq := seq, sent := [] } ∧ t.regs = s.regs ∧ t.mem = s.mem) ∧
    (s.r Reg.CAB_STATE c.val ≠ 4 → Answers (exec (.statusFrameReceive c f) s) fun t =>
      t.rbit Reg.CAB_EVENT 2 c.val = true ∧ s.onlyEvents t [Reg.CAB_EVENT.key c.val 0 0])) ∧
  (∀ (s : State) (c : Fin 64), s.rb Reg.CAB_PRESENT c.val = true → s.r Reg.CAB_STATE c.val ≠ 4 →
    s.r Reg.CAB_STATUS_MISS c.val ≤ (s.cab c.val).miss →
    Answers (exec (.cabinetLost c) s) fun t =>
      t.r Reg.CAB_STATE c.val = 4 ∧ t.rbit Reg.CAB_EVENT 0 c.val = true ∧
        (t.cab c.val).hold = s.now - (s.cab c.val).miss + s.r Reg.CAB_HOLD_WAVES c.val +
          ((s.ri Reg.CAB_I_SET c.val).natAbs + max 1 (s.r Reg.CAB_FALLBACK_RAMP c.val) - 1) / max 1 (s.r Reg.CAB_FALLBACK_RAMP c.val) ∧
        (t.cab c.val).heldR = (if s.cabAvail c.val then s.r Reg.CAB_R_EFF c.val else 0) ∧
        (s.busyMoves = [] → s.regsBut t [Reg.CAB_STATE.key c.val 0 0, Reg.CAB_EVENT.key c.val 0 0, Reg.CMD_EVENT_DROPS.key 0 0 0])) ∧
  (∀ (s : State) (c : Fin 64), s.r Reg.CAB_STATE c.val = 4 → (s.cab c.val).hold ≤ s.now →
    Answers (exec (.lostShareExpiry c) s) fun t =>
      (∀ n cmd, c.val ∉ t.sharing n cmd) ∧ t.regs = s.regs ∧ t.mem = s.mem ∧ ∀ j, j ≠ c.val → t.cab j = s.cab j)

/-- O32 (tier 2). The way into a session (R145, R146, R148, R153): discovery and TLS on a live link; the protocol; the set-up, which
gives an identifier that no rule fixes, or closes with 0x0715 where no mode can be offered; the services. Each answers, counts
its frame and changes what the rule names. The model's choices in it: log 62, 67, 68, 155. -/
def Obligations.SessionOpening : Prop :=
  (∀ (s : State) (n : Fin 32) (h : ClientHello), s.dialogues = true → (s.conn n.val).link = true → s.sess n.val ≠ 0 →
    (Answers (exec (.sdpRequest n) s) fun t =>
      t.out = s.out ++ s.v2gOut n.val "SDPResponse" [(s.r Reg.SESSX_SECC_PORT : Nat)] ∧ t.session = s.session ∧ t.mem = s.mem ∧
        s.regsBut t [Reg.T1S_TX_FRAMES.key n.val 0 0]) ∧
    ((h.suite && h.group && h.sigAlg) = false → Answers (exec (.tlsClientHello n h) s) fun t =>
      t.out = s.out ++ s.v2gOut n.val "TLS" [1] ∧ t.session = s.session ∧ t.mem = s.mem ∧ s.regsBut t [Reg.T1S_TX_FRAMES.key n.val 0 0]) ∧
    (∀ last u, (h.suite && h.group && h.sigAlg) = true → s.decl.seccChain ≠ [] → s.vaultAccept s.decl.seccKey 5 = .ok (last, u) →
      Answers (exec (.tlsClientHello n h) s) fun t =>
        (t.conn n.val).tls = true ∧ (t.conn n.val).app = false ∧ t.sess n.val = s.sess n.val ∧ t.mem = s.mem ∧
          (∃ flight, t.out = s.out ++ flight ++ s.v2gOut n.val "TLS" [0]) ∧ ∀ m, m ≠ n.val → t.conn m = s.conn m)) ∧
  (∀ (s : State) (n : Fin 32) (q : V2g), s.v2gOpen n.val q = true → (s.sess n.val = 1 ∨ s.sess n.val = 8 ∧ (s.conn n.val).suspended = true) →
    (Answers (exec (.supportedAppProtocolReq n q true) s) fun t =>
      (t.conn n.val).app = true ∧ s.regsBut t [Reg.T1S_TX_FRAMES.key n.val 0 0] ∧
        t.out = s.out ++ s.v2gOut n.val "SupportedAppProtocolRes" [0, 0, 1]) ∧
    Answers (exec (.supportedAppProtocolReq n q false) s) fun t =>
      (t.conn n.val).app = (s.conn n.val).app ∧ s.regsBut t [Reg.T1S_TX_FRAMES.key n.val 0 0] ∧
        t.out = s.out ++ s.v2gOut n.val "SupportedAppProtocolRes" [1, 0]) ∧
  (∀ (s : State) (n : Fin 32) (q : V2g), s.v2gOpen n.val q = true → s.sess n.val = 1 → (s.conn n.val).app = true →
    (s.modesOffered n.val ≠ 0 → Answers (exec (.sessionSetupReq n q) s) fun t =>
      t.sess n.val = 2 ∧ (t.conn n.val).v2g = true ∧ (t.conn n.val).sid = (Config.freeWord s.free).toNat ∧ t.free = s.free + 1 ∧
        t.out = s.out ++ s.v2gOut n.val "SessionSetupRes" [0, 0, ((Config.freeWord s.free).toNat : Nat)] ∧
        s.regsBut t [Reg.SESS_STATE.key n.val 0 0, Reg.SESS_STATE_TIDES.key n.val 0 0, Reg.T1S_TX_FRAMES.key n.val 0 0]) ∧
    (s.modesOffered n.val = 0 → (s.conn n.val).stopped = false → Answers (exec (.sessionSetupReq n q) s) fun t =>
      t.sess n.val = 13 ∧ t.r Reg.SESS_END_REASON n.val = 0x715)) ∧
  (∀ (s : State) (n : Fin 32) (q : V2g), s.v2gOn n.val q = true →
    (s.sess n.val = 2 ∨ s.sess n.val = 3 ∨ s.sess n.val = 8 ∧ (s.conn n.val).resumed = true) →
    Answers (exec (.authorizationSetupReq n q) s) fun t =>
      t.free = s.free + 1 ∧ s.regsBut t [Reg.T1S_TX_FRAMES.key n.val 0 0] ∧
        t.out = s.out ++ s.v2gOut n.val "AuthorizationSetupRes" [0, 0, (s.modesOffered n.val : Nat), ((Config.freeWord s.free).toNat : Nat)]) ∧
  (∀ (s : State) (n : Fin 32) (q : V2g), s.v2gOn n.val q = true → s.negotiating n.val = true →
    (Answers (exec (.serviceDiscoveryReq n q) s) fun t =>
      s.regsBut t [Reg.T1S_TX_FRAMES.key n.val 0 0] ∧
        t.out = s.out ++ s.v2gOut n.val "ServiceDiscoveryRes" ([0, 0, 1] ++ (if s.bidirReach n.val then [2] else []))) ∧
    (∀ v m, s.sess n.val = 3 → (v = 1 ∨ v = 2 ∧ s.bidirReach n.val = true) → (m = 1 ∨ m = 2) →
      Answers (exec (.serviceSelectionReq n q v m) s) fun t =>
        t.r Reg.SESS_SERVICE n.val = v ∧ t.r Reg.SESS_CONTROL_MODE n.val = m ∧
          t.out = s.out ++ s.v2gOut n.val "ServiceSelectionRes" [0, 0] ∧
          s.regsBut t [Reg.SESS_SERVICE.key n.val 0 0, Reg.SESS_CONTROL_MODE.key n.val 0 0, Reg.T1S_TX_FRAMES.key n.val 0 0]) ∧
    (∀ v m, (v = 0 ∨ 2 < v ∨ v = 2 ∧ s.bidirReach n.val = false ∨ m = 0 ∨ 2 < m) →
      Answers (exec (.serviceSelectionReq n q v m) s) fun t =>
        s.regsBut t [Reg.T1S_TX_FRAMES.key n.val 0 0] ∧ t.out = s.out ++ s.v2gOut n.val "ServiceSelectionRes" [1, 0]) ∧
    (∀ p : EvParams, Answers (exec (.chargeParameterDiscoveryReq n q p) s) fun t =>
      (∀ v, p.maxV = some v → t.r Reg.SESS_V_EV_MAX n.val = v % 2 ^ 32) ∧
        (∀ v, p.maxChargeI = some v → (t.conn n.val).veh.maxChargeI = v) ∧
        t.out = s.out ++ s.v2gOut n.val "DC_ChargeParameterDiscoveryRes" [0, 0, (s.r Reg.SESS_RATED_I n.val : Nat), (s.r Reg.SESS_RATED_V n.val : Nat)] ∧
        s.regsBut t [Reg.SESS_V_TARGET.key n.val 0 0, Reg.SESS_V_EV_MAX.key n.val 0 0, Reg.T1S_TX_FRAMES.key n.val 0 0]))

/-- O33 (tier 2). Authorisation (R148 to R151): a contract that passes authorises by source 1, one that does not closes with 0x0703;
a connector that asks for none authorises at once by source 4, one that waits for a grant answers Ongoing; a grant authorises by
source 2, or is held until the vehicle asks; a denial, the wait and an inhibit close the session with 0x0701, 0x0702 and 0x0714.
The model's choices in it: log 66, 68. -/
def Obligations.Authorisation : Prop :=
  (∀ (s : State) (n : Fin 32) (q : V2g) (a : AuthReq), s.v2gOn n.val q = true → s.sess n.val = 2 →
    bit (s.modesOffered n.val) (if a.pnc then 0 else 1) = true → s.authHeld = false → s.authRefused = none → (s.conn n.val).token = none →
    (a.pnc = true → s.pncPasses a = true → (bit (s.r Reg.SESS_AUTH_MODE n.val) 2 = false ∨ (s.conn n.val).grant = true) →
      Answers (exec (.authorizationReq n q a) s) fun t =>
        t.sess n.val = 3 ∧ t.r Reg.SESS_AUTH_SRC n.val = 1 ∧ (t.conn n.val).reserved = true ∧ (t.conn n.val).ident = a.emaid.take 40 ∧
          t.out = s.out ++ s.v2gOut n.val "AuthorizationRes" [0, 0, 0]) ∧
    (a.pnc = true → s.pncPasses a = false → (s.conn n.val).stopped = false → Answers (exec (.authorizationReq n q a) s) fun t =>
      t.sess n.val = 13 ∧ t.r Reg.SESS_END_REASON n.val = 0x703 ∧ t.rbit Reg.SESS_EVENT 0 n.val = true ∧ t.rbit Reg.SESS_EVENT 1 n.val = true) ∧
    (a.pnc = false → (s.conn n.val).grant = false → bit (s.r Reg.SESS_AUTH_MODE n.val) 3 = true →
      Answers (exec (.authorizationReq n q a) s) fun t =>
        t.sess n.val = 3 ∧ t.r Reg.SESS_AUTH_SRC n.val = 4 ∧ (t.conn n.val).reserved = true ∧
          t.out = s.out ++ s.v2gOut n.val "AuthorizationRes" [0, 0, 0]) ∧
    (a.pnc = false → (s.conn n.val).grant = true → Answers (exec (.authorizationReq n q a) s) fun t =>
        t.sess n.val = 3 ∧ t.r Reg.SESS_AUTH_SRC n.val = 2 ∧ (t.conn n.val).reserved = true ∧
          t.out = s.out ++ s.v2gOut n.val "AuthorizationRes" [0, 0, 0]) ∧
    (a.pnc = false → (s.conn n.val).grant = false → bit (s.r Reg.SESS_AUTH_MODE n.val) 3 = false →
      Answers (exec (.authorizationReq n q a) s) fun t =>
        s.regsBut t [Reg.T1S_TX_FRAMES.key n.val 0 0] ∧ (t.conn n.val).chosenPnc = some false ∧
          t.out = s.out ++ s.v2gOut n.val "AuthorizationRes" [0, 0, 1])) ∧
  (∀ (s : State) (n : Fin 32) (q : V2g) (a : AuthReq), s.v2gOn n.val q = true → s.sess n.val = 2 →
    bit (s.modesOffered n.val) (if a.pnc then 0 else 1) = true → s.r Reg.DEV_INHIBIT % 8 ≠ 0 → (s.conn n.val).stopped = false →
    Answers (exec (.authorizationReq n q a) s) fun t =>
      t.sess n.val = 13 ∧ t.r Reg.SESS_END_REASON n.val = 0x714 ∧ t.rbit Reg.SESS_EVENT 0 n.val = true) ∧
  (∀ (s : State) (n : Fin 32), s.r Reg.SESS_AUTH_GRANT n.val = 1 → s.sess n.val = 2 → s.authHeld = false →
    s.authRefused = none → (s.conn n.val).token = none →
    ((s.conn n.val).chosenPnc = some false → Answers (exec (.authGrant n) s) fun t =>
      t.sess n.val = 3 ∧ t.r Reg.SESS_AUTH_SRC n.val = 2 ∧ t.r Reg.SESS_AUTH_GRANT n.val = 0 ∧ (t.conn n.val).reserved = true) ∧
    ((s.conn n.val).chosenPnc = some true → bit (s.r Reg.SESS_AUTH_MODE n.val) 2 = true → (s.conn n.val).pncOk = true →
      Answers (exec (.authGrant n) s) fun t =>
        t.sess n.val = 3 ∧ t.r Reg.SESS_AUTH_SRC n.val = 1 ∧ t.r Reg.SESS_AUTH_GRANT n.val = 0 ∧ (t.conn n.val).reserved = true) ∧
    ((s.conn n.val).chosenPnc = none → Answers (exec (.authGrant n) s) fun t =>
      t.sess n.val = 2 ∧ (t.conn n.val).grant = true ∧ t.out = s.out ∧ t.r Reg.SESS_AUTH_GRANT n.val = 0 ∧
        s.regsBut t [Reg.SESS_AUTH_GRANT.key n.val 0 0])) ∧
  (∀ (s : State) (n : Fin 32), s.sess n.val ≠ 2 →
    (s.r Reg.SESS_AUTH_GRANT n.val = 1 → Answers (exec (.authGrant n) s) fun t =>
      t.r Reg.SESS_AUTH_GRANT n.val = 0 ∧ s.onlyRegs t [Reg.SESS_AUTH_GRANT.key n.val 0 0]) ∧
    (s.r Reg.SESS_AUTH_GRANT n.val = 2 → Answers (exec (.authDeny n) s) fun t =>
      t.r Reg.SESS_AUTH_GRANT n.val = 0 ∧ s.onlyRegs t [Reg.SESS_AUTH_GRANT.key n.val 0 0])) ∧
  (∀ (s : State) (n : Fin 32), s.sess n.val = 2 → (s.conn n.val).stopped = false →
    (s.r Reg.SESS_AUTH_GRANT n.val = 2 → Answers (exec (.authDeny n) s) fun t =>
      t.sess n.val = 13 ∧ t.r Reg.SESS_END_REASON n.val = 0x701 ∧ t.rbit Reg.SESS_EVENT 0 n.val = true ∧ t.r Reg.SESS_AUTH_GRANT n.val = 0) ∧
    (s.r Reg.SESS_AUTH_WAIT n.val ≤ s.r Reg.SESS_STATE_TIDES n.val → Answers (exec (.authWaitExpiry n) s) fun t =>
      t.sess n.val = 13 ∧ t.r Reg.SESS_END_REASON n.val = 0x702 ∧ t.rbit Reg.SESS_EVENT 0 n.val = true))

/-- O34 (tier 2). From the schedule to the transfer (R153, R155, R156, R162, R165): the lock is driven and confirmed, the record
opens with the meter's readings, insulation passes, precharge matches, and power delivery sets the direction. The model's
choices in it: log 63, 68, 69. -/
def Obligations.SessionProgress : Prop :=
  (∀ (s : State) (n : Fin 32) (q : V2g), s.v2gOn n.val q = true → s.sess n.val = 3 → s.r Reg.SESS_SERVICE n.val ≠ 0 →
    Answers (exec (.scheduleExchangeReq n q) s) fun t =>
      t.sess n.val = 4 ∧
        (∃ pins, t.out = s.out ++ s.v2gOut n.val "ScheduleExchangeRes" [0, 0, 86400, (s.r Reg.ALLOC_RATING 0 n.val : Nat)] ++ pins) ∧
        (s.isReleased (resId 4 (s.r Reg.SESS_LOCK_LS n.val)) = false → s.drive.down = false →
          s.pairHold (s.rbit Reg.PAIR_PAIRED_LS (s.r Reg.SESS_LOCK_LS n.val)) false = 0 →
          t.rb Reg.LS_LATCHED (s.r Reg.SESS_LOCK_LS n.val) = true)) ∧
  (∀ (s : State) (n : Fin 32), s.sess n.val = 4 → 4 ≤ (s.conn n.val).locked → s.connCut n.val = false →
    Answers (exec (.lockConfirmed n) s) fun t =>
      t.sess n.val = 5 ∧ (t.conn n.val).record = some s.session.nextNo ∧ t.session.nextNo = s.session.nextNo + 1 ∧
        t.matrix.paths.contains n.val = true ∧
        ∃ q, t.session.recs = s.recRoom ++ [q] ∧ q.no = s.session.nextNo ∧ q.connector = n.val ∧
          q.startImport = s.reading (8 + n.val) 0 ∧ q.startExport = s.reading (8 + n.val) 1 ∧ q.flags.getLsbD 6 = true) ∧
  (∀ (s : State) (n : Fin 32), s.sess n.val = 4 → s.r Reg.SESS_LOCK_WAIT n.val ≤ s.r Reg.SESS_STATE_TIDES n.val →
    (s.conn n.val).stopped = false →
    Answers (exec (.lockWaitExpiry n) s) fun t =>
      t.sess n.val = 13 ∧ t.r Reg.SESS_END_REASON n.val = 0x706 ∧ t.rbit Reg.SESS_EVENT 5 n.val = true) ∧
  (∀ (s : State) (n : Fin 32) (q : V2g), s.v2gOn n.val q = true →
    (s.sess n.val = 4 ∨ s.sess n.val = 5 ∨ s.sess n.val = 8 ∧ (s.conn n.val).resumed = true) →
    Answers (exec (.cableCheckReq n q) s) fun t =>
      s.regsBut t [Reg.T1S_TX_FRAMES.key n.val 0 0] ∧
        t.out = s.out ++ s.v2gOut n.val "DC_CableCheckRes" [0, 0, if (s.conn n.val).isoPass then 0 else 1]) ∧
  (∀ (s : State) (n : Fin 32), s.sess n.val = 5 → 200 ≤ (s.conn n.val).iso →
    Answers (exec (.cableCheckPass n) s) fun t =>
      t.conn n.val = { s.conn n.val with isoPass := true } ∧ t.regs = s.regs ∧ ∀ m, m ≠ n.val → t.conn m = s.conn m) ∧
  (∀ (s : State) (n : Fin 32) (q : V2g) (v : Nat), s.v2gOn n.val q = true → s.sess n.val = 5 → (s.conn n.val).isoPass = true →
    s.connCut n.val = false →
    Answers (exec (.prechargeReq n q v) s) fun t =>
      t.sess n.val = 6 ∧ t.r Reg.SESS_V_TARGET n.val = v % 2 ^ 32 ∧ (t.conn n.val).matchOk = false ∧
        t.out = s.out ++ s.v2gOut n.val "DC_PreChargeRes" [0, 0, 1, (s.r Reg.SESS_V_MEAS n.val : Nat)] ∧
        s.regsBut t [Reg.SESS_STATE.key n.val 0 0, Reg.SESS_STATE_TIDES.key n.val 0 0, Reg.SESS_V_TARGET.key n.val 0 0,
          Reg.T1S_TX_FRAMES.key n.val 0 0]) ∧
  (∀ (s : State) (n : Fin 32), (s.sess n.val = 6 ∨ s.sess n.val = 8) → 4 ≤ (s.conn n.val).match_ →
    Answers (exec (.prechargeMatch n) s) fun t =>
      t.conn n.val = { s.conn n.val with matchOk := true } ∧ t.regs = s.regs ∧ ∀ m, m ≠ n.val → t.conn m = s.conn m) ∧
  (∀ (s : State) (n : Fin 32) (q : V2g), s.v2gOn n.val q = true →
    ((s.sess n.val = 6 ∨ s.sess n.val = 8) → (s.conn n.val).matchOk = true → s.pathDone n.val = true → s.connCut n.val = false →
      Answers (exec (.powerDeliveryReq n q .start) s) fun t =>
        t.sess n.val = 7 ∧ t.r Reg.ALLOC_DIRECTION 0 n.val = s.wantDir n.val ∧
          t.out = s.out ++ s.v2gOut n.val "PowerDeliveryRes" [0, 0, 0] ∧
          s.regsBut t [Reg.SESS_STATE.key n.val 0 0, Reg.SESS_STATE_TIDES.key n.val 0 0, Reg.ALLOC_DIRECTION.key 0 n.val 0,
            Reg.T1S_TX_FRAMES.key n.val 0 0]) ∧
    (s.sess n.val = 6 → (s.conn n.val).matchOk = false → Answers (exec (.powerDeliveryReq n q .start) s) fun t =>
      s.regsBut t [Reg.T1S_TX_FRAMES.key n.val 0 0] ∧ t.out = s.out ++ s.v2gOut n.val "PowerDeliveryRes" [0, 0, 1])) ∧
  (∀ (s : State) (n : Fin 32) (q : V2g) (p : EvParams), s.v2gOn n.val q = true → (s.sess n.val = 7 ∨ s.sess n.val = 8) →
    Answers (exec (.chargeLoopReq n q p) s) fun t =>
      t.sess n.val = s.sess n.val ∧ (∀ v, p.targetI = some v → (t.conn n.val).veh.targetI = v) ∧
        (t.out = s.out ++ s.v2gOut n.val "DC_ChargeLoopRes" [0, 0,
          Int.tdiv (s.ri Reg.MPT_I (dcPoint n.val)) 100, (s.r Reg.SESS_V_MEAS n.val : Nat), (s.iLimit n.val : Nat),
          ((s.ri Reg.ALLOC_CONNECTED 0 n.val).natAbs : Nat)]) ∧
        s.regsBut t [Reg.SESS_V_TARGET.key n.val 0 0, Reg.SESS_V_EV_MAX.key n.val 0 0, Reg.T1S_TX_FRAMES.key n.val 0 0])

/-- O35 (tier 2). Pause and resume (R153, R157): a pause suspends the session and keeps its identifier; the same identifier resumes
it; the path goes when it has been held for PATH_HOLD tides, or with PATH_HOLD 0 when no current flows; a suspended session
survives the loss of its connection but not the vehicle's departure, nor PAUSE_MAX. The model's choices in it: log 61. -/
def Obligations.PauseAndResume : Prop :=
  (∀ (s : State) (n : Fin 32) (q : V2g), s.v2gOn n.val q = true → (s.sess n.val = 7 ∨ s.sess n.val = 8) → s.connCut n.val = false →
    Answers (exec (.sessionStopReq n q .pause) s) fun t =>
      t.sess n.val = 8 ∧ (t.conn n.val).suspended = true ∧ (t.conn n.val).v2g = false ∧ (t.conn n.val).sid = (s.conn n.val).sid ∧
        (∃ pins, t.out = s.out ++ pins ++ s.v2gOut n.val "SessionStopRes" [0, 0])) ∧
  (∀ (s : State) (n : Fin 32) (q : V2g), s.v2gOpen n.val q = true → s.sess n.val = 8 → q.sid = some (s.conn n.val).sid →
    (s.conn n.val).suspended = true → (s.conn n.val).app = true →
    Answers (exec (.sessionSetupReq n q) s) fun t =>
      t.sess n.val = 8 ∧ (t.conn n.val).suspended = false ∧ (t.conn n.val).resumed = true ∧ (t.conn n.val).v2g = true ∧
        s.regsBut t [Reg.T1S_TX_FRAMES.key n.val 0 0] ∧
        t.out = s.out ++ s.v2gOut n.val "SessionSetupRes" [0, 0, ((s.conn n.val).sid : Nat)]) ∧
  (∀ (s : State) (n : Fin 32), s.sess n.val = 8 → s.pathDone n.val = true →
    (s.r Reg.SESS_PATH_HOLD n.val ≠ 0 ∧ s.r Reg.SESS_PATH_HOLD n.val ≤ (s.conn n.val).held ∨
      s.r Reg.SESS_PATH_HOLD n.val = 0 ∧ s.r Reg.SESS_I_CMD n.val = 0 ∧ s.connI n.val ≤ s.r Reg.MTX_ZERO_I) →
    Answers (exec (.pathHoldExpiry n) s) fun t =>
      t.matrix.releases.contains n.val = true ∧ t = { s with matrix := { s.matrix with releases := t.matrix.releases } }) ∧
  (∀ (s : State) (n : Fin 32), s.sess n.val = 8 → s.r Reg.SESS_PAUSE_MAX n.val ≤ s.r Reg.SESS_STATE_TIDES n.val →
    (s.conn n.val).stopped = false → s.connCut n.val = false →
    Answers (exec (.pauseMaxExpiry n) s) fun t => t.sess n.val = 9 ∧ t.r Reg.SESS_END_REASON n.val = 0x70C ∧ t.mem = s.mem) ∧
  (∀ (s : State) (n : Fin 32), s.dialogues = true → s.sess n.val = 8 → (s.conn n.val).suspended = true →
    Answers (exec (.vehicleTcpClose n) s) fun t =>
      t.sess n.val = 8 ∧ (t.conn n.val).tls = false ∧ t.regs = s.regs ∧ t.out = s.out) ∧
  (∀ (s : State) (n : Fin 32), s.sess n.val = 8 → (s.conn n.val).suspended = true → 4 ≤ (s.conn n.val).proxGone →
    (s.conn n.val).stopped = false → s.connCut n.val = false →
    Answers (exec (.proxDisconnect n) s) fun t =>
      t.sess n.val = 9 ∧ t.r Reg.SESS_END_REASON n.val = 0x704 ∧ t.rbit Reg.SESS_EVENT 4 n.val = true)

/-- O36 (tier 2). Stops (R153, R158, R159): each cause of Table 5.5 moves an energised session to STOPPING with its code, the host's
with code 1, a vehicle that answers FAILED with 0x0713; a session that has not reached the cable check closes. The model's
choices in it: log 64, 65, 173. -/
def Obligations.SessionStops : Prop :=
  (∀ (s : State) (n : Fin 32), (s.conn n.val).stopped = false → s.connCut n.val = false →
    (s.sess n.val = 5 → s.r Reg.SESS_CABLE_WAIT n.val ≤ s.r Reg.SESS_STATE_TIDES n.val → (s.conn n.val).isoPass = false →
      Answers (exec (.cableWaitExpiry n) s) fun t =>
        t.sess n.val = 9 ∧ t.r Reg.SESS_END_REASON n.val = (if s.pathDone n.val then 0x708 else 0x70A)) ∧
    (s.sess n.val = 6 → s.r Reg.SESS_PRECHARGE_WAIT n.val ≤ s.r Reg.SESS_STATE_TIDES n.val →
      Answers (exec (.prechargeWaitExpiry n) s) fun t =>
        t.sess n.val = 9 ∧ t.r Reg.SESS_END_REASON n.val = 0x709 ∧ t.rbit Reg.SESS_EVENT 3 n.val = true) ∧
    (s.sess n.val = 7 → ∀ q, s.v2gOn n.val q = true →
      (Answers (exec (.powerDeliveryReq n q .stop) s) fun t => t.sess n.val = 9 ∧ t.r Reg.SESS_END_REASON n.val = 0) ∧
      Answers (exec (.sessionStopReq n q .terminate) s) fun t => t.sess n.val = 9 ∧ t.r Reg.SESS_END_REASON n.val = 0) ∧
    (s.sess n.val = 7 → ∀ q p, s.dialogues = true → (s.conn n.val).tls = true → q.decodes = true → q.size ≤ 8192 → q.failed = true →
      Answers (exec (.chargeLoopReq n q p) s) fun t => t.sess n.val = 9 ∧ t.r Reg.SESS_END_REASON n.val = 0x713) ∧
    (s.sess n.val = 7 → s.rb Reg.SESS_STOP n.val = true → Answers (exec (.hostStop n) s) fun t =>
      t.sess n.val = 9 ∧ t.r Reg.SESS_END_REASON n.val = 1 ∧ t.rb Reg.SESS_STOP n.val = false ∧ (t.conn n.val).hostStop = true) ∧
    (s.sess n.val = 7 → s.dialogues = true → Answers (exec (.vehicleTcpClose n) s) fun t =>
      t.sess n.val = 9 ∧ t.r Reg.SESS_END_REASON n.val = 0x704 ∧ t.rbit Reg.SESS_EVENT 4 n.val = true) ∧
    (s.sess n.val = 7 → (s.conn n.val).v2g = true → 6000 ≤ (s.conn n.val).quiet → Answers (exec (.v2gSequenceTimeout n) s) fun t =>
      t.sess n.val = 9 ∧ t.r Reg.SESS_END_REASON n.val = 0x705 ∧ (t.conn n.val).tls = false) ∧
    (s.sess n.val = 3 → (s.conn n.val).v2g = true → 6000 ≤ (s.conn n.val).quiet → Answers (exec (.v2gSequenceTimeout n) s) fun t =>
      t.sess n.val = 13 ∧ t.r Reg.SESS_END_REASON n.val = 0x705)) ∧
  (∀ (s : State) (n : Fin 32) (q : V2g), s.v2gOn n.val q = true → 9 ≤ s.sess n.val → s.sess n.val ≠ 13 →
    Answers (exec (.weldingDetectionReq n q) s) fun t =>
      s.regsBut t [Reg.T1S_TX_FRAMES.key n.val 0 0] ∧
        t.out = s.out ++ s.v2gOut n.val "DC_WeldingDetectionRes" [0, s.notification n.val, (s.r Reg.SESS_V_MEAS n.val : Nat)]) ∧
  (∀ (s : State) (n : Fin 32) (q : V2g), s.v2gOpen n.val q = true → 9 ≤ s.sess n.val →
    Answers (exec (.sessionStopReq n q .terminate) s) fun t =>
      (t.conn n.val).tls = false ∧ (t.conn n.val).v2g = false ∧ s.regsBut t [Reg.T1S_TX_FRAMES.key n.val 0 0] ∧
        t.out = s.out ++ s.v2gOut n.val "SessionStopRes" [0, s.notification n.val])

/-- O37 (tier 2). The end of a session (R153, R154, R165, R170): with no current left the path is released; a safe voltage closes
the record, unlocks and closes the session; a voltage that stays is an event and the report 0x0710, and the session waits; a
group that reads cut has every contactor of it off and its energised sessions in FAULTED (R134); a signature that has come is
written into the record. The model's choices in it: log 61, 65, 69, 172. -/
def Obligations.SessionEnd : Prop :=
  (∀ (s : State) (n : Fin 32), s.sess n.val = 9 → s.r Reg.SESS_I_CMD n.val = 0 → 4 ≤ (s.conn n.val).zero → s.connCut n.val = false →
    Answers (exec (.stoppingZero n) s) fun t =>
      t.sess n.val = 10 ∧ t.matrix.releases.contains n.val = true ∧
        s.regsBut t [Reg.SESS_STATE.key n.val 0 0, Reg.SESS_STATE_TIDES.key n.val 0 0]) ∧
  (∀ (s : State) (n : Fin 32), (s.sess n.val = 11 ∨ s.sess n.val = 12) → 10 ≤ (s.conn n.val).below →
    Answers (exec (.unlockVoltageSafe n) s) fun t =>
      t.sess n.val = 13 ∧
        (s.drive.down = false → s.pairHold (s.rbit Reg.PAIR_PAIRED_LS (s.r Reg.SESS_LOCK_LS n.val)) false ≠ 1 →
          t.rb Reg.LS_LATCHED (s.r Reg.SESS_LOCK_LS n.val) = false) ∧
        ∀ q, s.recordOf n.val = some q →
          (t.conn n.val).record = none ∧ ∀ y ∈ t.session.recs, y.no = q.no → y.flags.getLsbD 6 = false) ∧
  (∀ (s : State) (n : Fin 32), (s.sess n.val = 11 ∨ s.sess n.val = 12) → 100 < (s.conn n.val).above →
    Answers (exec (.unlockHeld n) s) fun t => t.rbit Reg.SESS_EVENT 6 n.val = true ∧ t.out = s.out ++ [.report 0x0710 n.val] ∧
      s.onlyEventsFrom (s.emit (.report 0x0710 n.val)) t [Reg.SESS_EVENT.key n.val 0 0]) ∧
  (∀ (s : State) (no : Nat), s.session.unsigned.find? (fun k => (Tab.find s.vault.signed k).isSome) = some no →
    Answers (exec .sessionRecordSigned s) fun t =>
      t.session.unsigned = s.session.unsigned.erase no ∧ Tab.find t.vault.signed no = none ∧ t.regs = s.regs ∧
        ∀ y ∈ t.session.recs, y.no = no → y.signature = Tab.getD s.vault.signed no []) ∧
  (∀ (s : State) (g : Fin 16), s.running = true → s.groupReadsCut g.val = true →
    Answers (exec (.soutGroupCut g) s) fun t =>
      t.matrix.cut = s.matrix.cut ||| BitVec.ofNat 16 (2 ^ g.val) ∧
        (∀ k ∈ s.groupContactors g.val, k < 256 → t.rb Reg.MTX_CT_CMD 0 k = false) ∧
        ∀ n, n < 32 → s.energised n = true → (s.matrixCut g.val).connCut n = true → t.sess n = 12 ∧ t.r Reg.SESS_I_CMD n = 0) ∧
  (∀ (s : State) (n : Fin 32), s.sess n.val = 10 → (∀ m, m < 32 → m ≠ n.val → s.sess m ≠ 10) → s.matrix.releases.contains n.val = false →
    s.busyMoves = [] → s.connBus n.val = none → s.recordOf n.val = none →
    Answers (exec (.weldConfirmDone 0) s) fun t => t.sess n.val = 11) ∧
  (∀ (s : State) (m : Fin 8) (k : Fin 256), s.mvExpired m.val 2 (s.r Reg.MTX_OPEN_WAIT) = true → s.mvOpen m.val = some k.val →
    (∀ f, f < 64 → s.r Reg.SAFE_FN_TYPE 0 f = 0) → (∀ n, n < 32 → s.sess n ≠ 10) →
    Answers (exec (.openWaitExpiry m) s) fun t =>
      t.r Reg.MTX_CT_STATE 0 k.val = 4 ∧ t.rbit Reg.MTX_EVENT 1 = true ∧ t.r Reg.MTX_MV_TYPE 0 m.val = 0 ∧
        t.r Reg.MTX_MV_RESULT 0 m.val = 0x503)

/-- O38 (tier 2). Session records by command (R168, R448): REC_ACK is accepted from the present value to the newest record and
applied at the next boundary, else refused with 0x0712; a record that stands is read as its 256 bytes. The model's choices in
it: log 17, 20, 69. -/
def Obligations.SessionRecords : Prop :=
  (∀ (s : State) (e : Env) (i v : Nat), s.admits e 1 i → v < 2 ^ 32 → v ≤ s.r Reg.SESSX_REC_NEWEST →
    s.rWith s.command.ri Reg.SESSX_REC_ACK ≤ v →
    Answers (exec (.recAck e v) s) fun t =>
      s.answered (s.queueRi ⟨Reg.SESSX_REC_ACK.addr 0 0 0, Reg.SESSX_REC_ACK.lo, v⟩) t e i { apply := some s.applyTide }) ∧
  (∀ (s : State) (e : Env) (i v : Nat), s.admits e 1 i → v < 2 ^ 32 → s.r Reg.SESSX_REC_NEWEST < v →
    Answers (exec (.recAck e v) s) fun t => s.answered s t e i { result := 0x712 }) ∧
  (∀ (s : State) (e : Env) (i no : Nat) (q : SessRec), s.admits e 0 i → s.session.recs.find? (fun q => decide (q.no = no)) = some q →
    Answers (exec (.recordRead e no false) s) fun t => s.answered s t e i { data := byteData q.bytes })

/-- O39 (tier 2). Trips (R182, R185): MEAS_HOLD invalid evaluations trip a held instance with cause 4 and drive SAFE_OUT; a
supervision trip is counted with its cause, and drives SAFE_OUT where SUP_ACTION says so, else leaves the state. A written MODE
waits for the next evaluation (R181). The model's choices in it: log 71, 73, 74. -/
def Obligations.LoopTrips : Prop :=
  (∀ (s : State) (i : Fin 128), s.r Reg.LOOP_STATE i.val = 4 → s.r Reg.LOOP_MEAS_HOLD i.val ≤ (s.lp i.val).bad →
    Answers (exec (.loopHoldTrip i) s) fun t =>
      t.r Reg.LOOP_STATE i.val = 5 ∧ t.r Reg.LOOP_TRIP_CAUSE i.val = 4 ∧
        t.r Reg.LOOP_U i.val = unsignedOf 32 (s.ri Reg.LOOP_SAFE_OUT i.val) ∧ (t.lp i.val).uInit = true ∧ t.mem = s.mem ∧
        t.session = s.session ∧ t.safety = s.safety) ∧
  (∀ (s : State) (i : Fin 128) (c : Nat), (s.lp i.val).supDue = some c → c < 8 →
    (s.rb Reg.LOOP_SUP_ACTION i.val = true → Answers (exec (.supervisionTrip i) s) fun t =>
      t.r Reg.LOOP_STATE i.val = 5 ∧ t.r Reg.LOOP_TRIP_CAUSE i.val = c ∧ t.r Reg.LOOP_TRIPS i.val = (s.r Reg.LOOP_TRIPS i.val + 1) % 2 ^ 32 ∧
        t.rbit Reg.LOOP_EVENT 0 i.val = true ∧ t.r Reg.LOOP_U i.val = unsignedOf 32 (s.ri Reg.LOOP_SAFE_OUT i.val) ∧
        (t.lp i.val).supDue = none) ∧
    (s.rb Reg.LOOP_SUP_ACTION i.val = false → Answers (exec (.supervisionTrip i) s) fun t =>
      t.r Reg.LOOP_TRIP_CAUSE i.val = c ∧ t.r Reg.LOOP_TRIPS i.val = (s.r Reg.LOOP_TRIPS i.val + 1) % 2 ^ 32 ∧
        t.rbit Reg.LOOP_EVENT 0 i.val = true ∧ (t.lp i.val).supDue = none ∧ t.r Reg.LOOP_STATE i.val = s.r Reg.LOOP_STATE i.val ∧
        (s.r Reg.LOOP_CAP_STATE i.val ≠ 1 → t.mem = s.mem ∧
          s.regsBut t [Reg.LOOP_TRIP_CAUSE.key i.val 0 0, Reg.LOOP_TRIPS.key i.val 0 0, Reg.LOOP_EVENT.key i.val 0 0,
            Reg.CMD_EVENT_DROPS.key 0 0 0]))) ∧
  (∀ (s : State) (i : Fin 128), (s.lp i.val).wrote = true →
    Answers (exec (.loopModeWrite i) s) fun t =>
      (t.lp i.val).turn = some (s.r Reg.LOOP_MODE i.val) ∧ (t.lp i.val).wrote = false ∧ t.regs = s.regs ∧
        ∀ j, j ≠ i.val → t.lp j = s.lp j)

/-- O40 (tier 2). Injection and capture (R186, R188, R190): the action fields act and read 0 again; a started injection begins at
its first sample; a capture takes its own bank or the lowest free one, or is refused with EVENT bit 4. The model's choices in
it: log 16, 75. -/
def Obligations.InjectionAndCapture : Prop :=
  (∀ (s : State) (i : Fin 128),
    (s.r Reg.LOOP_INJ_CTRL i.val = 1 → Answers (exec (.injectionStart i) s) fun t =>
      t.r Reg.LOOP_INJ_CTRL i.val = 0 ∧ t.r Reg.LOOP_INJ_STATE i.val = 1 ∧ (t.lp i.val).k = 0 ∧
        (t.lp i.val).prbs = 2 ^ s.r Reg.LOOP_PRBS_N i.val - 1 ∧
        s.regsBut t [Reg.LOOP_INJ_CTRL.key i.val 0 0, Reg.LOOP_INJ_STATE.key i.val 0 0]) ∧
    (s.r Reg.LOOP_INJ_CTRL i.val = 2 → s.r Reg.LOOP_INJ_STATE i.val = 1 → Answers (exec (.injectionStop i) s) fun t =>
      t.r Reg.LOOP_INJ_CTRL i.val = 0 ∧ t.r Reg.LOOP_INJ_STATE i.val = 3 ∧ t.rbit Reg.LOOP_EVENT 3 i.val = true ∧
        s.onlyEvents t [Reg.LOOP_INJ_CTRL.key i.val 0 0, Reg.LOOP_INJ_STATE.key i.val 0 0, Reg.LOOP_EVENT.key i.val 0 0]) ∧
    (s.r Reg.LOOP_INJ_STATE i.val = 1 → s.r Reg.LOOP_INJ_LEN i.val ≠ 0 → s.r Reg.LOOP_INJ_LEN i.val ≤ (s.lp i.val).k →
      Answers (exec (.injectionDone i) s) fun t =>
        t.r Reg.LOOP_INJ_STATE i.val = 2 ∧ s.onlyRegs t [Reg.LOOP_INJ_STATE.key i.val 0 0])) ∧
  (∀ (s : State) (i : Fin 128) (b : Nat), s.r Reg.LOOP_CAP_CTRL i.val = 1 → (s.lp i.val).bank = some b → b < 4 →
    Answers (exec (.captureArm i) s) fun t =>
      t.r Reg.LOOP_CAP_CTRL i.val = 0 ∧ t.r Reg.LOOP_CAP_STATE i.val = 1 ∧ t.r Reg.LOOP_CAP_BANK i.val = b ∧
        t.r Reg.LOOP_CAP_COUNT i.val = 0 ∧ (t.lp i.val).bank = some b ∧ t.mem = s.mem) ∧
  (∀ (s : State) (i : Fin 128), s.r Reg.LOOP_CAP_CTRL i.val = 1 → (s.lp i.val).bank = none →
    (∀ b, s.freeBank = some b → Answers (exec (.captureArm i) s) fun t =>
      t.r Reg.LOOP_CAP_CTRL i.val = 0 ∧ t.r Reg.LOOP_CAP_STATE i.val = 1 ∧ t.r Reg.LOOP_CAP_BANK i.val = b ∧
        t.r Reg.LOOP_CAP_COUNT i.val = 0 ∧ (t.lp i.val).bank = some b ∧ t.mem = s.mem) ∧
    (s.freeBank = none → Answers (exec (.captureArm i) s) fun t =>
      t.r Reg.LOOP_CAP_CTRL i.val = 0 ∧ t.r Reg.LOOP_CAP_STATE i.val = 4 ∧ t.rbit Reg.LOOP_EVENT 4 i.val = true ∧
        s.onlyEvents t [Reg.LOOP_CAP_CTRL.key i.val 0 0, Reg.LOOP_CAP_STATE.key i.val 0 0, Reg.LOOP_EVENT.key i.val 0 0])) ∧
  (∀ (s : State) (i : Fin 128), s.r Reg.LOOP_CAP_CTRL i.val = 2 →
    Answers (exec (.captureRelease i) s) fun t =>
      t.r Reg.LOOP_CAP_CTRL i.val = 0 ∧ t.r Reg.LOOP_CAP_STATE i.val = 0 ∧ t.r Reg.LOOP_CAP_COUNT i.val = 0 ∧ (t.lp i.val).bank = none ∧
        t.mem = s.mem ∧ s.regsBut t [Reg.LOOP_CAP_CTRL.key i.val 0 0, Reg.LOOP_CAP_STATE.key i.val 0 0, Reg.LOOP_CAP_COUNT.key i.val 0 0]) ∧
  (∀ (s : State) (i : Fin 128), s.r Reg.LOOP_CAP_STATE i.val = 2 → s.r Reg.LOOP_CAP_LEN i.val ≤ s.r Reg.LOOP_CAP_COUNT i.val →
    Answers (exec (.captureFull i) s) fun t =>
      t.r Reg.LOOP_CAP_STATE i.val = 3 ∧ s.onlyRegs t [Reg.LOOP_CAP_STATE.key i.val 0 0])

/-- O41 (tier 2). Faults of a bridge (R211 to R213, Tables 7.1 and 7.2): an active bridge whose sample shows a fault, and neither
cross-conduction nor a thermal condition, retries while tries are left and locks when none is; a thermal condition is held and
counts nothing, and a fault of the same sample is kept with it; cross-conduction latches from every other state; CLR unlocks
where its condition holds. The model's choices in it: log 78, 80, 81. -/
def Obligations.BridgeFaults : Prop :=
  (∀ (s : State) (x : Fin 6) (q : GdSample),
    (∀ p, p < 3 → s.r Reg.GD_SHUNT_OC x.val < q.shunt.getD p 0 → (∀ j, j < p → q.shunt.getD j 0 ≤ s.r Reg.GD_SHUNT_OC x.val) →
      (s.gdConds x.val q).head? = some (1, p)) ∧
    (q.vdrv < 85 → (4, 3) ∈ s.gdConds x.val q) ∧ (850 < q.vbus → (6, 3) ∈ s.gdConds x.val q) ∧
    (100 * (s.r Reg.GD_TSD x.val : Int) < q.temp → (7, 3) ∈ s.gdConds x.val q)) ∧
  (∀ (s : State) (x : Fin 6) (q : GdSample) (code phase : Nat), s.prot (.gd x) = .active →
    let u := s.takeSample (.gd x q)
    u.sampleCross (.gd x q) = none → u.sampleHot (.gd x q) = [] → u.sampleFault (.gd x q) = some (code, phase) →
    (s.r Reg.GD_TRIES x.val < s.r Reg.GD_RETRY_MAX x.val → Answers (exec (.protectionFault (.gd x q)) s) fun t =>
      t.r Reg.GD_STATE x.val = 4 ∧ t.r Reg.GD_FAULT x.val = code ∧ t.r Reg.GD_FAULT_PHASE x.val = phase ∧
        t.r Reg.GD_FAULTS x.val = (s.r Reg.GD_FAULTS x.val + 1) % 2 ^ 32 ∧ t.rbit Reg.GD_EVENT (code - 1) x.val = true ∧
        t.r Reg.GD_TRIES x.val = s.r Reg.GD_TRIES x.val ∧ t.r Reg.GD_F_OUT x.val = 0) ∧
    (s.r Reg.GD_RETRY_MAX x.val ≤ s.r Reg.GD_TRIES x.val → Answers (exec (.protectionFault (.gd x q)) s) fun t =>
      t.r Reg.GD_STATE x.val = 6 ∧ t.r Reg.GD_FAULT x.val = code ∧ t.rbit Reg.GD_EVENT 7 x.val = true)) ∧
  (∀ (s : State) (x : Fin 6) (q : GdSample),
    let u := s.takeSample (.gd x q)
    u.sampleCross (.gd x q) = none → u.sampleHot (.gd x q) = [7] →
    (s.prot (.gd x) = .active → Answers (exec (.thermalCondition (.gd x q)) s) fun t =>
      t.r Reg.GD_STATE x.val = 5 ∧ t.r Reg.GD_FAULT x.val = 7 ∧ t.r Reg.GD_FAULTS x.val = s.r Reg.GD_FAULTS x.val ∧
        t.r Reg.GD_TRIES x.val = s.r Reg.GD_TRIES x.val ∧ t.rbit Reg.GD_EVENT 6 x.val = true ∧
        (t.outI (.gd x)).retry = false ∧ (t.outI (.gd x)).fresh = u.sampleFault (.gd x q)) ∧
    (s.prot (.gd x) = .retryWait → Answers (exec (.thermalCondition (.gd x q)) s) fun t =>
      t.r Reg.GD_STATE x.val = 5 ∧ t.r Reg.GD_FAULTS x.val = s.r Reg.GD_FAULTS x.val ∧ t.r Reg.GD_TRIES x.val = s.r Reg.GD_TRIES x.val ∧
        (t.outI (.gd x)).retry = true ∧ (t.outI (.gd x)).fresh = none)) ∧
  (∀ (s : State) (x : Fin 6) (q : GdSample) (p : Nat), s.prot (.gd x) ≠ .xcLatch →
    (s.takeSample (.gd x q)).sampleCross (.gd x q) = some p →
    Answers (exec (.crossConduction x q) s) fun t =>
      t.r Reg.GD_STATE x.val = 7 ∧ t.r Reg.GD_FAULT x.val = 3 ∧ t.r Reg.GD_FAULT_PHASE x.val = p ∧
        t.rbit Reg.GD_EVENT 2 x.val = true ∧ t.r Reg.GD_FAULTS x.val = s.r Reg.GD_FAULTS x.val ∧
        t.r Reg.GD_TRIES x.val = s.r Reg.GD_TRIES x.val) ∧
  (∀ (s : State) (x : Fin 6), s.rb Reg.GD_CLR x.val = true →
    (s.r Reg.GD_STATE x.val = 7 → s.r Reg.GD_MODE x.val = 0 → Answers (exec (.gdClr x) s) fun t =>
      t.r Reg.GD_CLR x.val = 0 ∧ t.r Reg.GD_STATE x.val = 0 ∧ t.r Reg.GD_TRIES x.val = 0 ∧
        s.onlyRegs t [Reg.GD_CLR.key x.val 0 0, Reg.GD_STATE.key x.val 0 0, Reg.GD_TRIES.key x.val 0 0]) ∧
    (s.r Reg.GD_STATE x.val = 6 → s.gdFaultPresent x.val = false → Answers (exec (.gdClr x) s) fun t =>
      t.r Reg.GD_CLR x.val = 0 ∧ t.r Reg.GD_TRIES x.val = 0 ∧
        t.r Reg.GD_STATE x.val = (if s.r Reg.GD_MODE x.val = 0 ∨ (s.bridge x.val).linkOff = true then 0
          else if s.r Reg.GD_CMD x.val < s.r Reg.GD_M_MIN x.val then 3 else 1) ∧
        s.regsBut t [Reg.GD_CLR.key x.val 0 0, Reg.GD_STATE.key x.val 0 0, Reg.GD_TRIES.key x.val 0 0]) ∧
    ((s.r Reg.GD_STATE x.val = 7 ∧ s.r Reg.GD_MODE x.val ≠ 0 ∨ s.r Reg.GD_STATE x.val = 6 ∧ s.gdFaultPresent x.val = true) →
      Answers (exec (.gdClr x) s) fun t => t.r Reg.GD_CLR x.val = 0 ∧ s.onlyRegs t [Reg.GD_CLR.key x.val 0 0])) ∧
  (∀ (s : State) (v : Nat), exec (.driveSupplyRecover v) s =
    .next (if 90 < v then { s with drive := { s.drive with vdrvLow := false } } else s))

/-- O42 (tier 2). A running bridge (R203 to R205, R209, R210): the loss of its link turns every bridge off and consumes no try; a
period of the fixed mode drives the commanded duty on the first phase alone; precharge ends in switching or in fault 5; a
refresh that is due is counted. The model's choices in it: log 80, 81. -/
def Obligations.BridgeRuns : Prop :=
  (∀ s : State, Answers (exec .bridgeLinkLoss s) fun t =>
    (∀ x, x < 6 → (t.bridge x).linkOff = true ∧ t.r Reg.GD_TRIES x = s.r Reg.GD_TRIES x ∧ t.r Reg.GD_FAULTS x = s.r Reg.GD_FAULTS x ∧
      t.r Reg.GD_STATE x = (if s.r Reg.GD_STATE x = 1 ∨ s.r Reg.GD_STATE x = 2 ∨ s.r Reg.GD_STATE x = 3 then 0 else s.r Reg.GD_STATE x)) ∧
    s.regsBut t ((List.range 6).flatMap (fun x => [Reg.GD_STATE.key x 0 0, Reg.GD_F_OUT.key x 0 0, Reg.GD_REFRESH_ACT.key x 0 0,
      Reg.GD_REFRESH_ACT.key x 1 0, Reg.GD_REFRESH_ACT.key x 2 0]))) ∧
  (∀ (s : State) (x : Fin 6) (q : PwmIn), s.r Reg.GD_STATE x.val ≠ 2 →
    Answers (exec (.pwmPeriod x q) s) fun t =>
      t.r Reg.GD_VBUS x.val = q.vbus % 2 ^ 11 ∧ (∀ p, p < 3 → t.r Reg.GD_VBS x.val p = q.vbs.getD p 0 % 2 ^ 8) ∧
        s.onlyRegs t [Reg.GD_VBUS.key x.val 0 0, Reg.GD_VBS.key x.val 0 0, Reg.GD_VBS.key x.val 1 0, Reg.GD_VBS.key x.val 2 0]) ∧
  (∀ (s : State) (x : Fin 6) (q : PwmIn), s.r Reg.GD_STATE x.val = 2 → s.r Reg.GD_MODE x.val = 2 → s.r Reg.GD_CMD x.val ≤ 10000 →
    Answers (exec (.pwmPeriod x q) s) fun t =>
      t.r Reg.GD_STATE x.val = 2 ∧ t.r Reg.GD_M_OUT x.val = s.r Reg.GD_CMD x.val ∧ t.r Reg.GD_F_OUT x.val = 0 ∧
        t.r Reg.GD_DUTY x.val 0 = dutyOmit (s.r Reg.GD_PWM_FREQ x.val) (s.r Reg.GD_CMD x.val) ∧ t.r Reg.GD_DUTY x.val 1 = 0 ∧
        t.r Reg.GD_DUTY x.val 2 = 0 ∧ t.r Reg.GD_TRIES x.val = s.r Reg.GD_TRIES x.val) ∧
  (∀ (s : State) (x : Fin 6) (vbs : List Nat), s.r Reg.GD_STATE x.val = 1 →
    ((∀ p, p < 3 → s.r Reg.GD_VBS_UV x.val ≤ vbs.getD p 0 % 2 ^ 8) → Answers (exec (.bootstrapPrechargeEnd x vbs) s) fun t =>
      t.r Reg.GD_STATE x.val = 2 ∧ ∀ p, p < 3 → t.r Reg.GD_STR x.val p = s.r Reg.GD_STR_INIT x.val % 2 ^ 4) ∧
    (vbs.getD 0 0 % 2 ^ 8 < s.r Reg.GD_VBS_UV x.val → s.r Reg.GD_TRIES x.val < s.r Reg.GD_RETRY_MAX x.val →
      Answers (exec (.bootstrapPrechargeEnd x vbs) s) fun t =>
        t.r Reg.GD_STATE x.val = 4 ∧ t.r Reg.GD_FAULT x.val = 5 ∧ t.r Reg.GD_FAULT_PHASE x.val = 0)) ∧
  (∀ (s : State) (x : Fin 6) (p : Fin 3) (us : Nat), s.r Reg.GD_STATE x.val = 2 → s.rb Reg.GD_REFRESH_ACT x.val p.val = true →
    s.r Reg.GD_REFRESH_T x.val ≤ us →
    Answers (exec (.refreshInsertion x p us) s) fun t =>
      t.r Reg.GD_REFRESHES x.val = (s.r Reg.GD_REFRESHES x.val + 1) % 2 ^ 32 ∧
        t.out = s.out ++ [.link "REFRESH" x.val [p.val, s.deadTime x.val, s.r Reg.GD_REFRESH_W x.val, s.deadTime x.val]] ∧
        t = { s with regs := t.regs, out := t.out } ∧ s.regsBut t [Reg.GD_REFRESHES.key x.val 0 0])

/-- O43 (tier 2). A load switch (R211 to R219, Table 7.4): a fault in the sample of a channel that is on retries while tries are
left and locks when none is; a thermal hold ends with the latched command, the pending retry or the fault kept with it; a try is
used at the restart and given back after 10 s; CLR unlocks; a low supply is no fault, and a channel whose supply is low waits
for it; open load is a flag. A contactor select that faults is locked at its first fault, and in RUN its contactor is marked
faulty and cause 9 is latched on the channel of its coil group (R220). The model's choices in it: log 78, 80, 81, 174. -/
def Obligations.LoadSwitchesAndSelects : Prop :=
  ((∀ (s : State) (c : Fin 32) (q : LsSample) (code phase : Nat), s.prot (.ls c) = .active → s.r Reg.LS_FUNCTION c.val ≠ 1 →
    s.sampleHot (.ls c q) = [] → s.sampleFault (.ls c q) = some (code, phase) →
    (s.r Reg.LS_TRIES c.val < s.r Reg.LS_RETRY_MAX c.val → Answers (exec (.protectionFault (.ls c q)) s) fun t =>
      t.r Reg.LS_STATE c.val = 3 ∧ t.r Reg.LS_FAULT c.val = code ∧ t.r Reg.LS_FAULTS c.val = (s.r Reg.LS_FAULTS c.val + 1) % 2 ^ 32 ∧
        t.rbit Reg.LS_EVENT (code - 0x11) c.val = true ∧ t.r Reg.LS_LATCHED c.val = s.r Reg.LS_LATCHED c.val) ∧
    (s.r Reg.LS_RETRY_MAX c.val ≤ s.r Reg.LS_TRIES c.val → Answers (exec (.protectionFault (.ls c q)) s) fun t =>
      t.r Reg.LS_STATE c.val = 5 ∧ t.r Reg.LS_FAULT c.val = code)) ∧
  (∀ (s : State) (c : Fin 32) (q : LsSample), (s.r Reg.LS_STATE c.val = 1 ∨ s.r Reg.LS_STATE c.val = 2) → s.r Reg.LS_OC_TRIP c.val < q.i →
    s.r Reg.LS_OC_FILT c.val ≤ q.ocFor → s.sampleFault (.ls c q) = some (0x11, 3)) ∧
  (∀ (s : State) (c : Fin 32) (q : LsSample) (h : Nat) (l : List Nat), s.sampleHot (.ls c q) = h :: l →
    (s.prot (.ls c) = .active → Answers (exec (.thermalCondition (.ls c q)) s) fun t =>
      t.r Reg.LS_STATE c.val = 4 ∧ t.r Reg.LS_FAULT c.val = h ∧ t.r Reg.LS_FAULTS c.val = s.r Reg.LS_FAULTS c.val ∧
        t.r Reg.LS_TRIES c.val = s.r Reg.LS_TRIES c.val ∧ (t.outI (.ls c)).retry = false ∧ (t.outI (.ls c)).fresh = s.sampleFault (.ls c q)) ∧
    (s.prot (.ls c) = .retryWait → Answers (exec (.thermalCondition (.ls c q)) s) fun t =>
      t.r Reg.LS_STATE c.val = 4 ∧ t.r Reg.LS_TRIES c.val = s.r Reg.LS_TRIES c.val ∧ (t.outI (.ls c)).retry = true)) ∧
  (∀ (s : State) (c : Fin 32) (q : LsSample), s.prot (.ls c) = .thermalHold →
    ((s.outI (.ls c)).hot.filter (fun k => s.stillHot (.ls c q) k) ≠ [] → Answers (exec (.thermalLatchClear (.ls c q)) s) fun t =>
      t.r Reg.LS_STATE c.val = 4 ∧ t.regs = s.regs ∧ t.out = s.out) ∧
    ((s.outI (.ls c)).hot.filter (fun k => s.stillHot (.ls c q) k) = [] →
      ((s.outI (.ls c)).fresh = none → (s.outI (.ls c)).retry = false → Answers (exec (.thermalLatchClear (.ls c q)) s) fun t =>
        t.r Reg.LS_STATE c.val = (if s.rb Reg.LS_LATCHED c.val then (if (s.outI (.ls c)).low then 6 else s.lsOnState c.val) else 0) ∧ s.regsBut t [Reg.LS_STATE.key c.val 0 0]) ∧
      ((s.outI (.ls c)).fresh = none → (s.outI (.ls c)).retry = true → s.r Reg.LS_FUNCTION c.val ≠ 1 →
        s.r Reg.LS_TRIES c.val < s.r Reg.LS_RETRY_MAX c.val →
        Answers (exec (.thermalLatchClear (.ls c q)) s) fun t => t.r Reg.LS_STATE c.val = 3 ∧ s.regsBut t [Reg.LS_STATE.key c.val 0 0]) ∧
      (∀ ph, (s.outI (.ls c)).fresh = some (0x11, ph) → s.r Reg.LS_FUNCTION c.val ≠ 1 → s.r Reg.LS_TRIES c.val < s.r Reg.LS_RETRY_MAX c.val →
        Answers (exec (.thermalLatchClear (.ls c q)) s) fun t =>
          t.r Reg.LS_STATE c.val = 3 ∧ t.r Reg.LS_FAULT c.val = 0x11 ∧ t.r Reg.LS_FAULTS c.val = (s.r Reg.LS_FAULTS c.val + 1) % 2 ^ 32))) ∧
  (∀ (s : State) (c : Fin 32) (ms : Nat), s.prot (.ls c) = .retryWait → s.r Reg.LS_RETRY_WAIT c.val ≤ ms →
    Answers (exec (.retryTimerExpiry (.ls c) ms) s) fun t =>
      t.r Reg.LS_TRIES c.val = (s.r Reg.LS_TRIES c.val + 1) % 2 ^ 3 ∧ t.r Reg.LS_STATE c.val = (if s.rb Reg.LS_LATCHED c.val then (if (s.outI (.ls c)).low then 6 else s.lsOnState c.val) else 0) ∧
        s.regsBut t [Reg.LS_STATE.key c.val 0 0, Reg.LS_TRIES.key c.val 0 0]) ∧
  (∀ (s : State) (c : Fin 32) (ms : Nat), s.prot (.ls c) = .active → 10000 ≤ ms →
    Answers (exec (.tryResetExpiry (.ls c) ms) s) fun t => t.r Reg.LS_TRIES c.val = 0 ∧ s.onlyRegs t [Reg.LS_TRIES.key c.val 0 0]) ∧
  (∀ (s : State) (c : Fin 32), s.rb Reg.LS_CLR c.val = true → s.r Reg.LS_STATE c.val = 5 →
    (s.lsFaultPresent c.val = false → Answers (exec (.lsClr c) s) fun t =>
      t.r Reg.LS_CLR c.val = 0 ∧ t.r Reg.LS_TRIES c.val = 0 ∧ t.r Reg.LS_STATE c.val = (if s.rb Reg.LS_LATCHED c.val then (if (s.outI (.ls c)).low then 6 else s.lsOnState c.val) else 0) ∧
        s.regsBut t [Reg.LS_CLR.key c.val 0 0, Reg.LS_TRIES.key c.val 0 0, Reg.LS_STATE.key c.val 0 0]) ∧
    (s.lsFaultPresent c.val = true → Answers (exec (.lsClr c) s) fun t =>
      t.r Reg.LS_CLR c.val = 0 ∧ s.onlyRegs t [Reg.LS_CLR.key c.val 0 0])) ∧
  (∀ (s : State) (c : Fin 32) (v : Nat), v < 70 → s.r Reg.LS_SUPPLY c.val < 2 →
    Answers (exec (.lsSupplyLow c v) s) fun t =>
      t.r Reg.LS_STATE c.val = (if s.prot (.ls c) = .active then 6 else s.r Reg.LS_STATE c.val) ∧ (t.outI (.ls c)).low = true ∧
        t.rbit Reg.LS_EVENT 5 c.val = true ∧ t.rbit Reg.LSX_SUPPLY_EVENT (s.r Reg.LS_SUPPLY c.val) = true ∧
        s.regsBut t [Reg.LS_STATE.key c.val 0 0, Reg.LS_EVENT.key c.val 0 0, Reg.LSX_SUPPLY_EVENT.key 0 0 0, Reg.CMD_EVENT_DROPS.key 0 0 0]) ∧
  (∀ (s : State) (c : Fin 32) (v held : Nat), 75 < v → 10 ≤ held → s.prot (.ls c) = .supplyLow →
    Answers (exec (.lsSupplyRecover c v held) s) fun t =>
      t.r Reg.LS_STATE c.val = (if s.rb Reg.LS_LATCHED c.val then s.lsOnState c.val else 0) ∧ (t.outI (.ls c)).low = false ∧
        s.regsBut t [Reg.LS_STATE.key c.val 0 0]) ∧
  (∀ (s : State) (c : Fin 32) (i ms : Nat), (s.r Reg.LS_STATE c.val = 1 ∨ s.r Reg.LS_STATE c.val = 2) → s.rb Reg.LS_OPEN_LOAD c.val = false →
    i < s.r Reg.LS_OL_THRESH c.val → s.r Reg.LS_OL_FILT c.val ≤ ms →
    Answers (exec (.openLoadDetect c i ms) s) fun t =>
      t.rb Reg.LS_OPEN_LOAD c.val = true ∧ t.rbit Reg.LS_EVENT 4 c.val = true ∧
        s.onlyEvents t [Reg.LS_OPEN_LOAD.key c.val 0 0, Reg.LS_EVENT.key c.val 0 0]) ∧
  (∀ (s : State) (c : Fin 32) (i : Nat), s.r Reg.LS_OL_THRESH c.val ≤ i → Answers (exec (.openLoadClear c i) s) fun t =>
    t.rb Reg.LS_OPEN_LOAD c.val = false ∧ s.onlyRegs t [Reg.LS_OPEN_LOAD.key c.val 0 0])) ∧
  (∀ (s : State) (c : Fin 32) (q : LsSample) (k : Fin 256) (code phase : Nat), s.prot (.ls c) = .active → s.r Reg.LS_FUNCTION c.val = 1 →
    s.running = true → s.sampleHot (.ls c q) = [] → s.sampleFault (.ls c q) = some (code, phase) →
    k.val ∈ s.contactors → s.r Reg.MTX_CT_SEL_KIND 0 k.val = 1 → s.r Reg.MTX_CT_SEL_INDEX 0 k.val = c.val → s.ctWelded k.val = false →
    s.r Reg.MTX_CT_GROUP 0 k.val < 16 →
    Answers (exec (.protectionFault (.ls c q)) s) fun t =>
      t.r Reg.LS_STATE c.val = 5 ∧ t.r Reg.MTX_CT_STATE 0 k.val = 5 ∧
        (Tab.getD t.safety.latched (causeKey 9 k.val) 0).getLsbD (s.r Reg.MTX_CT_GROUP 0 k.val) = true)

/-- O44 (tier 2). The power die (R49, R217, R336, R351): without supply every channel and bridge is off with its counters at 0, no
SOUT channel is enabled and the cut island's latch is clear; when its first supply comes up it starts with everything off and a
challenge that no rule fixes; a failed switch test is the internal fault 0x22; the second supply changes nothing else. The
model's choices in it: log 79. -/
def Obligations.PowerDie : Prop :=
  (∀ s : State, Answers (exec .powerDieReset s) fun t =>
    (∀ c, c < 32 → t.r Reg.LS_STATE c = 0 ∧ t.rb Reg.LS_LATCHED c = false ∧ t.r Reg.LS_TRIES c = 0 ∧ t.r Reg.LS_FAULTS c = 0) ∧
    (∀ x, x < 6 → t.r Reg.GD_STATE x = 0 ∧ t.r Reg.GD_TRIES x = 0) ∧ t.r Reg.SAFE_ENABLED = 0 ∧ t.safety.island = 0 ∧
    t.rbit Reg.LEDGE_SUPPLIES 4 = false ∧ t.rbit Reg.LEDGE_SUPPLIES 5 = false ∧ t.drive.resets = s.drive.resets + 1 ∧
    t.drive.fed = 0 ∧ t.drive.down = true ∧ t.mem = s.mem) ∧
  (∀ (s : State) (vls : BitVec 2), vls ≠ 0 → s.drive.fed = 0 →
    (Answers (exec (.powerDieStart vls true) s) fun t =>
      (∀ c, c < 32 → t.r Reg.LS_STATE c = 0) ∧ (∀ x, x < 6 → t.r Reg.GD_STATE x = 0) ∧
        (vls.getLsbD 0 = true → t.rbit Reg.LEDGE_SUPPLIES 4 = true) ∧ (vls.getLsbD 1 = true → t.rbit Reg.LEDGE_SUPPLIES 5 = true) ∧
        t.drive.fed = vls ∧ t.drive.down = false ∧
        t.r Reg.SAFE_HB_CHALLENGE = (Config.freeWord s.free).toNat ∧ t.free = s.free + 1 ∧ t.safety = s.safety) ∧
    Answers (exec (.powerDieStart vls false) s) fun t =>
      t.rbit Reg.SAFE_INT_FAULT 2 = true ∧ Tab.find t.safety.latched (causeKey 0x22 0) = some 0xFFFF) ∧
  (∀ (s : State) (vls : BitVec 2) (ok : Bool), s.drive.fed ≠ 0 → Answers (exec (.powerDieStart vls ok) s) fun t =>
    t.drive.ls = s.drive.ls ∧ t.drive.gd = s.drive.gd ∧ t.safety = s.safety ∧ t.free = s.free ∧ s.regsBut t [Reg.LEDGE_SUPPLIES.key 0 0 0])

/-- O45 (tier 2). Inputs, splices, pulses (R228, R236, R255): four clipped samples fault an input and mark its point invalid; 400
good ones recover it; 100 samples beyond the splice limit flag the cable; an owed pulse goes out and is counted. The model's
choices in it: log 82, 85, 175. -/
def Obligations.MetrologyInputs : Prop :=
  (∀ (s : State) (m : Fin 152), 4 ≤ (s.inI m.val).clips → s.r Reg.MET_IN_STATE 0 m.val ≠ 3 →
    Answers (exec (.modInputFault m) s) fun t =>
      t.r Reg.MET_IN_STATE 0 m.val = 3 ∧ (t.inI m.val).valid = false ∧ t.rbit Reg.MET_EVENT 1 = true ∧
        t.rbit Reg.MPT_EVENT 0 (inputPoint m.val) = true ∧
        s.regsBut t [Reg.MET_IN_STATE.key 0 m.val 0, Reg.MET_EVENT.key 0 0 0, Reg.MPT_EVENT.key (inputPoint m.val) 0 0, Reg.CMD_EVENT_DROPS.key 0 0 0]) ∧
  (∀ (s : State) (m : Fin 152), 400 ≤ (s.inI m.val).good → s.r Reg.MET_IN_STATE 0 m.val = 3 →
    Answers (exec (.modInputRecover m) s) fun t =>
      t.r Reg.MET_IN_STATE 0 m.val = 1 ∧ s.onlyRegs t [Reg.MET_IN_STATE.key 0 m.val 0]) ∧
  (∀ (s : State) (n : Fin 32), 100 ≤ (s.dcI n.val).beyond → (s.dcI n.val).splice = false →
    Answers (exec (.spliceSet n) s) fun t =>
      (t.dcI n.val).splice = true ∧ t.rbit Reg.MPT_IV_FLAGS 4 (8 + n.val) = true ∧ t.rbit Reg.MPT_EVENT 2 (8 + n.val) = true ∧
        s.regsBut t [Reg.MPT_IV_FLAGS.key (8 + n.val) 0 0, Reg.MPT_EVENT.key (8 + n.val) 0 0, Reg.CMD_EVENT_DROPS.key 0 0 0]) ∧
  (∀ (s : State) (n : Fin 32), 100 ≤ (s.dcI n.val).within → (s.dcI n.val).splice = true →
    Answers (exec (.spliceClear n) s) fun t => (t.dcI n.val).splice = false ∧ t.regs = s.regs ∧ t.out = s.out) ∧
  (∀ (s : State) (j : Fin 16), s.alive = true → s.isReleased (resId 9 j.val) = false → s.r Reg.MET_PLS_BACKLOG 0 j.val ≠ 0 →
    (Tab.getD s.meter.pulses j.val { since := 4000 }).high = false →
    s.r Reg.MET_PLS_WIDTH 0 j.val * 40 ≤ (Tab.getD s.meter.pulses j.val { since := 4000 }).since →
    Answers (exec (.pulseStart j) s) fun t =>
      t.r Reg.MET_PLS_BACKLOG 0 j.val = (s.r Reg.MET_PLS_BACKLOG 0 j.val - 1) % 2 ^ 16 ∧
        t.r Reg.MET_PLS_COUNT 0 j.val = (s.r Reg.MET_PLS_COUNT 0 j.val + 1) % 2 ^ 32 ∧ t.out = s.out ++ [.pin "PLS" j.val true] ∧
        (Tab.getD t.meter.pulses j.val {}).high = true ∧
        s.regsBut t [Reg.MET_PLS_BACKLOG.key 0 j.val 0, Reg.MET_PLS_COUNT.key 0 j.val 0]) ∧
  (∀ (s : State) (j : Fin 16), (Tab.getD s.meter.pulses j.val {}).high = true →
    s.r Reg.MET_PLS_WIDTH 0 j.val * 40 ≤ (Tab.getD s.meter.pulses j.val {}).since →
    Answers (exec (.pulseEnd j) s) fun t =>
      t.regs = s.regs ∧ t.out = s.out ++ [.pin "PLS" j.val false] ∧ (Tab.getD t.meter.pulses j.val {}).high = false)

/-- O46 (tier 2). The end of a line cycle (R240 to R244, R247, R249, R251): the cycle is taken and counted; unless a sample of it is
invalid, its active energy goes to the register of its sign, the magnitude of its reactive energy to the register of its
quadrant and its apparent energy to register 6, with nothing lost below the unit, and no other register gains; a cycle with an
invalid sample is not registered. A neutral mismatch of 50 cycles is tamper class 8; a child's record is kept and joins the sums
(R254, R256). The model's choices in it: log 83, 84. -/
def Obligations.LineCycles : Prop :=
  (∀ (s : State) (p : Fin 8) (c : Cycle) (rest : List Cycle), (s.acI p.val).closed = c :: rest →
    let eP : Int := c.ys.foldl (fun t y => (List.range 3).foldl (fun t i => t + y.getD i 0 * y.getD (i + 3) 0) t) 0
    let eQ : Int := (List.range 3).foldl (fun t i => t + reactive (c.ys.map (fun y => (y.getD i 0, y.getD (i + 3) 0)))) 0
    let sq := fun i => sum53 (c.ys.map (fun y => (y.getD i 0).natAbs ^ 2))
    let eS : Nat := (List.range 3).foldl (fun t i => t + apparent (sq i) (sq (i + 3))) 0
    let quad : Nat := if 0 ≤ eP then (if 0 ≤ eQ then 0 else 3) else (if 0 ≤ eQ then 1 else 2)
    let gain : Nat → Nat := fun r => if r = 0 then eP.toNat else if r = 1 then (-eP).toNat else if r = 2 + quad then eQ.natAbs
      else if r = 6 then eS else 0
    (Answers (exec (.lineCycleEnd p) s) fun t =>
      (t.acI p.val).closed = rest ∧ t.r Reg.MPT_CYCLES p.val = (s.r Reg.MPT_CYCLES p.val + 1) % 2 ^ 32 ∧
        t.r Reg.MPT_QUADRANT p.val = quad ∧ t.mem = s.mem ∧ t.session = s.session ∧ t.bill = s.bill ∧
        ∀ m, m < 40 → m ≠ p.val → ∀ r, r < 9 → t.acc m r = s.acc m r) ∧
    ((c.ys.any fun y => decide (y.getD 10 0 ≠ 0)) = true → Answers (exec (.lineCycleEnd p) s) fun t =>
      t.rbit Reg.MPT_IV_FLAGS 1 p.val = true ∧ ∀ r, r < 9 → t.acc p.val r = s.acc p.val r) ∧
    ((c.ys.any fun y => decide (y.getD 10 0 ≠ 0)) = false → s.metering = true →
      (∀ r, r < 7 → s.acc p.val r + (s.r Reg.MPT_REM p.val r + gain r) / 144000000 < 2 ^ 64 - 1) →
      Answers (exec (.lineCycleEnd p) s) fun t => ∀ r, r < 7 →
        t.acc p.val r * 144000000 + t.r Reg.MPT_REM p.val r = s.acc p.val r * 144000000 + s.r Reg.MPT_REM p.val r + gain r)) ∧
  (∀ (s : State) (p : Fin 8), 50 ≤ (s.acI p.val).beyond → (s.acI p.val).neutral = false →
    Answers (exec (.neutralSet p) s) fun t =>
      (t.acI p.val).neutral = true ∧ t.rbit Reg.MPT_IV_FLAGS 6 p.val = true ∧ t.rbit Reg.MPT_EVENT 4 p.val = true ∧
        s.tampered t 8 ∧ t.mem = s.mem ∧
        s.regsBut t (tamperKeys 8 ++ [Reg.MPT_IV_FLAGS.key p.val 0 0, Reg.MPT_EVENT.key p.val 0 0])) ∧
  (∀ (s : State) (p : Fin 8), 50 ≤ (s.acI p.val).within → (s.acI p.val).neutral = true →
    Answers (exec (.neutralClear p) s) fun t => (t.acI p.val).neutral = false ∧ t.regs = s.regs ∧ t.out = s.out) ∧
  (∀ (s : State) (l : Fin 8) (q : MeterRec), s.running = true → s.rbit Reg.CHAIN_CHILD_MASK l.val = true →
    Answers (exec (.meterReceive l q) s) fun t =>
      Tab.find t.meter.child l.val = some q ∧ Tab.find t.meter.childAge l.val = some 0 ∧ t.rbit Reg.MPT_STALE_MASK l.val 40 = false ∧
        t.mem = s.mem ∧ t.out = s.out ∧
        (∀ r, r < 7 → t.r64 Reg.MPT_READ_LO Reg.MPT_READ_HI 40 r =
          ((s.points.filter (fun p => s.rb Reg.MPT_SUM_UP p && decide (p < 8))).foldl (fun v p => v + s.reading p r) 0 +
            (t.meter.child.map Prod.snd).foldl (fun v q => v + q.ac.getD r 0) 0) % 2 ^ 64) ∧
        s.regsBut t (Reg.MPT_STALE_MASK.key 40 0 0 :: (List.range 9).flatMap (fun r =>
          [Reg.MPT_READ_LO.key 40 r 0, Reg.MPT_READ_HI.key 40 r 0, Reg.MPT_DISP_LO.key 40 r 0, Reg.MPT_DISP_HI.key 40 r 0,
            Reg.MPT_WRAPS.key 40 r 0])))

/-- O47 (tier 2). The ebb sequence (R261): in RUN a warning is latched once with its source, the first snapshot is due with the last
sample of its wave, and it is a tamper event; the further snapshots follow 40 waves apart; a snapshot's record is asked for as
an ebb record; EBB_N high for 400 waves ends the sequence. The model's choices in it: log 86, 153. -/
def Obligations.EbbSequence : Prop :=
  (∀ (s : State) (b : BitVec 2), s.running = true → s.meter.ebb = none → b ≠ 0 →
    Answers (exec (.ebbWarning b) s) fun t =>
      t.meter.ebb = some s.now ∧ t.meter.ebbSource = b.toNat ∧ t.meter.snaps = 0 ∧ t.meter.snapDue = true ∧
        t.r Reg.MET_EBB_EVENTS = (s.r Reg.MET_EBB_EVENTS + 1) % 2 ^ Reg.MET_EBB_EVENTS.w ∧ s.tampered t 11 ∧ t.mem = s.mem ∧
        (b.getLsbD 0 = true → t.pins.ebb = true) ∧ s.regsBut t (Reg.MET_EBB_EVENTS.key 0 0 0 :: tamperKeys 11)) ∧
  (∀ (s : State) (a : Nat), s.meter.ebb = some a → s.running = true → s.meter.snaps ≠ 0 → a + 40 * s.meter.snaps ≤ s.now →
    exec .ebbSnapshot s = .next { s with meter := { s.meter with snapDue := true } }) ∧
  (∀ s : State, s.meter.snapDue = true → s.legalStore = true →
    s.ebbRecord.meter.snaps = s.meter.snaps + 1 ∧ s.ebbRecord.meter.snapDue = false ∧ s.ebbRecord.meter.seq = s.meter.seq + 1 ∧
      s.ebbRecord.asks (.bytes (poolSlot s.ebbSlot) (s.poolRecord 1 (s.meter.seq + 1) s.meter.ebbSource true)) ∧
      s.ebbRecord.regs = s.regs ∧ s.ebbRecord.mem = s.mem) ∧
  (∀ s : State, s.meter.ebb.isSome = true → 400 ≤ s.meter.highFor →
    exec .ebbRelease s = .next { s with meter := { s.meter with ebb := none, snaps := 0, snapDue := false, highFor := 0, resume := true } })

/-- O48 (tier 2). Tamper (R294 to R297): an enabled input that becomes active at its level is one event with its time, and no
further one while it stands; response 1 seals the class, response 2 erases the ledge share; while the firmware does not run, the
ledge domain keeps the count and the times; the other level ends it; an applied SEAL_CLR clears a seal, counts it, and reads 0
again. The model's choices in it: log 13, 93. -/
def Obligations.TamperResponses : Prop :=
  (∀ (s : State) (c : Fin 8) (ms : Nat), s.rb Reg.TAMP_TAMP_EN c.val = true → s.rb Reg.TAMP_ACTIVE c.val = false →
    s.alive = true ∨ s.phase = .retired ∨ s.phase = .strand →
    (Answers (exec (.tamperInputActive c (s.rb Reg.TAMP_TAMP_POL c.val) ms) s) fun t => s.tampered t c.val ∧ t.mem = s.mem) ∧
    (s.r Reg.TAMP_RESPONSE c.val ≠ 2 → Answers (exec (.tamperInputActive c (s.rb Reg.TAMP_TAMP_POL c.val) ms) s) fun t =>
      t.vault = s.vault ∧ t.session = s.session ∧ s.regsBut t (tamperKeys c.val)) ∧
    (s.r Reg.TAMP_RESPONSE c.val = 2 → Answers (exec (.tamperInputActive c (s.rb Reg.TAMP_TAMP_POL c.val) ms) s) fun t =>
      t.r Reg.TAMPX_ERASED = 1 ∧ t.vault.share = 0 ∧ t.r Reg.KEY_LEDGE_SHARE = 0)) ∧
  (∀ (s : State) (c : Fin 8) (ms : Nat), s.rb Reg.TAMP_TAMP_EN c.val = true → s.rb Reg.TAMP_ACTIVE c.val = false →
    s.alive = false → s.phase ≠ .retired → s.phase ≠ .strand →
    (Answers (exec (.tamperInputActive c (s.rb Reg.TAMP_TAMP_POL c.val) ms) s) fun t =>
      t.r Reg.TAMP_ACTIVE c.val = 1 ∧ t.r Reg.TAMP_COUNT c.val = s.r Reg.TAMP_COUNT c.val ∧ t.mem = s.mem ∧
        ∃ first, Tab.find t.bill.ledge c.val = some ((Tab.getD s.bill.ledge c.val (0, 0, 0)).1 + 1, first, s.rtc + ms)) ∧
    (s.r Reg.TAMP_RESPONSE c.val = 2 → Answers (exec (.tamperInputActive c (s.rb Reg.TAMP_TAMP_POL c.val) ms) s) fun t =>
      t.r Reg.TAMPX_ERASED = 1 ∧ t.vault.share = 0 ∧ t.r Reg.KEY_LEDGE_SHARE = 0)) ∧
  (∀ (s : State) (c : Fin 8) (ms : Nat), s.rb Reg.TAMP_TAMP_EN c.val = true →
    (s.r Reg.TAMP_ACTIVE c.val = 1 → Answers (exec (.tamperInputActive c (s.rb Reg.TAMP_TAMP_POL c.val) ms) s) fun t => s.onlyRegs t []) ∧
    Answers (exec (.tamperInputInactive c (!s.rb Reg.TAMP_TAMP_POL c.val)) s) fun t =>
      t.r Reg.TAMP_ACTIVE c.val = 0 ∧ s.onlyRegs t [Reg.TAMP_ACTIVE.key c.val 0 0]) ∧
  (∀ (s : State) (c : Fin 16), s.rb Reg.TAMP_SEAL_CLR c.val = true →
    (s.rb Reg.TAMP_SEALED c.val = true → Answers (exec (.sealClr c) s) fun t =>
      t.r Reg.TAMP_SEAL_CLR c.val = 0 ∧ t.r Reg.TAMP_SEALED c.val = 0 ∧
        t.r Reg.TAMP_SEAL_CLEARS c.val = (s.r Reg.TAMP_SEAL_CLEARS c.val + 1) % 2 ^ 32 ∧ t.asks (.tamper c.val) ∧
        t.rbit Reg.TAMPX_SEALED_MASK c.val = false ∧ t.bill = s.bill ∧ t.mem = s.mem ∧ t.out = s.out ∧
        s.regsBut t [Reg.TAMP_SEAL_CLR.key c.val 0 0, Reg.TAMP_SEALED.key c.val 0 0, Reg.TAMP_SEAL_CLEARS.key c.val 0 0,
          Reg.TAMPX_SEALED_MASK.key 0 0 0]) ∧
    (s.rb Reg.TAMP_SEALED c.val = false → Answers (exec (.sealClr c) s) fun t =>
      t.r Reg.TAMP_SEAL_CLR c.val = 0 ∧ s.onlyRegs t [Reg.TAMP_SEAL_CLR.key c.val 0 0]))

/-- O49 (tier 2). Billing time (R271, R318, R322): a time in range is accepted for the next boundary with SET and SET_GO; one out of
range is refused with 0x0E02, EVENT bit 3, and waits for nothing. In RUN the billing steps run on: of the oldest record none up
to the named one stays outstanding, and after step 8 nothing does. Credit tokens (R300 to R303, R417, R418): a digit joins the
entry, `*` drops it, `#` submits it to the check at the wave's end, and a frame repeated is no key; the entry times out; a lock
ends. An entry of a wrong length is rejected with 0x1001 and changes no credit. An accepted token is marked as used and its
record asked for; with the record its effect takes place: scope 0 gives the connector that waits for it its credit, scope 1 adds
to the balance. The model's choices in it: log 17, 90, 92. -/
def Obligations.BillingTimeAndCredit : Prop :=
  ((∀ (s : State) (e : Env) (i set : Nat), s.admits e 1 i → s.setRefused set = false →
    Answers (exec (.timeSet e set) s) fun t =>
      s.answered (((({ s with bill := { s.bill with setAt := s.rtc } } : State).queueRi ⟨Reg.BILL_SET_LO.addr 0 0 0, 0, set % 2 ^ 32⟩).queueRi
        ⟨Reg.BILL_SET_HI.addr 0 0 0, 0, set / 2 ^ 32⟩).queueRi ⟨Reg.BILL_SET_GO.addr 0 0 0, 0, 1⟩) t e i { apply := some (s.tide + 1) }) ∧
  (∀ (s : State) (e : Env) (i set : Nat), s.admits e 1 i → s.setRefused set = true →
    Answers (exec (.timeSet e set) s) fun t =>
      t.rbit Reg.BILL_EVENT 3 = true ∧ t.command.ri = s.command.ri ∧ t.bill = s.bill ∧ t.mem = s.mem ∧
        s.replied t e i { result := 0x0E02 }) ∧
  (∀ s : State, s.running = true → Answers (exec (.billingSteps 4 true) s) fun t =>
    t.bill.journal = [] ∧ t.session = s.session ∧ t.vault = s.vault ∧ t.meter = s.meter) ∧
  (∀ (s : State) (upTo : Fin 5), s.running = true → Answers (exec (.billingSteps upTo true) s) fun t =>
    (∀ q ∈ t.bill.journal.head?, ∀ i ∈ q.left, upTo.val < i) ∧ t.bill.journal.length ≤ s.bill.journal.length ∧
      t.session = s.session ∧ t.vault = s.vault ∧ t.meter = s.meter)) ∧
  ((∀ (s : State) (n : Fin 32) (seq : BitVec 16) (k : Fin 12) (port : Fin 48) (node : Fin 16), s.running = true →
    s.decl.keypads.find? (fun p => decide (p.1 = n.val)) = some (n.val, port.val, node.val) →
    1 ≤ node.val → node.val ≤ 8 →
    (Tab.find s.links.keySeq n.val ≠ some seq.toNat → Answers (exec (.keypadKey n seq k) s) fun t =>
      Tab.find t.links.keySeq n.val = some seq.toNat ∧ t.mem = s.mem ∧ t.session = s.session ∧ t.out = s.out ∧
        t.rbit Reg.T1S_NODES (node.val - 1) port.val = true ∧ s.regsBut t [Reg.T1S_NODES.key port.val 0 0]) ∧
    (Tab.find s.links.keySeq n.val ≠ some seq.toNat → k.val < 10 → Answers (exec (.keypadKey n seq k) s) fun t =>
      Tab.find t.bill.keys n.val = some ((Tab.getD s.bill.keys n.val [] ++ [k.val]).take 21) ∧ Tab.find t.bill.keyAge n.val = some 0 ∧
        t.bill.entries = s.bill.entries) ∧
    (Tab.find s.links.keySeq n.val ≠ some seq.toNat → k.val = 10 → Answers (exec (.keypadKey n seq k) s) fun t =>
      Tab.find t.bill.keys n.val = none ∧ Tab.find t.bill.keyAge n.val = none ∧ t.bill.entries = s.bill.entries) ∧
    (Tab.find s.links.keySeq n.val ≠ some seq.toNat → k.val = 11 → Answers (exec (.keypadKey n seq k) s) fun t =>
      Tab.find t.bill.keys n.val = none ∧ Tab.find t.bill.keyAge n.val = none ∧
        Tab.find t.bill.entries n.val = some (Tab.getD s.bill.keys n.val [])) ∧
    (Tab.find s.links.keySeq n.val = some seq.toNat → Answers (exec (.keypadKey n seq k) s) fun t =>
      t.bill = s.bill ∧ t.mem = s.mem ∧ t.out = s.out ∧ t.rbit Reg.T1S_NODES (node.val - 1) port.val = true ∧
        s.regsBut t [Reg.T1S_NODES.key port.val 0 0])) ∧
  (∀ (s : State) (n : Fin 32) (a : Nat), Tab.find s.bill.keyAge n.val = some a → s.r Reg.PREPAY_ENTRY_TIMEOUT < a →
    Answers (exec (.keypadEntryTimeout n) s) fun t =>
      Tab.find t.bill.keys n.val = none ∧ Tab.find t.bill.keyAge n.val = none ∧ t.regs = s.regs ∧ t.out = s.out ∧
        t.bill.entries = s.bill.entries) ∧
  (∀ (s : State) (n : Fin 32), s.bill.locked.contains n.val = true → s.r Reg.PREPAY_KP_LOCK 0 n.val = 0 →
    Answers (exec (.keypadUnlock n) s) fun t => t.bill.locked.contains n.val = false ∧ t.regs = s.regs ∧ t.out = s.out) ∧
  (∀ (s : State) (n : Fin 32) (digits : List Nat), digits.length ≠ 20 →
    let t := s.tokenCheck n.val digits
    t.r Reg.PREPAY_KP_RESULT 0 n.val = 0x1001 ∧ t.r Reg.PREPAY_REJECTED = (s.r Reg.PREPAY_REJECTED + 1) % 2 ^ 32 ∧
      t.rbit Reg.PREPAY_EVENT 1 = true ∧ t.bill = s.bill ∧ t.mem = s.mem ∧ t.meter = s.meter ∧
      s.regsBut t ([Reg.PREPAY_KP_RESULT.key 0 n.val 0, Reg.PREPAY_REJECTED.key 0 0 0, Reg.PREPAY_EVENT.key 0 0 0,
        Reg.CMD_EVENT_DROPS.key 0 0 0] ++ (s.decl.keypads.map fun k => Reg.T1S_TX_FRAMES.key k.2.1 0 0))) ∧
  (∀ (s : State) (n : Fin 32) (tok : Nat),
    let t := s.tokenAccept n.val tok
    t.r Reg.PREPAY_ACCEPTED = (s.r Reg.PREPAY_ACCEPTED + 1) % 2 ^ 32 ∧ t.r Reg.PREPAY_LAST_ID = tok / 1048576 % 1048576 ∧
      t.r Reg.PREPAY_LAST_SCOPE = tok / 131072 % 8 ∧ t.r Reg.PREPAY_LAST_AMOUNT = tok % 131072 ∧
      t.r Reg.PREPAY_LAST_CONN = n.val ∧ t.r Reg.PREPAY_KP_RESULT 0 n.val = 0 ∧ t.asks (.prep [(n.val, tok)]) ∧
      t.r Reg.PREPAY_BALANCE = s.r Reg.PREPAY_BALANCE ∧ ∀ m, m < 32 → t.r Reg.PREPAY_CREDIT 0 m = s.r Reg.PREPAY_CREDIT 0 m) ∧
  (∀ (s : State) (n : Fin 32) (tok : Nat), s.authRefused = none →
    (tok / 131072 % 8 = 0 → s.sess n.val = 2 → (s.conn n.val).token = some (tok / 1048576 % 1048576) → (s.conn n.val).tokenDone = false →
      (s.tokenEffect n.val tok).r Reg.PREPAY_CREDIT 0 n.val = tok % 131072 * 1000 ∧
        (s.tokenEffect n.val tok).r Reg.PREPAY_CR_SRC 0 n.val = 1 ∧ (s.tokenEffect n.val tok).r Reg.PREPAY_BALANCE = s.r Reg.PREPAY_BALANCE) ∧
    (tok / 131072 % 8 ≠ 0 → s.ri Reg.PREPAY_BALANCE + (tok % 131072 * 1000 : Nat) ≤ 2147483647 →
      (s.tokenEffect n.val tok).ri Reg.PREPAY_BALANCE = s.ri Reg.PREPAY_BALANCE + (tok % 131072 * 1000 : Nat) ∧
        ∀ m, m < 32 → (s.tokenEffect n.val tok).r Reg.PREPAY_CREDIT 0 m = s.r Reg.PREPAY_CREDIT 0 m)))

/-- O50 (tier 2). Throttling states and low water (R482, R485, R486): the MRAM band follows a rise at its wave; the warning ends
when the die has been cool; low water stops every energised session, saves once the matrix is open, and ends only after that.
The model's choices in it: log 128, 129. -/
def Obligations.ThermalStates : Prop :=
  (∀ (s : State) (b w : Nat), s.therm.rise = some (b, w) → w ≤ s.now →
    Answers (exec .mramParamSwitch s) fun t => t.r Reg.THERM_BAND = b % 2 ^ 3 ∧ t.therm.rise = none ∧ s.regsBut t [Reg.THERM_BAND.key 0 0 0]) ∧
  (∀ s : State, s.r Reg.THERM_STATE = 1 → 100 ≤ s.therm.cool → s.therm.lowDue = false →
    Answers (exec .warningExit s) fun t => t.r Reg.THERM_STATE = 0 ∧ s.onlyRegs t [Reg.THERM_STATE.key 0 0 0]) ∧
  (∀ s : State, s.running = true → s.wave = 0 → s.r Reg.THERM_STATE = 1 → s.therm.lowDue = true →
    Answers (exec .lowWaterBegin s) fun t =>
      t.r Reg.THERM_STATE = 2 ∧ t.r Reg.THERM_LW_COUNT = (s.r Reg.THERM_LW_COUNT + 1) % 2 ^ 32 ∧ t.rbit Reg.THERM_EVENT 1 = true ∧
        (∀ n, n < 32 → t.r Reg.SESS_STOP n = if s.energised n then 1 else s.r Reg.SESS_STOP n) ∧ t.session = s.session ∧
        s.regsBut t ([Reg.THERM_STATE.key 0 0 0, Reg.THERM_LW_COUNT.key 0 0 0, Reg.THERM_EVENT.key 0 0 0, Reg.CMD_EVENT_DROPS.key 0 0 0] ++
          (List.range 32).map (fun n => Reg.SESS_STOP.key n 0 0))) ∧
  (∀ s : State, s.running = true → s.r Reg.THERM_STATE = 2 → s.therm.saved = false → s.matrixOpen = true →
    Answers (exec .lowWaterSave s) fun t =>
      t.therm.saved = true ∧ t.regs = s.regs ∧ t.mem = s.mem ∧ t.out = s.out ∧ t.session = s.session ∧
        (∃ slot g, t.asks (.settings slot g) ∧ g.regs = s.start.settings) ∧
        (s.legalStore = true → t.asks (.bytes (poolSlot s.shutdownSlot) (s.poolRecord 3 (s.meter.seq + 1) 0 false))) ∧
        (s.cables ≠ [] → ∃ slot bytes, t.asks (.bytes (saveBase slot) bytes))) ∧
  (∀ s : State, s.running = true → s.wave = 0 → s.r Reg.THERM_STATE = 2 → 100 ≤ s.therm.cool → s.therm.saved = true →
    Answers (exec .lowWaterExit s) fun t =>
      t.r Reg.THERM_STATE = 0 ∧ t.rbit Reg.THERM_EVENT 2 = true ∧ s.onlyEvents t [Reg.THERM_STATE.key 0 0 0, Reg.THERM_EVENT.key 0 0 0])

/-- O51 (tier 2). Supplies (R489, R490, R495): the hold-up store is judged by its reading; a ledge domain that lost its supply has
no share and no valid time, and its tamper count is the greatest; a low VLEDGE is an event with its value. The model's choices
in it: log 130, 131. -/
def Obligations.Supplies : Prop :=
  (∀ s : State, s.alive = true → s.rb Reg.LEDGE_HOLD_EN = true → 6000 ≤ s.therm.holdAge →
    Answers (exec .holdupStoreTest s) fun t =>
      let v := s.inp.aux.getD (s.r Reg.LEDGE_HOLD_CHAN) 0
      t.r Reg.LEDGE_HOLD_V = v % 2 ^ 16 ∧ t.therm.storeOk = decide (s.r Reg.LEDGE_HOLD_MIN ≤ v) ∧ t.therm.holdAge = 0 ∧
        t.rb Reg.LEDGE_HOLD_PASS = (decide (s.r Reg.LEDGE_HOLD_MIN ≤ v) && s.therm.rideOk) ∧
        t.start.holdupFailed = !(decide (s.r Reg.LEDGE_HOLD_MIN ≤ v) && s.therm.rideOk) ∧
        (v < s.r Reg.LEDGE_HOLD_MIN → t.rbit Reg.LEDGE_EVENT 0 = true) ∧ t.mem = s.mem ∧ t.session = s.session ∧
        s.regsBut t [Reg.LEDGE_HOLD_V.key 0 0 0, Reg.LEDGE_HOLD_PASS.key 0 0 0, Reg.LEDGE_EVENT.key 0 0 0, Reg.CMD_EVENT_DROPS.key 0 0 0]) ∧
  (∀ s : State, Answers (exec .ledgeSupplyLoss s) fun t =>
    t.vault.share = 0 ∧ t.rb Reg.BILL_RTC_VALID = false ∧ t.r Reg.BILL_TIME_STATUS = 0x55 ∧ t.r Reg.TAMP_COUNT 9 = 0xFFFFFFFF ∧
      t.r Reg.LEDGE_RTC_LOSS = (s.r Reg.LEDGE_RTC_LOSS + 1) % 2 ^ 32 ∧ t.rbit Reg.KEY_EVENT 5 = true ∧ t.bill.ledge = [] ∧
      t.mem = s.mem ∧ t.session = s.session ∧ t.drive = s.drive ∧ t.safety = s.safety) ∧
  (∀ (s : State) (mv : Fin 4096), mv.val < 2600 →
    Answers (exec (.vledgeLow mv) s) fun t =>
      t.r Reg.LEDGE_VLEDGE = mv.val ∧ t.rbit Reg.LEDGE_EVENT 3 = true ∧ s.onlyEvents t [Reg.LEDGE_VLEDGE.key 0 0 0, Reg.LEDGE_EVENT.key 0 0 0])

/-- O52 (tier 2). The flood role (R361 to R370, R373 to R376, R80, R81): who claims, who yields, and what a switch-over leaves. A
starting unit claims at wave 0 and runs from the next boundary; an ebb unit whose health passes claims at wave 0, its sessions
that were charging paused and waiting; a unit that yields gives its notice; the pins follow; a twin in flood gives way. The
model's choices in it: log 103, 104, 107, 181. -/
def Obligations.FloodRole : Prop :=
  (∀ s : State, s.r Reg.PAIR_ROLE = 1 → s.phase = .join → s.rb Reg.PAIR_SOLO_START = true → s.r Reg.PAIR_UNIT = 0 → s.wave = 0 →
    300 ≤ s.start.joinTides → 300 ≤ s.r Reg.PAIR_LH_MISS →
    Answers (exec .soloStartClaim s) fun t =>
      t.rb Reg.PAIR_FLOOD_OUT = true ∧ t.rb Reg.PAIR_CLAIM = true ∧ t.r Reg.PAIR_ROLE = 2 ∧ t.start = { s.start with runNext := true } ∧
        t.phase = .join ∧ t.pair = s.pair ∧ t.mem = s.mem ∧
        s.regsBut t [Reg.PAIR_FLOOD_OUT.key 0 0 0, Reg.PAIR_CLAIM.key 0 0 0, Reg.PAIR_ROLE.key 0 0 0, Reg.PAIR_EVENT.key 0 0 0,
          Reg.CMD_EVENT_DROPS.key 0 0 0]) ∧
  (∀ (s : State) (c : Nat), s.pair.claimDue = some c → s.r Reg.PAIR_ROLE = 1 → s.phase = .join → s.wave = 0 →
    (s.r Reg.PAIR_UNIT = 0 ∨ s.rb Reg.PAIR_FLOOD_IN = false) →
    Answers (exec .floodClaim s) fun t =>
      t.rb Reg.PAIR_FLOOD_OUT = true ∧ t.rb Reg.PAIR_CLAIM = true ∧ t.r Reg.PAIR_ROLE = 2 ∧ t.start = { s.start with runNext := true } ∧
        t.pair = { s.pair with claimDue := none } ∧ t.phase = .join ∧ t.mem = s.mem ∧
        s.regsBut t [Reg.PAIR_FLOOD_OUT.key 0 0 0, Reg.PAIR_CLAIM.key 0 0 0, Reg.PAIR_ROLE.key 0 0 0, Reg.PAIR_EVENT.key 0 0 0,
          Reg.CMD_EVENT_DROPS.key 0 0 0]) ∧
  (∀ (s : State) (c : Nat), s.pair.claimDue = some c → s.r Reg.PAIR_ROLE = 3 → s.running = true → s.wave = 0 →
    (s.healthy = true → (s.r Reg.PAIR_UNIT = 0 ∨ s.r Reg.PAIR_UNIT = 1 ∧ s.rb Reg.PAIR_FLOOD_IN = false) →
      Answers (exec .floodClaim s) fun t =>
        t.r Reg.PAIR_ROLE = 2 ∧ t.rb Reg.PAIR_FLOOD_OUT = true ∧ t.rb Reg.PAIR_CLAIM = true ∧
          t.r Reg.PAIR_SWITCHOVERS = (s.r Reg.PAIR_SWITCHOVERS + 1) % 2 ^ 32 ∧
          t.r Reg.PAIR_LAST_SWITCH = s.tide % 2 ^ 32 ∧ t.r Reg.PAIR_LAST_CAUSE = c % 8 ∧ t.r Reg.PAIR_LAST_GAP = min 65535 s.pair.gap ∧
          t.rbit Reg.PAIR_EVENT 0 = true ∧ t.pair.claimDue = none ∧ t.alloc.grantsDue = true ∧ t.mem = s.mem) ∧
    (s.healthy = false → exec .floodClaim s = .next { s with pair := { s.pair with claimDue := none } })) ∧
  (∀ s : State, s.r Reg.PAIR_ROLE = 3 → s.running = true → s.r Reg.PAIR_UNIT = 0 → s.wave = 0 → s.rb Reg.PAIR_TAKEBACK_EN = true →
    s.r Reg.PAIR_TAKEBACK_TIDES ≤ s.r Reg.PAIR_PASS_TIDES → s.r Reg.MTX_PENDING = 0 →
    (s.rb Reg.PAIR_TAKEBACK_IDLE = true → s.anyEnergised = false) →
    Answers (exec .takeback s) fun t =>
      t.r Reg.PAIR_ROLE = 2 ∧ t.rb Reg.PAIR_FLOOD_OUT = true ∧ t.r Reg.PAIR_SWITCHOVERS = (s.r Reg.PAIR_SWITCHOVERS + 1) % 2 ^ 32 ∧
        t.r Reg.PAIR_LAST_SWITCH = s.tide % 2 ^ 32 ∧ t.r Reg.PAIR_LAST_CAUSE = 4 ∧ t.rbit Reg.PAIR_EVENT 6 = true ∧
        t.rbit Reg.PAIR_EVENT 0 = true ∧ t.mem = s.mem) ∧
  (∀ s : State, (∀ n, n < 32 → s.connCut n = false) → ∀ n, n < 32 → s.sess n = 7 ∨ s.sess n = 8 →
    s.sessionsAtClaim.sess n = 8 ∧ (s.sessionsAtClaim.conn n).suspended = true ∧ Tab.find s.sessionsAtClaim.pair.resume n = some 0) ∧
  (∀ (s : State) (c : Nat), s.pair.yieldDue = some c → s.r Reg.PAIR_ROLE = 2 → s.running = true → s.wave = 0 →
    Answers (exec .floodYield s) fun t =>
      t.r Reg.PAIR_ROLE = 4 ∧ t.rb Reg.PAIR_FLOOD_OUT = false ∧ t.rb Reg.PAIR_CLAIM = false ∧ t.mem = s.mem ∧
        t.pair = { s.pair with yieldDue := none, yieldWaves := 0, claimDue := some c } ∧
        s.regsBut t [Reg.PAIR_FLOOD_OUT.key 0 0 0, Reg.PAIR_CLAIM.key 0 0 0, Reg.PAIR_ROLE.key 0 0 0]) ∧
  (∀ s : State, s.r Reg.PAIR_HANDOVER = 0xA5 → s.wave = 0 →
    (s.r Reg.PAIR_ROLE = 2 → s.running = true → Answers (exec .handover s) fun t =>
      t.r Reg.PAIR_HANDOVER = 0 ∧ t.r Reg.PAIR_ROLE = 4 ∧ t.rb Reg.PAIR_FLOOD_OUT = false ∧ t.pair.claimDue = some 5 ∧ t.mem = s.mem ∧
        s.regsBut t [Reg.PAIR_HANDOVER.key 0 0 0, Reg.PAIR_FLOOD_OUT.key 0 0 0, Reg.PAIR_CLAIM.key 0 0 0, Reg.PAIR_ROLE.key 0 0 0]) ∧
    (s.r Reg.PAIR_ROLE ≠ 2 ∨ s.running = false → Answers (exec .handover s) fun t =>
      t.r Reg.PAIR_HANDOVER = 0 ∧ s.onlyRegs t [Reg.PAIR_HANDOVER.key 0 0 0])) ∧
  (∀ s : State, s.r Reg.PAIR_ROLE = 4 → s.running = true → s.r Reg.PAIR_YIELD_MAX ≤ s.pair.yieldWaves →
    s.rb Reg.PAIR_FLOOD_IN = false → s.wave = 0 →
    Answers (exec .yieldMaxExpiry s) fun t =>
      t.r Reg.PAIR_ROLE = 2 ∧ t.rb Reg.PAIR_FLOOD_OUT = true ∧ t.r Reg.PAIR_LAST_CAUSE = 7 ∧ t.r Reg.PAIR_LAST_SWITCH = s.tide % 2 ^ 32 ∧
        t.r Reg.PAIR_LAST_GAP = 0 ∧ t.rbit Reg.PAIR_EVENT 5 = true ∧
        t.rbit Reg.PAIR_EVENT 0 = true ∧ t.pair = { s.pair with claimDue := none } ∧ t.mem = s.mem ∧
        s.regsBut t [Reg.PAIR_FLOOD_OUT.key 0 0 0, Reg.PAIR_CLAIM.key 0 0 0, Reg.PAIR_ROLE.key 0 0 0, Reg.PAIR_LAST_SWITCH.key 0 0 0,
          Reg.PAIR_LAST_CAUSE.key 0 0 0, Reg.PAIR_LAST_GAP.key 0 0 0, Reg.PAIR_EVENT.key 0 0 0, Reg.CMD_EVENT_DROPS.key 0 0 0]) ∧
  (∀ s : State, s.clocked = true → s.rb Reg.PAIR_FLOOD_IN = false →
    (s.rb Reg.PAIR_FLOOD_OUT = false → Answers (exec (.floodInChange true) s) fun t =>
      t.rb Reg.PAIR_FLOOD_IN = true ∧ t.r Reg.PAIR_ROLE = s.r Reg.PAIR_ROLE ∧ (s.r Reg.PAIR_ROLE = 3 → t.pair.claimDue = none) ∧
        t.mem = s.mem ∧ t.out = s.out ∧ s.regsBut t [Reg.PAIR_FLOOD_IN.key 0 0 0, Reg.PAIR_CLAIM.key 0 0 0]) ∧
    (s.rb Reg.PAIR_FLOOD_OUT = true → s.r Reg.PAIR_UNIT = 0 → Answers (exec (.floodInChange true) s) fun t =>
      t.rb Reg.PAIR_FLOOD_IN = true ∧ t.rb Reg.PAIR_FLOOD_OUT = true ∧ t.rb Reg.PAIR_CLAIM = true ∧ t.r Reg.PAIR_ROLE = s.r Reg.PAIR_ROLE ∧
        t.rbit Reg.PAIR_EVENT 4 = true ∧ t.mem = s.mem ∧
        s.regsBut t [Reg.PAIR_FLOOD_IN.key 0 0 0, Reg.PAIR_CLAIM.key 0 0 0, Reg.PAIR_EVENT.key 0 0 0, Reg.CMD_EVENT_DROPS.key 0 0 0]) ∧
    (s.rb Reg.PAIR_FLOOD_OUT = true → s.r Reg.PAIR_UNIT = 1 → Answers (exec (.floodInChange true) s) fun t =>
      t.rb Reg.PAIR_FLOOD_IN = true ∧ t.rb Reg.PAIR_FLOOD_OUT = false ∧ t.rb Reg.PAIR_CLAIM = false ∧ t.r Reg.PAIR_ROLE = 3 ∧
        t.r Reg.PAIR_LAST_CAUSE = 6 ∧ t.r Reg.PAIR_LAST_GAP = 0 ∧ t.rbit Reg.PAIR_EVENT 4 = true ∧ t.rbit Reg.PAIR_EVENT 0 = true ∧
        (∀ n, n < 32 → (t.conn n).tls = false) ∧ t.mem = s.mem)) ∧
  (∀ s : State, s.rb Reg.PAIR_FLOOD_IN = true → Answers (exec (.floodInChange false) s) fun t =>
    t.rb Reg.PAIR_FLOOD_IN = false ∧ t.rb Reg.PAIR_CLAIM = s.rb Reg.PAIR_FLOOD_OUT ∧ t.mem = s.mem ∧ t.out = s.out ∧
      s.regsBut t [Reg.PAIR_FLOOD_IN.key 0 0 0, Reg.PAIR_CLAIM.key 0 0 0])

/-- O53 (tier 2). What the units of a pair and their lighthouse tell each other (R364, R366 to R369, R371, R373): HEALTH at the
partner and at the lighthouse, the lighthouse's judgement, LIGHT, the yield notice, the mirror, and the wait for a paused
session to resume. The model's choices in it: log 105, 180. -/
def Obligations.HealthLightAndMirror : Prop :=
  (∀ (s : State) (l : Fin 8) (h : HealthRec), s.alive = true →
    (s.paired = true → l.val = s.r Reg.PAIR_PAIR_LINK → Answers (exec (.healthReceive l h) s) fun t =>
      t = { s with regs := t.regs, pair := { s.pair with partner := some h, partnerNow := true } } ∧
        t.r Reg.PAIR_PARTNER_HEALTH = h.flags.toNat % 64 ∧ s.regsBut t [Reg.PAIR_PARTNER_HEALTH.key 0 0 0]) ∧
    (s.paired = false ∨ l.val ≠ s.r Reg.PAIR_PAIR_LINK → ∀ k, s.pairAt l.val = some k →
      let u := if h.twin then 1 else 0
      Answers (exec (.healthReceive l h) s) fun t =>
        t = { s with pair := { s.pair with lh := t.pair.lh } } ∧
          (∃ x, Tab.find t.pair.lh k = some x ∧ Tab.find x.health u = some h ∧ Tab.find x.links u = some l.val ∧ u ∈ x.now ∧
            (h.role = 2 → x.flood = u ∧ x.grant ≠ some u) ∧
            (h.role ≠ 2 → x.flood = (Tab.getD s.pair.lh k {}).flood ∧ x.grant = (Tab.getD s.pair.lh k {}).grant)) ∧
          ∀ q, q ≠ k → Tab.find t.pair.lh q = Tab.find s.pair.lh q)) ∧
  (∀ (s : State) (k : Nat) (x : LhPos), s.alive = true → s.wave = 0 → Tab.find s.pair.lh k = some x →
    ((x.flood = 0xFF ∨ x.miss < 3) → Answers (exec .lighthouseDecision s) fun t => Tab.find t.pair.lh k = some x ∧ t.regs = s.regs) ∧
    (x.flood ≠ 0xFF → 3 ≤ x.miss → (Tab.find x.health (1 - x.flood)).any (fun h => h.flags.getLsbD 0) = true →
      Answers (exec .lighthouseDecision s) fun t =>
        Tab.find t.pair.lh k = some { x with flood := 1 - x.flood, grant := some (1 - x.flood), miss := 0 } ∧ t.regs = s.regs) ∧
    (x.flood ≠ 0xFF → 3 ≤ x.miss → (Tab.find x.health (1 - x.flood)).any (fun h => h.flags.getLsbD 0) = false →
      Answers (exec .lighthouseDecision s) fun t =>
        Tab.find t.pair.lh k = some { x with flood := 0xFF, grant := none, miss := 0 } ∧ t.regs = s.regs)) ∧
  (∀ (s : State) (l : Fin 8) (q : LightRec), s.alive = true → s.paired = true → l.val = s.r Reg.PAIR_LH_LINK →
    (q.grant = true → (s.r Reg.PAIR_ROLE = 1 ∨ s.r Reg.PAIR_ROLE = 3) → s.pair.noticed = false → exec (.lightReceive l q) s =
      .next { s with pair := { s.pair with light := some q, lightNow := true, claimDue := some 1 } }) ∧
    (s.r Reg.PAIR_ROLE = 2 → q.flood = 1 - s.r Reg.PAIR_UNIT → exec (.lightReceive l q) s =
      .next { s with pair := { s.pair with light := some q, lightNow := true, yieldDue := some 3 } }) ∧
    ((q.grant = false ∨ s.pair.noticed = true ∨ s.r Reg.PAIR_ROLE = 4) → (s.r Reg.PAIR_ROLE ≠ 2 ∨ q.flood ≠ 1 - s.r Reg.PAIR_UNIT) →
      exec (.lightReceive l q) s = .next { s with pair := { s.pair with light := some q, lightNow := true } })) ∧
  (∀ s : State, s.paired = true → 3 ≤ s.r Reg.PAIR_LH_MISS →
    Answers (exec .lighthouseLost s) fun t =>
      t.rbit Reg.PAIR_EVENT 2 = true ∧ t.mem = s.mem ∧ s.regsBut t [Reg.PAIR_EVENT.key 0 0 0, Reg.CMD_EVENT_DROPS.key 0 0 0] ∧
        (s.r Reg.PAIR_ROLE = 2 → s.rbit Reg.PAIR_PARTNER_HEALTH 0 = true → s.rbit Reg.PAIR_PARTNER_HEALTH 4 = true →
          t.pair = { s.pair with yieldDue := some 2 }) ∧
        ((s.r Reg.PAIR_ROLE ≠ 2 ∨ s.rbit Reg.PAIR_PARTNER_HEALTH 0 = false ∨ s.rbit Reg.PAIR_PARTNER_HEALTH 4 = false) → t.pair = s.pair)) ∧
  (∀ (s : State) (l : Fin 8) (c : Nat), s.running = true → s.r Reg.PAIR_ROLE = 3 → l.val = s.r Reg.PAIR_PAIR_LINK →
    exec (.yieldNoticeReceive l c) s = .next { s with pair := { s.pair with claimDue := some c, noticed := true, gap := 0 } }) ∧
  (∀ (s : State) (l : Fin 8) (m : Mirror), s.running = true → s.r Reg.PAIR_ROLE = 3 → l.val = s.r Reg.PAIR_PAIR_LINK →
    (m.fwSvn.toNat ≠ s.r Reg.DEV_FW_SVN → exec (.mirrorReceive l m) s = .next s) ∧
    (m.fwSvn.toNat = s.r Reg.DEV_FW_SVN → m.full = true → Answers (exec (.mirrorReceive l m) s) fun t =>
      t.pair.mirror = some m ∧ t.pair.mirrorNow = true ∧ t.tide = m.tide % 2 ^ 64 ∧ t.mem = s.mem ∧ t.out = s.out ∧
        (∀ i j, t.r Reg.MTX_GUARD_MASK 0 i j = s.r Reg.MTX_GUARD_MASK 0 i j) ∧ t.r Reg.PAIR_ROLE = 3 ∧
        (∀ c, m.children = [c] → Tab.find t.alloc.children c.link = some ⟨c.curve, none, c.grant, c.since⟩) ∧
        (∀ q, m.loops = [q] → q.loop < 128 → s.rb Reg.LOOP_EBB_RUN q.loop = false →
          (t.lp q.loop).dqPrev = q.dqPrev ∧ (t.lp q.loop).anchor = q.anchor ∧ (t.lp q.loop).hist = q.hist) ∧
        (∀ q, m.moves = [q] → (Tab.getD t.matrix.moves q.slot {}).waitFor = q.waitFor) ∧
        ∀ c, m.changes.getLast? = some c → ⟨c.addr, c.lo, c.value⟩ ∈ t.command.ri) ∧
    (m.fwSvn.toNat = s.r Reg.DEV_FW_SVN → m.full = false → Answers (exec (.mirrorReceive l m) s) fun t =>
      t.pair = s.pair ∧ t.tide = s.tide ∧ t.mem = s.mem ∧ t.out = s.out ∧ t.session = s.session ∧
        (∀ c, m.changes.getLast? = some c → ⟨c.addr, c.lo, c.value⟩ ∈ t.command.ri) ∧
        (m.changes = [] → t.command.ri = s.command.ri) ∧
        ∀ iss id res app, m.window = [(iss, id, res, app)] → ∀ i, s.issuerOf iss = some i → floorOf (s.window i) ≤ id →
          (s.window i).any (fun x => decide (x.id = id)) = false → ∃ x ∈ t.window i, x.id = id ∧ x.result = res)) ∧
  (∀ (s : State) (n : Fin 32) (k : Nat), Tab.find s.pair.resume n.val = some k →
    (k < s.r Reg.PAIR_RESUME_WAIT → exec (.resumeWaitExpiry n) s = .next s) ∧
    (s.r Reg.PAIR_RESUME_WAIT ≤ k → s.sess n.val = 8 → (s.conn n.val).stopped = false → s.connCut n.val = false →
      Answers (exec (.resumeWaitExpiry n) s) fun t =>
        t.sess n.val = 9 ∧ t.r Reg.SESS_END_REASON n.val = 0x704 ∧ Tab.find t.pair.resume n.val = none ∧ t.mem = s.mem))

/-- O54 (tier 2). Keys (R381, R383 to R388, R391, R393, R396): an accepted operation makes a valid key with its attributes in its
slot and touches no other slot; a refused one makes none and is counted; a derived key takes SURVIVE and the binding from its
parent; an invalidated key takes its children with it. The model's choices in it: log 14, 17, 108, 109, 110, 111, 112, 182. -/
def Obligations.KeyOperations : Prop :=
  (∀ (s : State) (e : Env) (i : Nat) (a : KeyAttrs), s.admits e 3 i →
    (a.type ≤ 3 → s.keyCheck a a.survive = none → Answers (exec (.keyGenerate e a) s) fun t =>
      t.keyState a.slot = 1 ∧ t.r Reg.KEY_TYPE 0 a.slot = a.type ∧ t.r Reg.KEY_USAGE 0 a.slot = a.usage ∧
        t.r Reg.KEY_LIMIT 0 a.slot = a.limit ∧ t.r Reg.KEY_COUNT 0 a.slot = (if a.limit = 1 then a.count else 0) ∧
        t.rb Reg.KEY_SURVIVE 0 a.slot = a.survive ∧ t.rb Reg.KEY_LEDGE_BOUND 0 a.slot = a.ledge ∧
        t.r Reg.KEY_ORIGIN 0 a.slot = 1 ∧ t.r Reg.KEY_PARENT 0 a.slot = 511 ∧ t.r Reg.KEY_USES 0 a.slot = 0 ∧
        t.r Reg.KEY_TAG 0 a.slot = s.vault.nextTag % 2 ^ 32 ∧ t.vault.nextTag = s.vault.nextTag + 1 ∧ t.mem = s.mem ∧
        (∀ k, k < 512 → k ≠ a.slot → t.keyState k = s.keyState k ∧ Tab.find t.vault.mat k = Tab.find s.vault.mat k) ∧
        s.replied t e i { data := (Tab.getD t.vault.pub a.slot []).map BitVec.toNat } ∧
        (a.type ≠ 3 → Tab.find t.vault.pub a.slot = none)) ∧
    (a.type ≠ 4 → ∀ c, s.keyCheck a a.survive = some c → Answers (exec (.keyGenerate e a) s) fun t =>
      s.answered (s.inc Reg.KEY_REFUSED) t e i { result := c }) ∧
    (a.type = 4 → Answers (exec (.keyGenerate e a) s) fun t => s.answered (s.inc Reg.KEY_REFUSED) t e i { result := 0x1401 })) ∧
  (∀ (s : State) (e : Env) (i : Nat) (a : KeyAttrs) (anchor : Bool) (pub : List Byte) (w : KeyWrap), s.admits e 3 i → a.type = 4 →
    s.keyCheck a a.survive = none →
    (pub.length = 96 → (anchor = true → s.r Reg.KEY_ANCHORS < 16) → Answers (exec (.keyLoad e a anchor pub w) s) fun t =>
      t.keyState a.slot = 1 ∧ t.r Reg.KEY_TYPE 0 a.slot = 4 ∧ t.rb Reg.KEY_ANCHOR 0 a.slot = anchor ∧ t.r Reg.KEY_ORIGIN 0 a.slot = 2 ∧
        Tab.find t.vault.pub a.slot = some pub ∧ t.mem = s.mem ∧
        s.replied t e i {} ∧
        ∀ k, k < 512 → k ≠ a.slot → t.keyState k = s.keyState k) ∧
    (pub.length ≠ 96 → Answers (exec (.keyLoad e a anchor pub w) s) fun t =>
      s.answered (s.inc Reg.KEY_REFUSED) t e i { result := 0x1401 }) ∧
    (pub.length = 96 → anchor = true → 16 ≤ s.r Reg.KEY_ANCHORS → Answers (exec (.keyLoad e a anchor pub w) s) fun t =>
      s.answered (s.inc Reg.KEY_REFUSED) t e i { result := 0x1409 })) ∧
  (∀ (s : State) (e : Env) (i : Nat) (a : KeyAttrs) (pub : List Byte) (w : KeyWrap), s.admits e 3 i → a.type ≤ 3 →
    s.keyCheck a a.survive = none → s.keyState 6 = 1 → s.r Reg.KEY_USAGE 0 6 = 3 → s.r Reg.KEY_LIMIT 0 6 ≠ 1 → w.qe.length = 96 →
    Answers (exec (.keyLoad e a false pub w) s) fun t =>
      (∀ l, s.importUnwrap w = some l →
        (l.take 8 = attrBlock a ∧ l.length = 8 + materialLength a.type →
          t.keyState a.slot = 1 ∧ t.r Reg.KEY_ORIGIN 0 a.slot = 2 ∧ Tab.getD t.vault.mat a.slot 0 = materialOf a.type (l.drop 8) ∧
            t.r Reg.KEY_USES 0 6 = (s.r Reg.KEY_USES 0 6 + 1) % 2 ^ 32 ∧ t.mem = s.mem ∧
            (∀ k, k < 512 → k ≠ a.slot → t.keyState k = s.keyState k) ∧ s.replied t e i {}) ∧
        (¬(l.take 8 = attrBlock a ∧ l.length = 8 + materialLength a.type) →
          s.answered (s.inc Reg.KEY_REFUSED) t e i { result := 0x1405 })) ∧
      (s.importUnwrap w = none → s.answered (s.inc Reg.KEY_REFUSED) t e i { result := 0x1405 })) ∧
  (∀ (s : State) (e : Env) (i parent : Nat) (label ctx : List Byte) (a : KeyAttrs), s.admits e 3 i → parent ≤ 511 →
    label ≠ [] → label.length ≤ 32 → ctx.length ≤ 64 → a.type ≠ 4 →
    (parent ≠ 1 → s.keyState parent = 1 → s.r Reg.KEY_USAGE 0 parent = 4 →
      s.r Reg.KEY_LIMIT 0 parent ≠ 1 → s.r Reg.KEY_DEPTH 0 parent < 15 → s.keyCheck a (s.rb Reg.KEY_SURVIVE 0 parent) = none →
      Answers (exec (.keyDerive e parent label ctx a) s) fun t =>
        t.keyState a.slot = 1 ∧ t.r Reg.KEY_ORIGIN 0 a.slot = 3 ∧ t.r Reg.KEY_PARENT 0 a.slot = parent ∧
          t.r Reg.KEY_DEPTH 0 a.slot = s.r Reg.KEY_DEPTH 0 parent + 1 ∧ t.r Reg.KEY_PARENT_TAG 0 a.slot = s.r Reg.KEY_TAG 0 parent ∧
          t.rb Reg.KEY_SURVIVE 0 a.slot = s.rb Reg.KEY_SURVIVE 0 parent ∧ t.rb Reg.KEY_LEDGE_BOUND 0 a.slot = s.rb Reg.KEY_LEDGE_BOUND 0 parent ∧
          Tab.getD t.vault.mat a.slot 0 = childMaterial a.type (Tab.getD s.vault.mat parent 0) label ctx ∧
          t.keyState parent = 1 ∧ t.r Reg.KEY_USES 0 parent = (s.r Reg.KEY_USES 0 parent + 1) % 2 ^ 32 ∧ t.mem = s.mem ∧
          s.replied t e i {}) ∧
    (parent = 1 → Answers (exec (.keyDerive e parent label ctx a) s) fun t =>
      s.answered (s.inc Reg.KEY_REFUSED) t e i { result := 0x1402 }) ∧
    (parent ≠ 1 → s.keyState parent ≠ 1 → Answers (exec (.keyDerive e parent label ctx a) s) fun t =>
      s.answered (s.inc Reg.KEY_REFUSED) t e i { result := 0x1403 })) ∧
  (∀ (s : State) (e : Env) (i slot : Nat), s.admits e 1 i →
    (8 ≤ slot ∧ slot ≤ 511 ∨ slot = 0x3FF → Answers (exec (.keyInvalidate e slot) s) fun t =>
      s.answered (s.queueRi ⟨Reg.KEY_INVALIDATE.addr 0 0 0, Reg.KEY_INVALIDATE.lo, slot⟩) t e i { apply := some (s.tide + 1) }) ∧
    (slot < 8 ∨ 511 < slot ∧ slot ≠ 0x3FF → Answers (exec (.keyInvalidate e slot) s) fun t =>
      s.answered s t e i { result := 0x1401, detail := some 0 })) ∧
  (∀ (s : State) (k : Nat), s.r Reg.KEY_INVALIDATE = k → k < 512 → s.keyState k = 1 →
    s.invalidateTide.r Reg.KEY_INVALIDATE = 0x3FF ∧ s.invalidateTide.keyState k = 2 ∧ s.invalidateTide.r Reg.KEY_INV_CAUSE 0 k = 1 ∧
      ∀ d, 8 ≤ d → d < 512 → d ≠ k → s.keyState d = 1 → s.r Reg.KEY_PARENT 0 d ≠ 511 → s.r Reg.KEY_PARENT_TAG 0 d = s.r Reg.KEY_TAG 0 k →
        s.invalidateTide.keyState d = 2 ∧ s.invalidateTide.r Reg.KEY_INV_CAUSE 0 d = 3) ∧
  (∀ (s : State) (e : Env) (i slot : Nat), s.admits e 3 i → slot ≤ 511 →
    (s.keyState slot = 1 → (s.r Reg.KEY_TYPE 0 slot = 3 ∨ s.r Reg.KEY_TYPE 0 slot = 4) → Answers (exec (.keyExportPublic e slot) s) fun t =>
      s.answered s t e i { data := (Tab.getD s.vault.pub slot []).map BitVec.toNat }) ∧
    (s.keyState slot = 1 → s.r Reg.KEY_TYPE 0 slot ≤ 2 → Answers (exec (.keyExportPublic e slot) s) fun t =>
      s.answered (s.inc Reg.KEY_REFUSED) t e i { result := 0x1402 }) ∧
    (s.keyState slot ≠ 1 → Answers (exec (.keyExportPublic e slot) s) fun t =>
      s.answered (s.inc Reg.KEY_REFUSED) t e i { result := 0x1403 })) ∧
  (∀ (s : State) (e : Env) (i target : Nat), s.admits e 3 i →
    (s.keyState 1 = 1 → Answers (exec (.handoverWrap e target) s) fun t =>
      (t.area (1 - s.r Reg.KEY_STORE_AREA)).blob = true ∧ (t.area (1 - s.r Reg.KEY_STORE_AREA)).meas = some (measTag target) ∧
        t.r Reg.KEY_HANDOVER_STATE = 1 ∧ t.vault.mat = s.vault.mat ∧ t.mem = s.mem ∧
        (∀ q ∈ (t.area (1 - s.r Reg.KEY_STORE_AREA)).keys, s.keyState q.slot = 1 ∧ q.survive = true) ∧
        (∀ k, 8 ≤ k → k < 512 → s.keyState k = 1 → s.rb Reg.KEY_SURVIVE 0 k = true →
          s.keyRec k ∈ (t.area (1 - s.r Reg.KEY_STORE_AREA)).keys) ∧
        s.replied t e i {}) ∧
    (s.keyState 1 ≠ 1 → Answers (exec (.handoverWrap e target) s) fun t =>
      s.answered (s.inc Reg.KEY_REFUSED) t e i { result := 0x1403 })) ∧
  (∀ (s : State) (e : Env) (i : Nat) (l : List Nat), s.admits e 3 i →
    (l.length ≤ 4096 → Answers (exec (.denyLoad e l) s) fun t =>
      s.answered { s with vault := { s.vault with denyDue := some l } } t e i { apply := some (s.tide + 1) }) ∧
    (4096 < l.length → Answers (exec (.denyLoad e l) s) fun t => s.answered (s.inc Reg.KEY_REFUSED) t e i { result := 0x1409 })) ∧
  (∀ (s : State) (l : List Nat), s.vault.denyDue = some l →
    s.denyTide.r Reg.KEY_DENY_COUNT = l.length % 2 ^ Reg.KEY_DENY_COUNT.w ∧ s.denyTide.rb Reg.KEY_DENY_VALID = true ∧
      s.denyTide.rbit Reg.KEY_EVENT 7 = true ∧ s.denyTide.vault.denyDue = none ∧
      s.regsBut s.denyTide [Reg.KEY_DENY_COUNT.key 0 0 0, Reg.KEY_DENY_VALID.key 0 0 0, Reg.KEY_EVENT.key 0 0 0, Reg.CMD_EVENT_DROPS.key 0 0 0]) ∧
  (∀ (s : State) (o : VaultOp) (rest : List VaultOp), s.vault.ops = o :: rest → o.aborted = false →
    (Answers (exec .cryptoOperationComplete s) fun t =>
      t.vault.ops = rest ∧ t.free = s.free + 1 ∧ t.mem = s.mem ∧ t.vault.mat = s.vault.mat ∧
        ∀ no, o.record = some no → Tab.find t.vault.signed no =
          some (if o.failed then [] else leBytes 96 (Config.p384Sign o.mat o.digest s.free).toNat)) ∧
    (o.last = false ∨ s.r Reg.KEY_TAG 0 o.slot ≠ o.tag → Answers (exec .cryptoOperationComplete s) fun t => t.regs = s.regs ∧ t.out = s.out) ∧
    (o.last = true → s.r Reg.KEY_TAG 0 o.slot = o.tag → o.slot < 512 → s.keyState o.slot = 1 → Answers (exec .cryptoOperationComplete s) fun t =>
      t.keyState o.slot = 2 ∧ t.r Reg.KEY_INV_CAUSE 0 o.slot = 2 ∧ t.rbit Reg.KEY_EVENT 1 = true)) ∧
  (∀ (s : State) (e : Env) (i : Nat) (ch : List Byte), s.admits e 0 i →
    (ch.length = 32 → s.keyState 4 = 1 → Answers (exec (.attest e ch) s) fun t =>
      t.r Reg.KEY_ATTESTS = (s.r Reg.KEY_ATTESTS + 1) % 2 ^ 32 ∧ t.r Reg.KEY_USES 0 4 = (s.r Reg.KEY_USES 0 4 + 1) % 2 ^ 32 ∧
        t.rbit Reg.KEY_EVENT 6 = true ∧ t.mem = s.mem ∧ t.vault = s.vault ∧
        s.replied t e i { data := (s.attestMessage ch ++
          leBytes 48 (Config.hmac384 (Tab.getD s.vault.mat 4 0) (s.attestMessage ch)).toNat).map BitVec.toNat }) ∧
    (ch.length = 32 → s.keyState 4 ≠ 1 → Answers (exec (.attest e ch) s) fun t =>
      s.answered (s.inc Reg.KEY_REFUSED) t e i { result := 0x1407 }) ∧
    (ch.length ≠ 32 → Answers (exec (.attest e ch) s) fun t => s.answered (s.inc Reg.KEY_REFUSED) t e i { result := 0x1401 }))

/-- O55 (tier 2). OTP (R399 to R402): programming blows the spent mark first; a good read-back makes the generation valid, which
becomes active only at the next start; a bad one is an event with 0x1E06; a committed retirement blows its fuses and reads 0
again. The model's choices in it: log 114. -/
def Obligations.OtpProgramming : Prop :=
  (∀ (s : State) (e : Env) (i block g : Nat) (payload : List Byte) (w : KeyWrap), s.admits e 4 i → 2 ≤ block → block ≤ 5 →
    s.unspent block = some g → s.progAllowed block g = true → s.otp.prog = none →
    (s.otpConditions = false → payload.length ≤ genSize block - 12 →
      Answers (exec (.otpProgram e block payload w) s) fun t =>
        (block = 3 ∧ s.sealedField w = none → s.answered s t e i { result := 0x1405 }) ∧
        (block ≠ 3 ∨ s.sealedField w ≠ none →
          t.otp.prog.any (fun p => decide (p.block = block ∧ p.gen = g)) = true ∧ t.rbit Reg.OTP_SPENT (genBit block g) = true ∧
            t.r Reg.OTP_PROG_STATE = 1 ∧ t.r Reg.OTP_PROG_TARGET = genBit block g ∧ t.r Reg.OTP_VALID = s.r Reg.OTP_VALID ∧ t.mem = s.mem ∧
            (block ≠ 3 → t.otp.prog.any (fun p => decide (p.bytes = genImage block payload)) = true) ∧
            s.replied t e i {})) ∧
    (s.otpConditions = true → Answers (exec (.otpProgram e block payload w) s) fun t => s.answered s t e i { result := 0x1E04 }) ∧
    (s.otpConditions = false → genSize block - 12 < payload.length →
      Answers (exec (.otpProgram e block payload w) s) fun t => s.answered s t e i { result := 0x1E03 })) ∧
  (∀ (s : State) (p : OtpProg), s.otp.prog = some p → 2 ≤ p.block → p.block ≤ 5 → p.gen < 4 →
    (Answers (exec (.otpProgramDone true) s) fun t =>
      t.otp.prog = none ∧ t.rbit Reg.OTP_VALID (genBit p.block p.gen) = true ∧ t.r Reg.OTP_PROG_STATE = 0 ∧
        t.rbit Reg.OTP_EVENT 0 = true ∧ t.r Reg.OTP_ACTIVE = s.r Reg.OTP_ACTIVE ∧ t.start.otpChanged = true ∧ t.mem = s.mem ∧
        (p.block ≠ 3 → p.bytes.length = genSize p.block → t.genBytes p.block p.gen = p.bytes)) ∧
    (Answers (exec (.otpProgramDone false) s) fun t =>
      t.otp.prog = none ∧ t.r Reg.OTP_VALID = s.r Reg.OTP_VALID ∧ t.r Reg.OTP_PROG_STATE = 2 ∧ t.rbit Reg.OTP_EVENT 1 = true ∧
        t.r Reg.OTP_ACTIVE = s.r Reg.OTP_ACTIVE ∧ .report 0x1E06 (genBit p.block p.gen) ∈ t.out ∧ t.mem = s.mem)) ∧
  (∀ s : State, s.r Reg.OTP_RETIRE ≠ 0 →
    (s.retireRefused (s.r Reg.OTP_RETIRE) = true → Answers (exec .otpRetire s) fun t =>
      t.r Reg.OTP_RETIRE = 0 ∧ s.onlyRegs t [Reg.OTP_RETIRE.key 0 0 0]) ∧
    (s.retireRefused (s.r Reg.OTP_RETIRE) = false → Answers (exec .otpRetire s) fun t =>
      t.r Reg.OTP_RETIRE = 0 ∧ t.r Reg.OTP_RETIRED = (s.r Reg.OTP_RETIRED ||| s.r Reg.OTP_RETIRE) % 2 ^ 20 ∧
        t.rbit Reg.OTP_EVENT 2 = true ∧ t.start.otpChanged = true ∧ t.r Reg.OTP_ACTIVE = s.r Reg.OTP_ACTIVE ∧ t.mem = s.mem))

/-- O56 (tier 2). The switch (R407 to R415): a frame with errors counts and goes no further; a good one is learned from and queued
to members of its VLAN, never back to its ingress; a frame leaves when its gate is open for all of it, the highest class that
may start first, with the wave time of its start; links, gates, ages and time messages. The model's choices in it: log 115, 116,
183. -/
def Obligations.SwitchFrames : Prop :=
  (∀ (s : State) (p : Fin 17) (tick : Fin 625) (f : TsnFrame), s.alive = true → s.tsnUp p.val = true →
    (p.val < 16 → (f.fcsOk = false ∨ f.len < 64 ∨ 1522 < f.len) → Answers (exec (.tsnFrameReceive p tick f) s) fun t =>
      t.r Reg.TSN_RX_ERRORS p.val = (s.r Reg.TSN_RX_ERRORS p.val + 1) % 2 ^ 32 ∧ s.onlyRegs t [Reg.TSN_RX_ERRORS.key p.val 0 0]) ∧
    ((p.val = 16 ∨ f.fcsOk = true ∧ 64 ≤ f.len ∧ f.len ≤ 1522) →
      let own := if p.val < 16 then s.r Reg.TSN_PVID p.val else 0
      let vid := match f.tag with | some (v, _) => if v = 0 then own else v | none => own
      let cls := match f.tag with | some (_, c) => c.val | none => 0
      (Answers (exec (.tsnFrameReceive p tick f) s) fun t =>
        (p.val < 16 → t.r Reg.TSN_RX_FRAMES p.val = (s.r Reg.TSN_RX_FRAMES p.val + 1) % 2 ^ 32) ∧ t.mem = s.mem ∧ t.session = s.session ∧
          (p.val ∉ s.vlanPorts vid → t.links = s.links) ∧
          (∀ q ∈ t.links.tsn, q ∈ s.links.tsn ∨ (q.port ≠ p.val ∧ q.port ∈ s.vlanPorts vid ∧
            q = ⟨q.port, cls, f.dst.toNat, f.src.toNat, vid, f.len, s.now, tick.val, false, f.data⟩)) ∧
          (p.val ∈ s.vlanPorts vid → (s.decl.fdbStatic.any fun e => decide (e.1 = vid ∧ e.2.1 = f.src.toNat)) = false →
            s.links.fdb.length + s.decl.fdbStatic.length < 16384 →
            ∃ x ∈ t.links.fdb, x.vid = vid ∧ x.mac = f.src.toNat ∧ x.port = p.val)) ∧
      ∀ e q, p.val ∈ s.vlanPorts vid → s.decl.fdbStatic.find? (fun e => decide (e.1 = vid ∧ e.2.1 = f.dst.toNat)) = some e →
        (s.vlanPorts vid).filter (fun k => decide (k ≠ p.val ∧ k < 16) && e.2.2.getLsbD k) = [q] → s.tsnUp q = true →
        s.tsnRoom q cls f.len = true → Answers (exec (.tsnFrameReceive p tick f) s) fun t =>
          t.links.tsn = s.links.tsn ++ [⟨q, cls, f.dst.toNat, f.src.toNat, vid, f.len, s.now, tick.val, false, f.data⟩])) ∧
  (∀ (s : State) (p : Fin 16) (tick : Fin 625), s.alive = true → s.tsnUp p.val = true →
    (∀ c q, c < 8 → s.links.tsn.find? (fun q => decide (q.port = p.val ∧ q.cls = c)) = some q → s.gateFits p.val c q.len tick.val = true →
      (∀ d, c < d → d < 8 →
        (s.links.tsn.find? (fun q => decide (q.port = p.val ∧ q.cls = d))).all (fun q => !s.gateFits p.val d q.len tick.val) = true) →
      Answers (exec (.tsnFrameTransmit p tick) s) fun t =>
        t.links.tsn = s.links.tsn.erase q ∧
          t.out = s.out ++ [.link "TSN" p.val ([q.dst, q.src, q.vid, q.cls, q.len, s.waveTime tick.val] ++ q.data.map BitVec.toNat)] ∧
          t.r Reg.TSN_TX_FRAMES p.val = (s.r Reg.TSN_TX_FRAMES p.val + 1) % 2 ^ 32 ∧ t.mem = s.mem ∧
          s.regsBut t [Reg.TSN_TX_FRAMES.key p.val 0 0, Reg.TSN_TC7_WAIT.key p.val 0 0, Reg.TSNX_BUF_FREE.key 0 0 0, Reg.TSNX_BUF_MIN.key 0 0 0]) ∧
    ((∀ c, c < 8 → (s.links.tsn.find? (fun q => decide (q.port = p.val ∧ q.cls = c))).all (fun q => !s.gateFits p.val c q.len tick.val) = true) →
      exec (.tsnFrameTransmit p tick) s = .next s)) ∧
  (∀ (s : State) (p : Fin 16), s.r Reg.TSN_GCL_LEN p.val ≠ 0 →
    let e := (Tab.getD s.links.gate p.val 0 + 1) % s.r Reg.TSN_GCL_LEN p.val
    Answers (exec (.gateControlEntry p) s) fun t =>
      Tab.find t.links.gate p.val = some e ∧ t.r Reg.TSN_GATE_STATE p.val = s.r Reg.TSN_GCL_GATES p.val e % 2 ^ 8 ∧ t.mem = s.mem ∧
        t.out = s.out ∧ s.regsBut t [Reg.TSN_GATE_STATE.key p.val 0 0]) ∧
  (∀ (s : State) (vid : Nat) (mac : BitVec 48), Answers (exec (.fdbAgeOut vid mac) s) fun t =>
    (∀ x, x ∈ t.links.fdb ↔
      x ∈ s.links.fdb ∧ ¬(x.vid = vid ∧ x.mac = mac.toNat ∧ s.r Reg.TSNX_AGE_TIME * 100 ≤ s.tidesSince x.seen)) ∧
      t.r Reg.TSNX_FDB_USED = (t.links.fdb.length + s.decl.fdbStatic.length) % 2 ^ Reg.TSNX_FDB_USED.w ∧ t.mem = s.mem ∧ t.out = s.out ∧
      s.regsBut t [Reg.TSNX_FDB_USED.key 0 0 0]) ∧
  (∀ (s : State) (p : Fin 16) (up : Bool), s.r Reg.TSN_MODE p.val ≠ 0 → s.alive = true → s.isReleased (resId 0x0B p.val) = false →
    Answers (exec (.tsnLinkChange p up) s) fun t =>
      t.rb Reg.TSN_LINK p.val = up ∧ t.r Reg.TSN_SPEED p.val = (if up then modeSpeed (s.r Reg.TSN_MODE p.val) else 0) ∧
        (s.rb Reg.TSN_LINK p.val = true → up = false → t.rbit Reg.TSN_EVENT 0 p.val = true) ∧
        s.onlyEvents t [Reg.TSN_LINK.key p.val 0 0, Reg.TSN_SPEED.key p.val 0 0, Reg.TSN_EVENT.key p.val 0 0]) ∧
  (∀ (s : State) (p : Fin 16) (m : SyncMsg), s.alive = true → s.tsnUp p.val = true → s.rb Reg.TSN_AS_EN p.val = true → m.domain = 0 →
    m.valid = true →
    (m.best = true → Answers (exec (.asSyncReceive p m) s) fun t =>
      t.links.as.port = some p.val ∧ t.links.as.age = 0 ∧ t.links.as.mapping = m.mapping ∧ t.links.as.offset = m.offset ∧
        t.r Reg.TSN_AS_ROLE p.val = 2 ∧ t.mem = s.mem ∧
        ∀ q, q < 16 → q ≠ p.val → s.rb Reg.TSN_AS_EN q = true → s.r Reg.TSN_MODE q ≠ 0 → t.r Reg.TSN_AS_ROLE q = 1) ∧
    (m.best = false → s.links.as.port = some p.val → Answers (exec (.asSyncReceive p m) s) fun t =>
      t.links.as.port = some p.val ∧ t.links.as.age = 0 ∧ t.links.as.mapping = m.mapping ∧ t.links.as.offset = m.offset ∧ t.mem = s.mem ∧
        ∀ q, t.r Reg.TSN_AS_ROLE q = s.r Reg.TSN_AS_ROLE q) ∧
    (m.best = false → s.links.as.port ≠ some p.val → exec (.asSyncReceive p m) s = .next s)) ∧
  (∀ (s : State) (p : Fin 16) (sync : Bool), s.alive = true → s.tsnUp p.val = true → s.rb Reg.TSN_AS_EN p.val = true →
    s.tsnRoom p.val 6 64 = true → Answers (exec (.asMessageTimer p sync) s) fun t =>
      t.links.tsn = s.links.tsn ++ [⟨p.val, 6, asGroup, Config.ownMac.toNat, 0, 64, s.now, 0, false, [if sync then 1 else 2]⟩] ∧
        t.mem = s.mem ∧ t.out = s.out ∧ s.regsBut t [Reg.TSNX_BUF_FREE.key 0 0 0, Reg.TSNX_BUF_MIN.key 0 0 0]) ∧
  (∀ (s : State) (v6 : Bool), s.alive = true →
    exec (.icmpEcho v6) s = .next { s with out := s.out ++ [.link "ICMP" 16 [v6.toNat]] })

/-- O57 (tier 2). The field links (R416, R417, R420 to R424, R431, R432): vehicle links and peripheral nodes, the receive ring, the
mailboxes, the lone and bus-off states, rate detection, SENT frames and their loss. The model's choices in it: log 117, 118,
119. -/
def Obligations.FieldLinks : Prop :=
  (∀ (s : State) (p : Fin 48) (f : T1sFrame), s.r Reg.T1S_ROLE p.val ≠ 0 → s.alive = true →
    (f.ok = true → s.r Reg.T1S_ROLE p.val = 1 → (s.rb Reg.T1S_PLCA_EN p.val = false ∨ s.decl.t1sNodes.contains (p.val, f.node) = true) →
      Answers (exec (.t1sFrameReceive p f) s) fun t =>
      t.r Reg.T1S_RX_FRAMES p.val = (s.r Reg.T1S_RX_FRAMES p.val + 1) % 2 ^ 32 ∧ Tab.find t.links.vehicle p.val = some 0 ∧ t.out = s.out ∧
        t.mem = s.mem ∧ s.regsBut t [Reg.T1S_RX_FRAMES.key p.val 0 0, Reg.T1S_COLLISIONS.key p.val 0 0]) ∧
    (f.ok = true → s.r Reg.T1S_ROLE p.val ≠ 1 → s.decl.t1sNodes.contains (p.val, f.node) = true → 1 ≤ f.node → f.node ≤ 8 →
      Answers (exec (.t1sFrameReceive p f) s) fun t =>
        t.r Reg.T1S_RX_FRAMES p.val = (s.r Reg.T1S_RX_FRAMES p.val + 1) % 2 ^ 32 ∧ t.rbit Reg.T1S_NODES (f.node - 1) p.val = true ∧
          Tab.find t.links.nodes (p.val * 16 + f.node) = some 0 ∧ t.mem = s.mem ∧
          t.out = s.out ++ (if f.payload.head? = some 0x60 then [] else [.bytes "T1S" f.payload])) ∧
    (f.ok = true → s.rb Reg.T1S_PLCA_EN p.val = true → s.decl.t1sNodes.contains (p.val, f.node) = false →
      Answers (exec (.t1sFrameReceive p f) s) fun t =>
        t.r Reg.T1S_PLCA_ERR p.val = (s.r Reg.T1S_PLCA_ERR p.val + 1) % 2 ^ Reg.T1S_PLCA_ERR.w ∧ t.rbit Reg.T1S_EVENT 3 p.val = true ∧
          s.onlyEvents t [Reg.T1S_PLCA_ERR.key p.val 0 0, Reg.T1S_EVENT.key p.val 0 0]) ∧
    (f.ok = false → Answers (exec (.t1sFrameReceive p f) s) fun t =>
      t.r Reg.T1S_RX_ERRORS p.val = (s.r Reg.T1S_RX_ERRORS p.val + 1) % 2 ^ 32 ∧
        s.onlyRegs t [Reg.T1S_RX_ERRORS.key p.val 0 0, Reg.T1S_COLLISIONS.key p.val 0 0])) ∧
  (∀ (s : State) (p : Fin 48), s.alive = true → s.r Reg.T1S_ROLE p.val ≠ 0 → s.rb Reg.T1S_PLCA_EN p.val = true →
    s.isReleased (resId 0x0C p.val) = false →
    exec (.plcaBeacon p) s = .next { s with out := s.out ++ [.link "PLCA" p.val [s.r Reg.T1S_NODE_COUNT p.val]] }) ∧
  (∀ (s : State) (n : Fin 32), s.alive = true → s.r Reg.T1S_ROLE n.val = 1 → s.rb Reg.T1S_LINK n.val = false →
    Tab.find s.links.vehicle n.val = some 0 →
    Answers (exec (.vehicleLinkUp n) s) fun t =>
      t.rb Reg.T1S_LINK n.val = true ∧ t.rbit Reg.T1S_EVENT 0 n.val = true ∧ (t.conn n.val).link = true ∧ t.mem = s.mem ∧
        t.sess n.val = (if s.dialogues = true ∧ s.sess n.val = 0 ∧ s.connDeclared n.val = true ∧ s.proxOn n.val = true then 1 else s.sess n.val)) ∧
  (∀ (s : State) (n : Fin 32), s.alive = true → s.rb Reg.T1S_LINK n.val = true →
    s.r Reg.T1S_LINK_HOLD n.val ≤ Tab.getD s.links.vehicle n.val 0 →
    (Answers (exec (.vehicleLinkDown n) s) fun t =>
      t.rb Reg.T1S_LINK n.val = false ∧ t.rbit Reg.T1S_EVENT 1 n.val = true ∧ (t.conn n.val).link = false ∧ (t.conn n.val).tls = false ∧
        t.mem = s.mem) ∧
    (5 ≤ s.sess n.val → s.sess n.val ≤ 8 → ¬(s.sess n.val = 8 ∧ (s.conn n.val).suspended = true) → (s.conn n.val).stopped = false → s.connCut n.val = false →
      Answers (exec (.vehicleLinkDown n) s) fun t => t.sess n.val = 9 ∧ t.r Reg.SESS_END_REASON n.val = 0x704) ∧
    (1 ≤ s.sess n.val → s.sess n.val ≤ 4 → (s.conn n.val).stopped = false →
      Answers (exec (.vehicleLinkDown n) s) fun t => t.sess n.val = 13 ∧ t.r Reg.SESS_END_REASON n.val = 0x704) ∧
    (s.sess n.val = 8 → (s.conn n.val).suspended = true → Answers (exec (.vehicleLinkDown n) s) fun t => t.sess n.val = 8)) ∧
  (∀ (s : State) (p : Fin 48) (j : Fin 8), s.rbit Reg.T1S_NODES j.val p.val = true →
    s.r Reg.T1S_NODE_MISS p.val ≤ Tab.getD s.links.nodes (p.val * 16 + (j.val + 1)) 0 →
    Answers (exec (.t1sNodeLost p j) s) fun t =>
      t.rbit Reg.T1S_NODES j.val p.val = false ∧ t.rbit Reg.T1S_EVENT 2 p.val = true ∧ t.mem = s.mem ∧
        (∀ k ∈ s.decl.keypads, k.2.1 = p.val → k.2.2 = j.val + 1 → Tab.find t.bill.keys k.1 = none) ∧
        s.regsBut t [Reg.T1S_NODES.key p.val 0 0, Reg.T1S_EVENT.key p.val 0 0, Reg.CMD_EVENT_DROPS.key 0 0 0]) ∧
  (∀ (s : State) (c : Fin 8) (f : CanFrame), s.r Reg.CAN_MODE c.val ≠ 0 → s.alive = true → s.r Reg.CAN_BUS_STATE c.val ≠ 2 →
    (f.ok = true → (f.fdf = true → s.rb Reg.CAN_FD_EN c.val = true) → s.r Reg.CAN_RING_LEN c.val ≠ 0 →
      let a := s.r Reg.CAN_RING_BASE c.val + 80 * s.r Reg.CAN_RING_WR c.val
      ((s.can c.val).fill - f.taken < s.r Reg.CAN_RING_LEN c.val → Answers (exec (.canFrameReceive c f) s) fun t =>
        t.mread a 80 = s.ringEntry f (s.can c.val).dropped ∧ (∀ x, x < a ∨ a + 80 ≤ x → memRead t.mem x = memRead s.mem x) ∧
          t.r Reg.CAN_RING_WR c.val = (s.r Reg.CAN_RING_WR c.val + 1) % s.r Reg.CAN_RING_LEN c.val % 2 ^ 13 ∧
          t.r Reg.CAN_RX_FRAMES c.val = (s.r Reg.CAN_RX_FRAMES c.val + 1) % 2 ^ 32 ∧ (t.can c.val).fill = (s.can c.val).fill - f.taken + 1) ∧
      (s.r Reg.CAN_RING_LEN c.val ≤ (s.can c.val).fill - f.taken → Answers (exec (.canFrameReceive c f) s) fun t =>
        t.mem = s.mem ∧ t.r Reg.CAN_RING_DROPS c.val = (s.r Reg.CAN_RING_DROPS c.val + 1) % 2 ^ 32 ∧
          t.rbit Reg.CAN_EVENT 0 c.val = true ∧ (t.can c.val).dropped = true)) ∧
    (f.ok = false ∨ f.fdf = true ∧ s.rb Reg.CAN_FD_EN c.val = false → Answers (exec (.canFrameReceive c f) s) fun t =>
      t.mem = s.mem ∧ t.r Reg.CAN_RX_FRAMES c.val = s.r Reg.CAN_RX_FRAMES c.val ∧ t.r Reg.CAN_REC c.val = min 511 f.rxErrors)) ∧
  (∀ (s : State) (c : Fin 8) (x : CanTx) (tec : Nat), (s.can c.val).boxes = [x] → s.canDrives c.val = true →
    (x.box.fdf = true → s.rb Reg.CAN_FD_EN c.val = true) →
    let frame := Out.link "CAN" c.val (x.box.id.toNat :: x.box.ide.toNat :: x.box.fdf.toNat :: x.box.data.map (·.toNat))
    (s.r Reg.CAN_BUS_STATE c.val < 2 → Answers (exec (.canTransmit c [] true tec) s) fun t =>
      (t.can c.val).boxes = [] ∧ t.r Reg.CAN_TX_FRAMES c.val = (s.r Reg.CAN_TX_FRAMES c.val + 1) % 2 ^ 32 ∧
        t.r Reg.CAN_TEC c.val = min 511 tec ∧ (tec < 128 → s.r Reg.CAN_REC c.val < 128 → t.r Reg.CAN_BUS_STATE c.val = 0) ∧ t.mem = s.mem ∧
        frame ∈ t.out) ∧
    (s.r Reg.CAN_BUS_STATE c.val < 2 → Answers (exec (.canTransmit c [] false tec) s) fun t =>
      (t.can c.val).boxes = [{ x with fails := x.fails + 1 }] ∧ t.r Reg.CAN_TX_FRAMES c.val = s.r Reg.CAN_TX_FRAMES c.val ∧
        (256 ≤ tec → t.r Reg.CAN_BUS_STATE c.val = 2 ∧ t.rbit Reg.CAN_EVENT 2 c.val = true)) ∧
    (s.r Reg.CAN_BUS_STATE c.val = 3 → s.r Reg.CAN_LONE_PROBE c.val ≤ (s.can c.val).probe →
      (Answers (exec (.canLoneProbe c true tec) s) fun t =>
        (t.can c.val).boxes = [] ∧ (tec < 128 → s.r Reg.CAN_REC c.val < 128 → t.r Reg.CAN_BUS_STATE c.val = 0) ∧ (t.can c.val).probe = 0 ∧
          t.r Reg.CAN_TX_FRAMES c.val = (s.r Reg.CAN_TX_FRAMES c.val + 1) % 2 ^ 32 ∧ t.mem = s.mem ∧ frame ∈ t.out) ∧
      Answers (exec (.canLoneProbe c false tec) s) fun t =>
        (t.can c.val).boxes = [{ x with fails := x.fails + 1 }] ∧ (tec < 256 → t.r Reg.CAN_BUS_STATE c.val = 3) ∧ (t.can c.val).probe = 0)) ∧
  (∀ (s : State) (c : Fin 8) (l : List CanBox) (acked : Bool) (tec : Nat), s.alive = true → s.canDrives c.val = false →
    Answers (exec (.canTransmit c l acked tec) s) fun t =>
      (t.can c.val).boxes = ((s.can c.val).boxes ++ l.map (fun b => ({ box := b, wave := s.now } : CanTx))).take 32 ∧ t.regs = s.regs ∧ t.out = s.out) ∧
  (∀ (s : State) (c : Fin 8) (x : CanTx), (s.can c.val).boxes = [x] → s.r Reg.CAN_TX_TIMEOUT c.val ≤ s.now - x.wave →
    Answers (exec (.canTxTimeout c) s) fun t =>
      (t.can c.val).boxes = [] ∧ t.r Reg.CAN_TX_ABORTS c.val = (s.r Reg.CAN_TX_ABORTS c.val + 1) % 2 ^ 32 ∧
        t.rbit Reg.CAN_EVENT 5 c.val = true ∧ t.mem = s.mem ∧
        s.regsBut t [Reg.CAN_TX_ABORTS.key c.val 0 0, Reg.CAN_EVENT.key c.val 0 0, Reg.CMD_EVENT_DROPS.key 0 0 0]) ∧
  (∀ (s : State) (c : Fin 8) (x : CanTx), (s.can c.val).boxes.find? (fun y => decide (s.r Reg.CAN_LONE_LIMIT c.val ≤ y.fails)) = some x →
    s.r Reg.CAN_BUS_STATE c.val < 2 →
    Answers (exec (.canAckError c) s) fun t =>
      (t.can c.val).boxes = (s.can c.val).boxes.erase x ∧ t.r Reg.CAN_BUS_STATE c.val = 3 ∧ t.rbit Reg.CAN_EVENT 3 c.val = true ∧
        t.rbit Reg.CAN_EVENT 5 c.val = true ∧ t.r Reg.CAN_TX_ABORTS c.val = (s.r Reg.CAN_TX_ABORTS c.val + 1) % 2 ^ 32 ∧
        (t.can c.val).probe = 0 ∧ t.mem = s.mem ∧
        s.regsBut t [Reg.CAN_BUS_STATE.key c.val 0 0, Reg.CAN_TX_ABORTS.key c.val 0 0, Reg.CAN_EVENT.key c.val 0 0, Reg.CMD_EVENT_DROPS.key 0 0 0]) ∧
  (∀ (s : State) (c : Fin 8), s.r Reg.CAN_BUS_STATE c.val = 2 →
    (s.rb Reg.CAN_BUSOFF_AUTO c.val = true ∨ (s.can c.val).restart = true → Answers (exec (.canBusoffRecovery c) s) fun t =>
      t.r Reg.CAN_BUS_STATE c.val = 0 ∧ t.r Reg.CAN_TEC c.val = 0 ∧ t.r Reg.CAN_REC c.val = 0 ∧ t.mem = s.mem ∧
        s.regsBut t [Reg.CAN_BUS_STATE.key c.val 0 0, Reg.CAN_TEC.key c.val 0 0, Reg.CAN_REC.key c.val 0 0]) ∧
    (s.rb Reg.CAN_BUSOFF_AUTO c.val = false → (s.can c.val).restart = false → Answers (exec (.canBusoffRecovery c) s) fun t =>
      (t.can c.val).recovered = true ∧ t.regs = s.regs ∧ t.out = s.out) ∧
    (s.rb Reg.CAN_BUSOFF_RESTART c.val = true → (s.can c.val).recovered = true → Answers (exec (.busoffRestart c) s) fun t =>
      t.r Reg.CAN_BUS_STATE c.val = 0 ∧ t.r Reg.CAN_BUSOFF_RESTART c.val = 0 ∧ t.r Reg.CAN_TEC c.val = 0 ∧ t.r Reg.CAN_REC c.val = 0) ∧
    (s.rb Reg.CAN_BUSOFF_RESTART c.val = true → (s.can c.val).recovered = false → Answers (exec (.busoffRestart c) s) fun t =>
      t.r Reg.CAN_BUS_STATE c.val = 2 ∧ t.r Reg.CAN_BUSOFF_RESTART c.val = 0 ∧ (t.can c.val).restart = true ∧
        s.regsBut t [Reg.CAN_BUSOFF_RESTART.key c.val 0 0])) ∧
  (∀ (s : State) (c : Fin 8), s.r Reg.CAN_MODE c.val = 3 → s.r Reg.CAN_DETECT_STATE c.val = 1 →
    s.r Reg.CAN_DETECT_DWELL c.val ≤ (s.can c.val).dwell →
    Answers (exec (.rateDetectDwell c) s) fun t =>
      t.regs = s.regs ∧ t.out = s.out ∧ (t.can c.val).dwell = 0 ∧ (t.can c.val).run = 0 ∧
        (∀ k ∈ s.candidates c.val, (s.can c.val).cand < k → (t.can c.val).cand ≤ k ∧ (s.can c.val).cand < (t.can c.val).cand) ∧
        ((∀ k ∈ s.candidates c.val, k ≤ (s.can c.val).cand) → (t.can c.val).cand = (s.candidates c.val).headD 0) ∧
        ((t.can c.val).cand ∈ s.candidates c.val ∨ s.candidates c.val = [])) ∧
  (∀ (s : State) (i : Fin 16) (f : SentFrame), s.rb Reg.SENT_EN i.val = true → s.alive = true →
    (f.crcOk = false → Answers (exec (.sentFrameReceive i f) s) fun t =>
      t.r Reg.SENT_ERRORS i.val = (s.r Reg.SENT_ERRORS i.val + 1) % 2 ^ 32 ∧ t.rb Reg.SENT_VALID1 i.val = false ∧
        t.rb Reg.SENT_VALID2 i.val = false ∧ t.rbit Reg.SENT_EVENT 0 i.val = true ∧ t.r Reg.SENT_FRAMES i.val = s.r Reg.SENT_FRAMES i.val ∧
        t.r Reg.SENT_VALUE1 i.val = s.r Reg.SENT_VALUE1 i.val ∧ t.mem = s.mem) ∧
    (f.crcOk = true → f.nibblesOk = true → s.r Reg.SENT_TICK_NS i.val * 3 ≤ f.tickNs * 4 → f.tickNs * 4 ≤ s.r Reg.SENT_TICK_NS i.val * 5 →
      (∀ p, (Tab.getD s.links.sent i.val {}).tick = some p → (f.tickNs - p) + (p - f.tickNs) ≤ p / 64) →
      let raw := f.raw1.toNat % 2 ^ sentBits (s.r Reg.SENT_FORMAT i.val) 1
      let v := s.ri Reg.SENT_OFFSET1 i.val + Int.tdiv ((raw : Int) * s.ri Reg.SENT_GAIN1 i.val) 65536
      v < 2147483648 → -2147483648 ≤ v → Answers (exec (.sentFrameReceive i f) s) fun t =>
        t.ri Reg.SENT_VALUE1 i.val = v ∧ t.r Reg.SENT_RAW1 i.val = raw ∧
          t.r Reg.SENT_FRAMES i.val = (s.r Reg.SENT_FRAMES i.val + 1) % 2 ^ 32 ∧
          t.rb Reg.SENT_VALID1 i.val = decide (s.r Reg.SENT_VALID_LO1 i.val ≤ raw ∧ raw ≤ s.r Reg.SENT_VALID_HI1 i.val) ∧
          (s.r Reg.SENT_FORMAT i.val = 2 → t.rb Reg.SENT_VALID2 i.val = false ∧ t.r Reg.SENT_VALUE2 i.val = s.r Reg.SENT_VALUE2 i.val) ∧
          t.mem = s.mem)) ∧
  (∀ (s : State) (i : Fin 16), s.rb Reg.SENT_EN i.val = true →
    s.r Reg.SENT_TIMEOUT i.val * 40 ≤ s.now - (Tab.getD s.links.sent i.val {}).last →
    Answers (exec (.sentTimeout i) s) fun t =>
      t.rb Reg.SENT_VALID1 i.val = false ∧ t.rb Reg.SENT_VALID2 i.val = false ∧ t.rbit Reg.SENT_EVENT 1 i.val = true ∧
        s.onlyEvents t [Reg.SENT_VALID1.key i.val 0 0, Reg.SENT_VALID2.key i.val 0 0, Reg.SENT_EVENT.key i.val 0 0])

/-- O58 (tier 2). Requests (R446 to R449, R453, R98, R218): a request waits in the queue or is relayed as it came; a read gives the
words; a write is checked as a whole, then its bits clear at once and its values wait for the boundary; a refused write leaves
nothing; subscriptions end with their connection. The model's choices in it: log 12, 15, 17, 18, 19, 20, 27, 28, 178. -/
def Obligations.RequestsReadsAndWrites : Prop :=
  (∀ (s : State) (e : Env) (op : Nat), s.serving = true →
    ((e.addr = none ∨ ∃ a, e.addr = some a ∧ s.route a = .here) → e.decodes = true → 1 ≤ op → op ≤ 14 →
      (s.command.queue.length < 64 → Answers (exec (.commandRequestReceive e op) s) fun t =>
        t = { s with regs := t.regs, command := { s.command with queue := s.command.queue ++ [⟨e.kid, e.id, op⟩] } } ∧
          t.r Reg.CMD_QUEUE = s.command.queue.length + 1 ∧ s.regsBut t [Reg.CMD_QUEUE.key 0 0 0]) ∧
      (64 ≤ s.command.queue.length → Answers (exec (.commandRequestReceive e op) s) fun t =>
        t.rbit Reg.CMD_EVENT 5 = true ∧ t.command.queue = s.command.queue ∧ s.onlyEvents t [Reg.CMD_EVENT.key 0 0 0])) ∧
    ((e.addr = none ∨ ∃ a, e.addr = some a ∧ s.route a = .here) → (e.decodes = false ∨ op < 1 ∨ 14 < op) →
      Answers (exec (.commandRequestReceive e op) s) fun t =>
        (∀ c, e.conn = some c → t.out = s.out ++ [.reply c 0 s.serial 0x1901 [] none false none]) ∧
          t.command.queue = s.command.queue ∧ t.r Reg.CMD_REFUSED = (s.r Reg.CMD_REFUSED + 1) % 2 ^ 32 ∧ t.mem = s.mem ∧
          s.regsBut t [Reg.CMD_QUEUE.key 0 0 0, Reg.CMD_REFUSED.key 0 0 0]) ∧
    (∀ a l b, e.addr = some a → s.route a = .hop l b → Answers (exec (.commandRequestReceive e op) s) fun t =>
      t.regs = s.regs ∧ t.command = s.command ∧ t.mem = s.mem ∧ t.out = s.out ∧
        (∀ c, e.conn = some c → Tab.find t.chain.relays s.chain.msgId = some c ∧
          t.chain.queue = (s.chainSend l 0x30 b.ctrl.toNat b.path.toNat e.raw).chain.queue) ∧
        (e.conn = none → t.chain = (s.chainMessage l 0x30 b.ctrl.toNat b.path.toNat e.msgId e.raw).chain)) ∧
    (∀ a, e.addr = some a → s.route a = .parent → Answers (exec (.commandRequestReceive e op) s) fun t =>
      t.regs = s.regs ∧ t.command = s.command ∧ t.mem = s.mem ∧ t.out = s.out ∧
        t.chain.queue = (s.chainMessage (s.r Reg.CHAIN_UPSTREAM) 0x30 ctrlUp 0
          (if e.conn.isSome then s.chain.msgId else e.msgId) e.raw).chain.queue) ∧
    (∀ a c k, e.addr = some a → s.route a = .bad c → e.conn = some k → e.decodes = true →
      exec (.commandRequestReceive e op) s = .next { s with out := s.out ++ [.reply k e.id s.serial c [] none false none] })) ∧
  (∀ (s : State) (e : Env) (i addr words : Nat), s.admits e 0 i →
    (words = 0 ∨ 256 < words → Answers (exec (.read e addr words) s) fun t => s.answered s t e i { result := 0x1910 }) ∧
    (1 ≤ words → words ≤ 256 → (0x02000008 < addr ∨ addr + 4 * words ≤ 0x02000008) →
      (∀ l, (s.dequeue e).readWords addr words = some l → Answers (exec (.read e addr words) s) fun t => s.answered s t e i { data := l }) ∧
      ((s.dequeue e).readWords addr words = none → Answers (exec (.read e addr words) s) fun t =>
        s.answered s t e i { result := 0x1912, detail := some addr })) ∧
    (1 ≤ words → words ≤ 256 → addr ≤ 0x02000008 → 0x02000008 < addr + 4 * words →
      let u := s.w Reg.TIDE_TICK ((Config.freeWord s.free).toNat % 625)
      Answers (exec (.read e addr words) s) fun t => ∀ l, (u.dequeue e).readWords addr words = some l →
        s.answered u t e i { data := l } ∧ t.free = s.free + 1)) ∧
  (∀ (s : State) (e : Env) (i rid ofs len : Nat), s.admits e 0 i →
    (len = 0 ∨ 4096 < len → Answers (exec (.bufferRead e rid ofs len) s) fun t => s.answered s t e i { result := 0x1910 }) ∧
    (∀ b : BufDef, 1 ≤ len → len ≤ 4096 → s.decl.buffers.find? (fun b => decide (b.id = rid)) = some b → ofs + len ≤ b.size →
      Answers (exec (.bufferRead e rid ofs len) s) fun t => s.answered s t e i { data := (s.mread (b.base + ofs) len).map BitVec.toNat }) ∧
    (1 ≤ len → len ≤ 4096 → (∀ b : BufDef, s.decl.buffers.find? (fun b => decide (b.id = rid)) = some b → b.size < ofs + len) →
      Answers (exec (.bufferRead e rid ofs len) s) fun t => ∃ c, c ≠ 0 ∧ s.answered s t e i { result := c })) ∧
  (∀ (s : State) (e : Env) (i : Nat) (l : List WEntry), s.admits e 1 i →
    (l = [] ∨ 64 < l.length → Answers (exec (.write e l) s) fun t => s.answered s t e i { result := 0x1910 }) ∧
    (l ≠ [] → l.length ≤ 64 → ∀ ri wc, (s.dequeue e).writeEntries l 0 [] [] = .ok (ri, wc) →
      let u := ri.foldl (fun u q => u.queueRi q) (wc.foldl (fun u x => u.wcClear x.1 x.2) s)
      let v := if ri.any (fun q => decide (q.addr = Reg.BILL_SET_GO.addr 0 0 0 ∧ q.value = 1)) then
        ({ u with bill := { u.bill with setAt := s.rtc } } : State) else u
      (Answers (exec (.write e l) s) fun t => s.answered v t e i { apply := if ri = [] then none else some (s.tide + 1) }) ∧
      ∀ w, l = [w] →
        (Answers (exec (.registerWrite e none w) s) fun t =>
          s.answered v t e i { apply := if ri = [] then none else some (s.tide + 1) }) ∧
        (∀ exportSide kw, w = fieldEntry (if exportSide then Reg.ALLOC_EXPORT_LIMIT else Reg.ALLOC_IMPORT_LIMIT) 0 0 kw.toNat →
          Answers (exec (.limitWrite e exportSide kw) s) fun t =>
            s.answered v t e i { apply := if ri = [] then none else some (s.tide + 1) }) ∧
        (∀ c duty x, w = fieldEntry (if duty then Reg.LS_DUTY else Reg.LS_OUT_REQ) c.val 0 (if duty then x.toNat else x.toNat % 2) →
          Answers (exec (.lsOutputWrite e c duty x) s) fun t =>
            s.answered v t e i { apply := if ri = [] then none else some (s.tide + 1) })) ∧
    (l ≠ [] → l.length ≤ 64 → ∀ c k, (s.dequeue e).writeEntries l 0 [] [] = .error (c, k) → Answers (exec (.write e l) s) fun t =>
      s.replied t e i { result := c, detail := some k } ∧ t.command.ri = s.command.ri ∧ t.mem = s.mem ∧ t.safety = s.safety ∧
        t.session = s.session ∧ t.vault = s.vault ∧ t.bill = s.bill ∧
        s.regsBut t [Reg.CMD_QUEUE.key 0 0 0, Reg.CMD_ACCEPTED.key 0 0 0, Reg.CMD_REFUSED.key 0 0 0, Reg.CMD_ISS_FLOOR_LO.key 0 i 0,
          Reg.CMD_ISS_FLOOR_HI.key 0 i 0, Reg.CMD_ISS_HELD.key 0 i 0, Reg.CMD_ISS_COUNT.key 0 i 0, Reg.BILL_EVENT.key 0 0 0,
          Reg.BIST_EVENT.key 0 0 0, Reg.PAIR_EVENT.key 0 0 0, Reg.TIDE_OWN_REFUSED.key 0 0 0, Reg.CMD_EVENT_DROPS.key 0 0 0])) ∧
  (∀ (s : State) (e : Env) (i period : Nat) (ranges : Ranges) (blocks : BitVec 32), s.admits e 0 i →
    (e.conn = none → Answers (exec (.subscribe e period ranges blocks) s) fun t => s.answered s t e i { result := 0x1901 }) ∧
    (∀ c, e.conn = some c → (period = 0 ∨ 65535 < period ∨ 32 < ranges.length ∨ ∃ r ∈ ranges, r.2 = 0) →
      Answers (exec (.subscribe e period ranges blocks) s) fun t => s.answered s t e i { result := 0x1910 }) ∧
    (∀ c, e.conn = some c → 1 ≤ period → period ≤ 65535 → ranges.length ≤ 32 →
      (∀ r ∈ ranges, r.2 ≠ 0 ∧ ((s.dequeue e).readWords r.1 r.2).isSome = true) →
      (s.command.subs.length < 8 → Answers (exec (.subscribe e period ranges blocks) s) fun t =>
        ∃ k, k < 8 ∧ (∀ x ∈ s.command.subs, x.num ≠ k) ∧ t.command.subs = s.command.subs ++ [⟨k, c, period, ranges, blocks⟩] ∧
          t.r Reg.CMD_SUBS = s.command.subs.length + 1 ∧ s.replied t e i { data := [k] } ∧ t.mem = s.mem) ∧
      (8 ≤ s.command.subs.length → Answers (exec (.subscribe e period ranges blocks) s) fun t => s.answered s t e i { result := 0x1905 }))) ∧
  (∀ (s : State) (c : Nat), Answers (exec (.commandConnectionClose c) s) fun t =>
    t.command.subs = s.command.subs.filter (fun b => decide (b.conn ≠ c)) ∧ t.command.msgs = s.command.msgs.filter (fun m => decide (m.conn ≠ c)) ∧
      t.r Reg.CMD_SUBS = t.command.subs.length % 2 ^ Reg.CMD_SUBS.w ∧ t.out = s.out ∧ t.mem = s.mem ∧ s.regsBut t [Reg.CMD_SUBS.key 0 0 0])

/-- O59 (tier 2). Transactions and issuers (R442, R450 to R452): begin, stage, commit, roll back; a cove-wide commit is prepared,
applied at one tide by all or answered as refused; an expired issuer is purged. Staging and committing change no field. The
model's choices in it: log 18, 21, 22, 23, 24, 25, 26. -/
def Obligations.TransactionsAndIssuers : Prop :=
  (∀ (s : State) (e : Env) (i : Nat) (cove : Bool), s.admits e 2 i →
    (s.r Reg.CMD_TXN_STATE = 0 → Answers (exec (.beginTxn e cove) s) fun t =>
      t.r Reg.CMD_TXN_STATE = 1 ∧ t.rb Reg.CMD_TXN_SCOPE = cove ∧ t.r Reg.CMD_TXN_ISSUER = i % 32 ∧ t.r Reg.CMD_TXN_AGE = 0 ∧
        t.r Reg.CMD_TXN_ID = s.command.nextTxn % 2 ^ 32 ∧ t.command.staged = [] ∧ t.command.ri = s.command.ri ∧ t.mem = s.mem ∧
        s.replied t e i { data := [s.command.nextTxn] }) ∧
    (s.r Reg.CMD_TXN_STATE ≠ 0 → Answers (exec (.beginTxn e cove) s) fun t => s.answered s t e i { result := 0x1905 })) ∧
  (∀ (s : State) (e : Env) (i txn : Nat) (l : List SEntry), s.admits e 2 i →
    (s.r Reg.CMD_TXN_STATE = 0 → s.command.coveReply = none →
      (Answers (exec (.stage e txn l) s) fun t => s.answered s t e i { result := 0x1907 }) ∧
      Answers (exec (.commit e txn) s) fun t => s.answered s t e i { result := 0x1907 }) ∧
    (s.r Reg.CMD_TXN_STATE ≠ 0 → s.r Reg.CMD_TXN_ISSUER ≠ i →
      (Answers (exec (.stage e txn l) s) fun t => s.answered s t e i { result := 0x1905 }) ∧
      Answers (exec (.rollback (some e) txn) s) fun t => s.answered s t e i { result := 0x1905 })) ∧
  (∀ (s : State) (e : Env) (i txn : Nat), s.admits e 2 i → s.r Reg.CMD_TXN_STATE = 1 → s.command.prepared = false →
    s.r Reg.CMD_TXN_ISSUER = i → s.r Reg.CMD_TXN_ID = txn → s.command.coveReply = none →
    (∀ (l : List SEntry), l ≠ [] → l.length ≤ 64 →
      (∀ new, (s.dequeue e).stageEntries i (s.rb Reg.CMD_TXN_SCOPE) l 0 = .ok new →
        let all := new.foldl stagePut s.command.staged
        let u := ({ s with command := { s.command with staged := all } } : State).w Reg.CMD_TXN_FIELDS all.length
        (all.length ≤ 512 →
          (Answers (exec (.stage e txn l) s) fun t => s.answered u t e i { data := [all.length] }) ∧
          (∀ w, l = [⟨w, none⟩] → Answers (exec (.registerWrite e (some txn) w) s) fun t => s.answered u t e i { data := [all.length] }) ∧
          (∀ entry, l = [⟨fieldEntry Reg.CMD_ISS_STATE 0 entry.val 2, none⟩] →
            Answers (exec (.issuerRevoke e txn entry) s) fun t => s.answered u t e i { data := [all.length] })) ∧
        (512 < all.length → Answers (exec (.stage e txn l) s) fun t => s.answered s t e i { result := 0x1908 })) ∧
      (∀ c k, (s.dequeue e).stageEntries i (s.rb Reg.CMD_TXN_SCOPE) l 0 = .error (c, k) →
        Answers (exec (.stage e txn l) s) fun t => s.answered s t e i { result := c, detail := some k })) ∧
    (s.rb Reg.CMD_TXN_SCOPE = false → (s.dequeue e).validate s.ownStaged = none → Answers (exec (.commit e txn) s) fun t =>
      s.answered ((s.w Reg.CMD_TXN_STATE 2).w Reg.CMD_TXN_APPLY (s.tide + 1)) t e i { apply := some (s.tide + 1) } ∧
        t.r Reg.CMD_TXN_STATE = 2 ∧ t.command.applyAt = none) ∧
    (s.rb Reg.CMD_TXN_SCOPE = true → (s.dequeue e).validate s.ownStaged = none →
      (s.coveAddrs = [] → Answers (exec (.commit e txn) s) fun t =>
        t.r Reg.CMD_TXN_STATE = 2 ∧ t.command.applyAt = some (s.tide + s.r Reg.CMD_COVE_MARGIN) ∧ t.command.staged = s.command.staged ∧
          t.mem = s.mem ∧ s.replied t e i { apply := some (s.tide + s.r Reg.CMD_COVE_MARGIN) }) ∧
      (s.coveAddrs ≠ [] → Answers (exec (.commit e txn) s) fun t =>
        t.command.coveReply = some (e, i) ∧ t.command.coveTargets.map (·.addr) = s.coveAddrs ∧
          (t.command.coveTargets.all fun x => !x.ready) = true ∧ t.command.coveN = 0 ∧
          t.r Reg.CMD_TXN_STATE = 1 ∧ t.command.staged = s.command.staged ∧ t.window i = s.window i ∧ t.out = s.out ∧ t.mem = s.mem)) ∧
    (∀ c a, (s.dequeue e).validate s.ownStaged = some (c, a) → Answers (exec (.commit e txn) s) fun t =>
      t.r Reg.CMD_TXN_STATE = 1 ∧ t.command.staged = s.command.staged ∧ t.command.ri = s.command.ri ∧ t.mem = s.mem ∧
        s.replied t e i { result := c, detail := some a }) ∧
    (Answers (exec (.rollback (some e) txn) s) fun t =>
      t.r Reg.CMD_TXN_STATE = 0 ∧ t.r Reg.CMD_TXN_FIELDS = 0 ∧ t.command.staged = [] ∧ t.command.ri = s.command.ri ∧ t.mem = s.mem ∧
        s.replied t e i {})) ∧
  (∀ (s : State) (txn : Nat), s.command.prepared = true → s.r Reg.CMD_TXN_STATE = 1 → Answers (exec (.rollback none txn) s) fun t =>
    t.r Reg.CMD_TXN_STATE = 0 ∧ t.command.prepared = false ∧ t.command.staged = [] ∧ t.mem = s.mem ∧ t.out = s.out ∧
      s.regsBut t [Reg.CMD_TXN_STATE.key 0 0 0, Reg.CMD_TXN_FIELDS.key 0 0 0, Reg.CMD_TXN_RESULT.key 0 0 0, Reg.CMD_TXN_SCOPE.key 0 0 0,
        Reg.CMD_TXN_APPLY.key 0 0 0]) ∧
  (∀ s : State, s.r Reg.CMD_TXN_STATE = 1 → 6000 ≤ s.r Reg.CMD_TXN_AGE →
    (Answers (exec .transactionTimeout s) fun t =>
      t.r Reg.CMD_TXN_STATE = 0 ∧ t.command.staged = [] ∧ t.command.coveReply = none ∧ t.rbit Reg.CMD_EVENT 1 = true ∧
        t.command.ri = s.command.ri ∧ t.mem = s.mem) ∧
    (s.command.coveReply = none → Answers (exec .transactionTimeout s) fun t => t.out = s.out ∧
      s.regsBut t [Reg.CMD_TXN_STATE.key 0 0 0, Reg.CMD_TXN_FIELDS.key 0 0 0, Reg.CMD_TXN_RESULT.key 0 0 0, Reg.CMD_TXN_SCOPE.key 0 0 0,
        Reg.CMD_TXN_APPLY.key 0 0 0, Reg.CMD_EVENT.key 0 0 0, Reg.CMD_EVENT_DROPS.key 0 0 0])) ∧
  (∀ (s : State) (fields : List FieldInit), s.running = true →
    let l : List PendingField := fields.map (fun q => ⟨q.addr, q.lo, q.value⟩)
    (s.r Reg.CMD_TXN_STATE ≠ 0 → exec (.prepareReceive fields) s = .next (s.coveUp (.ready s.serial 0x1905))) ∧
    (s.r Reg.CMD_TXN_STATE = 0 → 512 < l.length → exec (.prepareReceive fields) s = .next (s.coveUp (.ready s.serial 0x1908))) ∧
    (s.r Reg.CMD_TXN_STATE = 0 → l.length ≤ 512 →
      (∀ q ∈ l, (pendPlace q).any (fun p => decide (p.f.acc = .rt)) = true) →
      (s.validate l = none → Answers (exec (.prepareReceive fields) s) fun t =>
        t.r Reg.CMD_TXN_STATE = 1 ∧ t.command.prepared = true ∧ t.r Reg.CMD_TXN_ID = s.command.nextTxn % 2 ^ 32 ∧
          t.command.staged = l.map (fun q => ⟨q, none⟩) ∧ t.mem = s.mem ∧ t.out = s.out ∧
          t.chain = (s.coveUp (.ready s.serial 0)).chain) ∧
      (∀ c a, s.validate l = some (c, a) → Answers (exec (.prepareReceive fields) s) fun t =>
        t.r Reg.CMD_TXN_STATE = 0 ∧ t.command.staged = s.command.staged ∧ t.command.prepared = s.command.prepared ∧ t.mem = s.mem ∧
          t.chain = ((s.refusalMark c).coveUp (.ready s.serial c)).chain))) ∧
  (∀ (s : State) (x : CoveTarget) (sn : BitVec 128) (err i c : Nat) (e : Env), s.command.coveReply = some (e, i) → e.conn = some c →
    e.decodes = true → s.command.coveTargets = [x] →
    (s.command.coveN = 0 → s.r Reg.CMD_TXN_STATE = 1 → err ≠ 0 → Answers (exec (.readyReceive x.addr sn err) s) fun t =>
      t.command.coveReply = none ∧ t.command.coveTargets = [] ∧ t.r Reg.CMD_TXN_STATE = 1 ∧ t.command.staged = s.command.staged ∧
        t.mem = s.mem ∧ t.out = s.out ++ [.reply c e.id s.serial 0x190C [err] none false (some sn.toNat)]) ∧
    (s.command.coveN = 0 → s.r Reg.CMD_TXN_STATE = 1 → Answers (exec (.readyReceive x.addr sn 0) s) fun t =>
      t.r Reg.CMD_TXN_STATE = 2 ∧ t.command.coveN = s.tide + s.r Reg.CMD_COVE_MARGIN ∧
        t.command.applyAt = some (s.tide + s.r Reg.CMD_COVE_MARGIN) ∧ t.command.coveReply = s.command.coveReply ∧ t.mem = s.mem ∧
        t.out = s.out ∧
        (x.acked = false → t.chain = (s.coveSend x.addr (.commitAt (s.tide + s.r Reg.CMD_COVE_MARGIN))).chain)) ∧
    (s.tide < s.command.coveN → Answers (exec (.commitAtAckReceive x.addr) s) fun t =>
      t.command.coveReply = none ∧ t.mem = s.mem ∧ t.out = s.out ++ [.reply c e.id s.serial 0 [] (some s.command.coveN) false none]) ∧
    (s.command.coveN ≠ 0 → s.command.coveN ≤ s.tide → x.acked = false → Answers (exec .coveCommitDeadline s) fun t =>
      t.command.coveReply = none ∧ t.command.coveTargets = [] ∧ t.command.coveN = 0 ∧ t.rbit Reg.CMD_EVENT 3 = true ∧
        t.command.applyAt = s.command.applyAt ∧ t.mem = s.mem ∧
        t.out = s.out ++ [.reply c e.id s.serial 0x190D [x.serial.toNat] none false (some x.serial.toNat)])) ∧
  (∀ (s : State) (n : Nat), s.command.prepared = true → s.r Reg.CMD_TXN_STATE ≠ 0 → Answers (exec (.commitAtReceive n) s) fun t =>
    t.r Reg.CMD_TXN_STATE = 2 ∧ t.r Reg.CMD_TXN_APPLY = n % 2 ^ 32 ∧ t.command = { s.command with applyAt := some n } ∧
      t.chain = (s.coveUp (.ack s.serial)).chain ∧ t.out = s.out ∧ t.mem = s.mem ∧
      s.regsBut t [Reg.CMD_TXN_STATE.key 0 0 0, Reg.CMD_TXN_APPLY.key 0 0 0]) ∧
  (∀ (s : State) (e : Env) (i entry : Nat), s.admits e 8 i →
    (entry < 32 → s.rb Reg.BILL_RTC_VALID = true → s.r Reg.CMD_ISS_NOT_AFTER 0 entry < s.rtcS → Answers (exec (.issuerPurge e entry) s) fun t =>
      t.r Reg.CMD_ISS_STATE 0 entry = 0 ∧ t.r Reg.CMD_ISS_RIGHTS 0 entry = 0 ∧ t.mem = s.mem ∧ s.replied t e i {} ∧
        ∀ k, k < 32 → k ≠ entry → t.r Reg.CMD_ISS_STATE 0 k = s.r Reg.CMD_ISS_STATE 0 k) ∧
    (entry < 32 → (s.rb Reg.BILL_RTC_VALID = false ∨ s.rtcS ≤ s.r Reg.CMD_ISS_NOT_AFTER 0 entry) →
      Answers (exec (.issuerPurge e entry) s) fun t => s.answered s t e i { result := 0x1911 }) ∧
    (32 ≤ entry → Answers (exec (.issuerPurge e entry) s) fun t => s.answered s t e i { result := 0x1910 }))

/-- O60 (tier 2). Update (R458 to R467, R473, R474): the stages of UPD.STATE, each step only from its stage; an activation writes
the trial header and orders the reset with cause 0x04, in strand mode with cause 0x07; a trial is confirmed, or reset at its
deadline. A reset ordered in SERVICE with the firmware running waits for the shutdown record (R262); outside SERVICE none is
due. The model's choices in it: log 39, 122, 123, 124, 125, 126. -/
def Obligations.UpdateStages : Prop :=
  (∀ (s : State) (e : Env) (i : Nat) (a : OpenArgs), s.admits e 5 i →
    ((s.r Reg.UPD_STATE = 0 ∨ s.r Reg.UPD_STATE = 3 ∨ s.r Reg.UPD_STATE = 5) → s.inTrial = false →
      (a.bank = none → 1 ≤ a.fwLength →
        a.fwLength ≤ 25165824 → 1 ≤ a.ttLength → a.ttLength ≤ 4194304 → s.minFwSvn ≤ a.fwSvn → a.fwSvn < 4294967296 →
        Answers (exec (.updateOpen e a) s) fun t =>
          t.r Reg.UPD_STATE = 1 ∧ t.rb Reg.UPD_TARGET = (!s.rb Reg.DEV_BOOT_BANK) ∧ t.r Reg.UPD_FW_RECEIVED = 0 ∧
            t.r Reg.UPD_TT_RECEIVED = 0 ∧ t.start.fwCopy = false ∧ t.mem = s.mem ∧ s.replied t e i {} ∧
            (∀ c ∈ t.store.flash, c.1 < partOffset (!s.rb Reg.DEV_BOOT_BANK) false ∨ partOffset (!s.rb Reg.DEV_BOOT_BANK) false + 0x1C00000 ≤ c.1) ∧
            (s.headerNow.seq < 4294967295 → t.headerNow.bank (!s.rb Reg.DEV_BOOT_BANK) =
              { state := 0, fwLength := a.fwLength, ttLength := a.ttLength, fwSvn := a.fwSvn, fwDigest := a.fwDigest.toNat,
                ttDigest := a.ttDigest.toNat })) ∧
      (a.bank.isSome = true ∨ 25165824 < a.fwLength ∨ a.ttLength = 0 ∨ 4194304 < a.ttLength ∨ a.fwLength ≠ 0 ∧ a.fwSvn < s.minFwSvn →
        Answers (exec (.updateOpen e a) s) fun t => s.answered s t e i { result := 0x1A01 } ∧ t.store = s.store)) ∧
    ((s.r Reg.UPD_STATE = 1 ∨ s.r Reg.UPD_STATE = 2 ∨ s.r Reg.UPD_STATE = 4 ∨ s.r Reg.UPD_STATE = 6) →
      Answers (exec (.updateOpen e a) s) fun t => s.answered s t e i { result := 0x1A02 } ∧ t.store = s.store)) ∧
  (∀ s : State, s.serving = true → s.r Reg.UPD_STATE = 1 →
    (s.start.fwCopy = false → Answers (exec .bankEraseDone s) fun t => t.r Reg.UPD_STATE = 2 ∧ s.onlyRegs t [Reg.UPD_STATE.key 0 0 0]) ∧
    (s.start.fwCopy = true → Answers (exec .bankEraseDone s) fun t =>
      t.r Reg.UPD_STATE = 2 ∧ t.start.fwCopy = false ∧ t.mem = s.mem ∧ t.out = s.out ∧
        t.r Reg.UPD_FW_RECEIVED = (s.headerNow.bank (s.rb Reg.UPD_TARGET)).fwLength % 2 ^ Reg.UPD_FW_RECEIVED.w ∧
        s.regsBut t [Reg.UPD_STATE.key 0 0 0, Reg.UPD_FW_RECEIVED.key 0 0 0])) ∧
  (∀ (s : State) (e : Env) (i : Nat) (tt : Bool) (data : List Byte) (f : Option FwImage) (m : Option TtImage), s.admits e 5 i →
    (s.r Reg.UPD_STATE ≠ 2 → ∀ ofs, Answers (exec (.updateChunk e tt ofs data f m) s) fun t => s.answered s t e i { result := 0x1A02 }) ∧
    (s.r Reg.UPD_STATE = 2 →
      let b := s.rb Reg.UPD_TARGET
      let fld := if tt then Reg.UPD_TT_RECEIVED else Reg.UPD_FW_RECEIVED
      let len := if tt then (s.headerNow.bank b).ttLength else (s.headerNow.bank b).fwLength
      (∀ ofs, ofs ≠ s.r fld → Answers (exec (.updateChunk e tt ofs data f m) s) fun t =>
        s.answered s t e i { result := 0x1A03, detail := some (s.r fld) } ∧ t.store = s.store) ∧
      (data ≠ [] → data.length ≤ 8192 → data.length % 256 = 0 → s.r fld + data.length < len →
        Answers (exec (.updateChunk e tt (s.r fld) data f m) s) fun t =>
          t.r fld = (s.r fld + data.length) % 2 ^ fld.w ∧
            t.store = { s.store with flash := storePutAll s.store.flash (partOffset b tt + s.r fld) data } ∧ t.mem = s.mem ∧
            t.r Reg.UPD_STATE = 2 ∧ s.replied t e i {}) ∧
      (data ≠ [] → data.length ≤ 8192 → s.r fld + data.length = len → len < 2 ^ fld.w →
        s.r (if tt then Reg.UPD_FW_RECEIVED else Reg.UPD_TT_RECEIVED) = (if tt then (s.headerNow.bank b).fwLength else (s.headerNow.bank b).ttLength) →
        Answers (exec (.updateChunk e tt (s.r fld) data f m) s) fun t =>
          t.r Reg.UPD_STATE = 3 ∧ t.rbit Reg.UPD_EVENT 0 = true ∧ t.mem = s.mem ∧ s.replied t e i {}))) ∧
  (∀ (s : State) (e : Env) (i : Nat), s.admits e 5 i →
    (s.r Reg.UPD_STATE = 3 → Answers (exec (.updateVerify e) s) fun t => s.answered (s.w Reg.UPD_STATE 4) t e i {}) ∧
    (s.r Reg.UPD_STATE ≠ 3 → Answers (exec (.updateVerify e) s) fun t => s.answered s t e i { result := 0x1A02 }) ∧
    (s.r Reg.UPD_STATE = 5 → s.actRefusal = none → Answers (exec (.updateActivate e) s) fun t =>
      s.answered (s.w Reg.UPD_STATE 6) t e i {} ∧ t.start.actFrom = some s.tideStart) ∧
    (∀ c, s.r Reg.UPD_STATE = 5 → s.actRefusal = some c → Answers (exec (.updateActivate e) s) fun t => s.answered s t e i { result := c }) ∧
    (s.r Reg.UPD_STATE ≠ 5 → Answers (exec (.updateActivate e) s) fun t => s.answered s t e i { result := 0x1A02 }) ∧
    (1 ≤ s.r Reg.UPD_STATE → s.r Reg.UPD_STATE ≤ 6 → s.start.actX = none → Answers (exec (.updateAbort e) s) fun t =>
      s.answered (s.w Reg.UPD_STATE 0) t e i {} ∧ t.start.actFrom = none) ∧
    (s.r Reg.UPD_STATE = 0 → Answers (exec (.updateAbort e) s) fun t => s.answered s t e i { result := 0x1A02 })) ∧
  (∀ (s : State) (e : Env) (i : Nat), s.phase = .strand → s.ebbRole = false → (s.dequeue e).gate e 5 = (.pass i, s.dequeue e) →
    s.r Reg.UPD_STATE = 5 → s.rb Reg.UPD_LOCK = false → Answers (exec (.updateActivate e) s) fun t =>
      t.phase = .reset ∧ t.r Reg.DEV_RESET_CAUSE = 7 ∧ t.pending = s.pending ∧
        (s.headerNow.seq < 4294967295 →
          t.headerNow.active = s.rb Reg.UPD_TARGET ∧ (t.headerNow.bank (s.rb Reg.UPD_TARGET)).state = 3)) ∧
  (∀ s : State, s.serving = true → s.r Reg.UPD_STATE = 4 →
    (s.bankCheck (s.rb Reg.UPD_TARGET) (s.rbit Reg.DEV_STRAPS 1) = none → Answers (exec .verifyComplete s) fun t =>
      t.r Reg.UPD_STATE = 5 ∧ t.r Reg.UPD_RESULT = 0 ∧ t.r Reg.UPD_DETAIL = 0 ∧ t.mem = s.mem ∧ t.out = s.out ∧
        (s.headerNow.seq < 4294967295 → (t.headerNow.bank (s.rb Reg.UPD_TARGET)).state = 2)) ∧
    (∀ exit x, s.bankCheck (s.rb Reg.UPD_TARGET) (s.rbit Reg.DEV_STRAPS 1) = some (exit, x) → Answers (exec .verifyComplete s) fun t =>
      t.r Reg.UPD_STATE = 0 ∧ t.r Reg.UPD_RESULT = 0x1A04 ∧ t.r Reg.UPD_DETAIL = exit % 2 ^ 16 ∧ t.rbit Reg.UPD_EVENT 1 = true ∧
        t.mem = s.mem ∧ (s.headerNow.seq < 4294967295 → (t.headerNow.bank (s.rb Reg.UPD_TARGET)).state = 5))) ∧
  (∀ s : State, s.running = true → s.wave = 0 → s.r Reg.UPD_STATE = 6 → s.start.actX = none → s.anyEnergised = false →
    s.actRefusal = none → s.ebbLatched = false →
    (s.quiet → s.r Reg.DEV_LIFECYCLE ≠ 3 → s.headerNow.seq < 4294967295 → Answers (exec (.activationBegin true) s) fun t =>
      s.resetLeaves t 4 ∧ t.headerNow.active = s.rb Reg.UPD_TARGET ∧ (t.headerNow.bank (s.rb Reg.UPD_TARGET)).state = 3) ∧
    (s.start.ordered = none → s.r Reg.DEV_LIFECYCLE = 3 → s.headerNow.seq < 4294967295 → Answers (exec (.activationBegin true) s) fun t =>
      t.start.ordered = some 4 ∧ t.start.shutDue = true ∧ t.r Reg.SAFE_ENABLED = 0 ∧ t.phase = s.phase ∧ t.mem = s.mem ∧
        t.headerNow.active = s.rb Reg.UPD_TARGET ∧ (t.headerNow.bank (s.rb Reg.UPD_TARGET)).state = 3) ∧
    (Answers (exec (.activationBegin false) s) fun t =>
      t.r Reg.UPD_STATE = 5 ∧ t.r Reg.UPD_RESULT = 0x1A0B ∧ t.rbit Reg.UPD_EVENT 2 = true ∧ t.start.actX = none ∧ t.start.actFrom = none ∧
        t.phase = s.phase ∧ t.mem = s.mem)) ∧
  (∀ (s : State) (a : Nat), s.start.actFrom = some a → s.r Reg.UPD_STATE = 6 → s.start.actX = none → s.r Reg.UPD_ACT_WAIT ≤ s.tidesSince a →
    Answers (exec .actWaitExpiry s) fun t =>
      t.r Reg.UPD_STATE = 5 ∧ t.r Reg.UPD_RESULT = 0x1A0B ∧ t.rbit Reg.UPD_EVENT 2 = true ∧ t.start.actFrom = none ∧ t.mem = s.mem ∧
        t.out = s.out ∧
        s.regsBut t [Reg.UPD_STATE.key 0 0 0, Reg.UPD_RESULT.key 0 0 0, Reg.UPD_EVENT.key 0 0 0, Reg.CMD_EVENT_DROPS.key 0 0 0]) ∧
  (∀ s : State, s.running = true → s.inTrial = true →
    (s.r Reg.UPD_CONFIRM_AFTER ≤ s.start.runTides → s.r Reg.KEY_HANDOVER_STATE ≠ 3 → s.start.ordered = none →
      Answers (exec .trialConfirm s) fun t =>
        t.r Reg.UPD_STATE = 0 ∧ t.r Reg.UPD_TRIAL_LEFT = 0 ∧ t.r Reg.UPD_CONFIRMED = (s.r Reg.UPD_CONFIRMED + 1) % 2 ^ 32 ∧
          t.rbit Reg.UPD_EVENT 3 = true ∧ t.phase = s.phase ∧ t.mem = s.mem ∧
          (s.headerNow.seq < 4294967295 → (t.headerNow.bank (s.rb Reg.DEV_BOOT_BANK)).state = 4)) ∧
    (60000 ≤ s.start.runTides → s.quiet → s.r Reg.DEV_LIFECYCLE ≠ 3 → Answers (exec .trialDeadline s) fun t => s.resetLeaves t 4) ∧
    (60000 ≤ s.start.runTides → s.start.ordered = none → s.r Reg.DEV_LIFECYCLE = 3 → Answers (exec .trialDeadline s) fun t =>
      t.start.ordered = some 4 ∧ t.start.shutDue = true ∧ t.r Reg.SAFE_ENABLED = 0 ∧ t.phase = s.phase ∧ t.mem = s.mem)) ∧
  (∀ (s : State) (e : Env) (op : Nat),
    (s.phase = .strand → s.command.queue.length < 64 → e.decodes = true → 1 ≤ op → op ≤ 14 →
      Answers (exec (.imageFrameReceive e op true) s) fun t =>
        t = { s with regs := t.regs, command := { s.command with queue := s.command.queue ++ [⟨e.kid, e.id, op⟩] } } ∧
          t.r Reg.CMD_QUEUE = s.command.queue.length + 1 ∧ s.regsBut t [Reg.CMD_QUEUE.key 0 0 0]) ∧
    exec (.imageFrameReceive e op false) s = .next s)
end

