-- ==== Sys2Proof/Laws/State.lean ====
section
/-! SUPPORT. One lemma per field and per update of the state: what each update leaves, and what it sets. Every one holds by
rfl, so that no later proof unfolds a record update. -/
namespace Sys2Proof.Machine

/-! `modFabric` -/
@[simp] theorem State.modFabric_regs (s : State) (g : FabricI → FabricI) : (s.modFabric g).regs = s.regs := rfl
@[simp] theorem State.modFabric_mem (s : State) (g : FabricI → FabricI) : (s.modFabric g).mem = s.mem := rfl
@[simp] theorem State.modFabric_out (s : State) (g : FabricI → FabricI) : (s.modFabric g).out = s.out := rfl
@[simp] theorem State.modFabric_free (s : State) (g : FabricI → FabricI) : (s.modFabric g).free = s.free := rfl
@[simp] theorem State.modFabric_waves (s : State) (g : FabricI → FabricI) : (s.modFabric g).waves = s.waves := rfl
@[simp] theorem State.modFabric_phase (s : State) (g : FabricI → FabricI) : (s.modFabric g).phase = s.phase := rfl
@[simp] theorem State.modFabric_pins (s : State) (g : FabricI → FabricI) : (s.modFabric g).pins = s.pins := rfl
@[simp] theorem State.modFabric_fabric (s : State) (g : FabricI → FabricI) : (s.modFabric g).fabric = g s.fabric := rfl
@[simp] theorem State.modFabric_store (s : State) (g : FabricI → FabricI) : (s.modFabric g).store = s.store := rfl
@[simp] theorem State.modFabric_start (s : State) (g : FabricI → FabricI) : (s.modFabric g).start = s.start := rfl
@[simp] theorem State.modFabric_chain (s : State) (g : FabricI → FabricI) : (s.modFabric g).chain = s.chain := rfl
@[simp] theorem State.modFabric_alloc (s : State) (g : FabricI → FabricI) : (s.modFabric g).alloc = s.alloc := rfl
@[simp] theorem State.modFabric_safety (s : State) (g : FabricI → FabricI) : (s.modFabric g).safety = s.safety := rfl
@[simp] theorem State.modFabric_matrix (s : State) (g : FabricI → FabricI) : (s.modFabric g).matrix = s.matrix := rfl
@[simp] theorem State.modFabric_session (s : State) (g : FabricI → FabricI) : (s.modFabric g).session = s.session := rfl
@[simp] theorem State.modFabric_drive (s : State) (g : FabricI → FabricI) : (s.modFabric g).drive = s.drive := rfl
@[simp] theorem State.modFabric_inp (s : State) (g : FabricI → FabricI) : (s.modFabric g).inp = s.inp := rfl
@[simp] theorem State.modFabric_pair (s : State) (g : FabricI → FabricI) : (s.modFabric g).pair = s.pair := rfl
@[simp] theorem State.modFabric_command (s : State) (g : FabricI → FabricI) : (s.modFabric g).command = s.command := rfl
@[simp] theorem State.modFabric_vault (s : State) (g : FabricI → FabricI) : (s.modFabric g).vault = s.vault := rfl
@[simp] theorem State.modFabric_meter (s : State) (g : FabricI → FabricI) : (s.modFabric g).meter = s.meter := rfl
@[simp] theorem State.modFabric_bill (s : State) (g : FabricI → FabricI) : (s.modFabric g).bill = s.bill := rfl
@[simp] theorem State.modFabric_otp (s : State) (g : FabricI → FabricI) : (s.modFabric g).otp = s.otp := rfl
@[simp] theorem State.modFabric_loop (s : State) (g : FabricI → FabricI) : (s.modFabric g).loop = s.loop := rfl
@[simp] theorem State.modFabric_links (s : State) (g : FabricI → FabricI) : (s.modFabric g).links = s.links := rfl
@[simp] theorem State.modFabric_therm (s : State) (g : FabricI → FabricI) : (s.modFabric g).therm = s.therm := rfl
@[simp] theorem State.modFabric_pending (s : State) (g : FabricI → FabricI) : (s.modFabric g).pending = s.pending := rfl

/-! `modStore` -/
@[simp] theorem State.modStore_regs (s : State) (g : TideStore → TideStore) : (s.modStore g).regs = s.regs := rfl
@[simp] theorem State.modStore_mem (s : State) (g : TideStore → TideStore) : (s.modStore g).mem = s.mem := rfl
@[simp] theorem State.modStore_out (s : State) (g : TideStore → TideStore) : (s.modStore g).out = s.out := rfl
@[simp] theorem State.modStore_free (s : State) (g : TideStore → TideStore) : (s.modStore g).free = s.free := rfl
@[simp] theorem State.modStore_waves (s : State) (g : TideStore → TideStore) : (s.modStore g).waves = s.waves := rfl
@[simp] theorem State.modStore_phase (s : State) (g : TideStore → TideStore) : (s.modStore g).phase = s.phase := rfl
@[simp] theorem State.modStore_pins (s : State) (g : TideStore → TideStore) : (s.modStore g).pins = s.pins := rfl
@[simp] theorem State.modStore_fabric (s : State) (g : TideStore → TideStore) : (s.modStore g).fabric = s.fabric := rfl
@[simp] theorem State.modStore_store (s : State) (g : TideStore → TideStore) : (s.modStore g).store = g s.store := rfl
@[simp] theorem State.modStore_start (s : State) (g : TideStore → TideStore) : (s.modStore g).start = s.start := rfl
@[simp] theorem State.modStore_chain (s : State) (g : TideStore → TideStore) : (s.modStore g).chain = s.chain := rfl
@[simp] theorem State.modStore_alloc (s : State) (g : TideStore → TideStore) : (s.modStore g).alloc = s.alloc := rfl
@[simp] theorem State.modStore_safety (s : State) (g : TideStore → TideStore) : (s.modStore g).safety = s.safety := rfl
@[simp] theorem State.modStore_matrix (s : State) (g : TideStore → TideStore) : (s.modStore g).matrix = s.matrix := rfl
@[simp] theorem State.modStore_session (s : State) (g : TideStore → TideStore) : (s.modStore g).session = s.session := rfl
@[simp] theorem State.modStore_drive (s : State) (g : TideStore → TideStore) : (s.modStore g).drive = s.drive := rfl
@[simp] theorem State.modStore_inp (s : State) (g : TideStore → TideStore) : (s.modStore g).inp = s.inp := rfl
@[simp] theorem State.modStore_pair (s : State) (g : TideStore → TideStore) : (s.modStore g).pair = s.pair := rfl
@[simp] theorem State.modStore_command (s : State) (g : TideStore → TideStore) : (s.modStore g).command = s.command := rfl
@[simp] theorem State.modStore_vault (s : State) (g : TideStore → TideStore) : (s.modStore g).vault = s.vault := rfl
@[simp] theorem State.modStore_meter (s : State) (g : TideStore → TideStore) : (s.modStore g).meter = s.meter := rfl
@[simp] theorem State.modStore_bill (s : State) (g : TideStore → TideStore) : (s.modStore g).bill = s.bill := rfl
@[simp] theorem State.modStore_otp (s : State) (g : TideStore → TideStore) : (s.modStore g).otp = s.otp := rfl
@[simp] theorem State.modStore_loop (s : State) (g : TideStore → TideStore) : (s.modStore g).loop = s.loop := rfl
@[simp] theorem State.modStore_links (s : State) (g : TideStore → TideStore) : (s.modStore g).links = s.links := rfl
@[simp] theorem State.modStore_therm (s : State) (g : TideStore → TideStore) : (s.modStore g).therm = s.therm := rfl
@[simp] theorem State.modStore_pending (s : State) (g : TideStore → TideStore) : (s.modStore g).pending = s.pending := rfl

/-! `modStart` -/
@[simp] theorem State.modStart_regs (s : State) (g : StartI → StartI) : (s.modStart g).regs = s.regs := rfl
@[simp] theorem State.modStart_mem (s : State) (g : StartI → StartI) : (s.modStart g).mem = s.mem := rfl
@[simp] theorem State.modStart_out (s : State) (g : StartI → StartI) : (s.modStart g).out = s.out := rfl
@[simp] theorem State.modStart_free (s : State) (g : StartI → StartI) : (s.modStart g).free = s.free := rfl
@[simp] theorem State.modStart_waves (s : State) (g : StartI → StartI) : (s.modStart g).waves = s.waves := rfl
@[simp] theorem State.modStart_phase (s : State) (g : StartI → StartI) : (s.modStart g).phase = s.phase := rfl
@[simp] theorem State.modStart_pins (s : State) (g : StartI → StartI) : (s.modStart g).pins = s.pins := rfl
@[simp] theorem State.modStart_fabric (s : State) (g : StartI → StartI) : (s.modStart g).fabric = s.fabric := rfl
@[simp] theorem State.modStart_store (s : State) (g : StartI → StartI) : (s.modStart g).store = s.store := rfl
@[simp] theorem State.modStart_start (s : State) (g : StartI → StartI) : (s.modStart g).start = g s.start := rfl
@[simp] theorem State.modStart_chain (s : State) (g : StartI → StartI) : (s.modStart g).chain = s.chain := rfl
@[simp] theorem State.modStart_alloc (s : State) (g : StartI → StartI) : (s.modStart g).alloc = s.alloc := rfl
@[simp] theorem State.modStart_safety (s : State) (g : StartI → StartI) : (s.modStart g).safety = s.safety := rfl
@[simp] theorem State.modStart_matrix (s : State) (g : StartI → StartI) : (s.modStart g).matrix = s.matrix := rfl
@[simp] theorem State.modStart_session (s : State) (g : StartI → StartI) : (s.modStart g).session = s.session := rfl
@[simp] theorem State.modStart_drive (s : State) (g : StartI → StartI) : (s.modStart g).drive = s.drive := rfl
@[simp] theorem State.modStart_inp (s : State) (g : StartI → StartI) : (s.modStart g).inp = s.inp := rfl
@[simp] theorem State.modStart_pair (s : State) (g : StartI → StartI) : (s.modStart g).pair = s.pair := rfl
@[simp] theorem State.modStart_command (s : State) (g : StartI → StartI) : (s.modStart g).command = s.command := rfl
@[simp] theorem State.modStart_vault (s : State) (g : StartI → StartI) : (s.modStart g).vault = s.vault := rfl
@[simp] theorem State.modStart_meter (s : State) (g : StartI → StartI) : (s.modStart g).meter = s.meter := rfl
@[simp] theorem State.modStart_bill (s : State) (g : StartI → StartI) : (s.modStart g).bill = s.bill := rfl
@[simp] theorem State.modStart_otp (s : State) (g : StartI → StartI) : (s.modStart g).otp = s.otp := rfl
@[simp] theorem State.modStart_loop (s : State) (g : StartI → StartI) : (s.modStart g).loop = s.loop := rfl
@[simp] theorem State.modStart_links (s : State) (g : StartI → StartI) : (s.modStart g).links = s.links := rfl
@[simp] theorem State.modStart_therm (s : State) (g : StartI → StartI) : (s.modStart g).therm = s.therm := rfl
@[simp] theorem State.modStart_pending (s : State) (g : StartI → StartI) : (s.modStart g).pending = s.pending := rfl

/-! `modChain` -/
@[simp] theorem State.modChain_regs (s : State) (g : ChainI → ChainI) : (s.modChain g).regs = s.regs := rfl
@[simp] theorem State.modChain_mem (s : State) (g : ChainI → ChainI) : (s.modChain g).mem = s.mem := rfl
@[simp] theorem State.modChain_out (s : State) (g : ChainI → ChainI) : (s.modChain g).out = s.out := rfl
@[simp] theorem State.modChain_free (s : State) (g : ChainI → ChainI) : (s.modChain g).free = s.free := rfl
@[simp] theorem State.modChain_waves (s : State) (g : ChainI → ChainI) : (s.modChain g).waves = s.waves := rfl
@[simp] theorem State.modChain_phase (s : State) (g : ChainI → ChainI) : (s.modChain g).phase = s.phase := rfl
@[simp] theorem State.modChain_pins (s : State) (g : ChainI → ChainI) : (s.modChain g).pins = s.pins := rfl
@[simp] theorem State.modChain_fabric (s : State) (g : ChainI → ChainI) : (s.modChain g).fabric = s.fabric := rfl
@[simp] theorem State.modChain_store (s : State) (g : ChainI → ChainI) : (s.modChain g).store = s.store := rfl
@[simp] theorem State.modChain_start (s : State) (g : ChainI → ChainI) : (s.modChain g).start = s.start := rfl
@[simp] theorem State.modChain_chain (s : State) (g : ChainI → ChainI) : (s.modChain g).chain = g s.chain := rfl
@[simp] theorem State.modChain_alloc (s : State) (g : ChainI → ChainI) : (s.modChain g).alloc = s.alloc := rfl
@[simp] theorem State.modChain_safety (s : State) (g : ChainI → ChainI) : (s.modChain g).safety = s.safety := rfl
@[simp] theorem State.modChain_matrix (s : State) (g : ChainI → ChainI) : (s.modChain g).matrix = s.matrix := rfl
@[simp] theorem State.modChain_session (s : State) (g : ChainI → ChainI) : (s.modChain g).session = s.session := rfl
@[simp] theorem State.modChain_drive (s : State) (g : ChainI → ChainI) : (s.modChain g).drive = s.drive := rfl
@[simp] theorem State.modChain_inp (s : State) (g : ChainI → ChainI) : (s.modChain g).inp = s.inp := rfl
@[simp] theorem State.modChain_pair (s : State) (g : ChainI → ChainI) : (s.modChain g).pair = s.pair := rfl
@[simp] theorem State.modChain_command (s : State) (g : ChainI → ChainI) : (s.modChain g).command = s.command := rfl
@[simp] theorem State.modChain_vault (s : State) (g : ChainI → ChainI) : (s.modChain g).vault = s.vault := rfl
@[simp] theorem State.modChain_meter (s : State) (g : ChainI → ChainI) : (s.modChain g).meter = s.meter := rfl
@[simp] theorem State.modChain_bill (s : State) (g : ChainI → ChainI) : (s.modChain g).bill = s.bill := rfl
@[simp] theorem State.modChain_otp (s : State) (g : ChainI → ChainI) : (s.modChain g).otp = s.otp := rfl
@[simp] theorem State.modChain_loop (s : State) (g : ChainI → ChainI) : (s.modChain g).loop = s.loop := rfl
@[simp] theorem State.modChain_links (s : State) (g : ChainI → ChainI) : (s.modChain g).links = s.links := rfl
@[simp] theorem State.modChain_therm (s : State) (g : ChainI → ChainI) : (s.modChain g).therm = s.therm := rfl
@[simp] theorem State.modChain_pending (s : State) (g : ChainI → ChainI) : (s.modChain g).pending = s.pending := rfl

/-! `modAlloc` -/
@[simp] theorem State.modAlloc_regs (s : State) (g : AllocI → AllocI) : (s.modAlloc g).regs = s.regs := rfl
@[simp] theorem State.modAlloc_mem (s : State) (g : AllocI → AllocI) : (s.modAlloc g).mem = s.mem := rfl
@[simp] theorem State.modAlloc_out (s : State) (g : AllocI → AllocI) : (s.modAlloc g).out = s.out := rfl
@[simp] theorem State.modAlloc_free (s : State) (g : AllocI → AllocI) : (s.modAlloc g).free = s.free := rfl
@[simp] theorem State.modAlloc_waves (s : State) (g : AllocI → AllocI) : (s.modAlloc g).waves = s.waves := rfl
@[simp] theorem State.modAlloc_phase (s : State) (g : AllocI → AllocI) : (s.modAlloc g).phase = s.phase := rfl
@[simp] theorem State.modAlloc_pins (s : State) (g : AllocI → AllocI) : (s.modAlloc g).pins = s.pins := rfl
@[simp] theorem State.modAlloc_fabric (s : State) (g : AllocI → AllocI) : (s.modAlloc g).fabric = s.fabric := rfl
@[simp] theorem State.modAlloc_store (s : State) (g : AllocI → AllocI) : (s.modAlloc g).store = s.store := rfl
@[simp] theorem State.modAlloc_start (s : State) (g : AllocI → AllocI) : (s.modAlloc g).start = s.start := rfl
@[simp] theorem State.modAlloc_chain (s : State) (g : AllocI → AllocI) : (s.modAlloc g).chain = s.chain := rfl
@[simp] theorem State.modAlloc_alloc (s : State) (g : AllocI → AllocI) : (s.modAlloc g).alloc = g s.alloc := rfl
@[simp] theorem State.modAlloc_safety (s : State) (g : AllocI → AllocI) : (s.modAlloc g).safety = s.safety := rfl
@[simp] theorem State.modAlloc_matrix (s : State) (g : AllocI → AllocI) : (s.modAlloc g).matrix = s.matrix := rfl
@[simp] theorem State.modAlloc_session (s : State) (g : AllocI → AllocI) : (s.modAlloc g).session = s.session := rfl
@[simp] theorem State.modAlloc_drive (s : State) (g : AllocI → AllocI) : (s.modAlloc g).drive = s.drive := rfl
@[simp] theorem State.modAlloc_inp (s : State) (g : AllocI → AllocI) : (s.modAlloc g).inp = s.inp := rfl
@[simp] theorem State.modAlloc_pair (s : State) (g : AllocI → AllocI) : (s.modAlloc g).pair = s.pair := rfl
@[simp] theorem State.modAlloc_command (s : State) (g : AllocI → AllocI) : (s.modAlloc g).command = s.command := rfl
@[simp] theorem State.modAlloc_vault (s : State) (g : AllocI → AllocI) : (s.modAlloc g).vault = s.vault := rfl
@[simp] theorem State.modAlloc_meter (s : State) (g : AllocI → AllocI) : (s.modAlloc g).meter = s.meter := rfl
@[simp] theorem State.modAlloc_bill (s : State) (g : AllocI → AllocI) : (s.modAlloc g).bill = s.bill := rfl
@[simp] theorem State.modAlloc_otp (s : State) (g : AllocI → AllocI) : (s.modAlloc g).otp = s.otp := rfl
@[simp] theorem State.modAlloc_loop (s : State) (g : AllocI → AllocI) : (s.modAlloc g).loop = s.loop := rfl
@[simp] theorem State.modAlloc_links (s : State) (g : AllocI → AllocI) : (s.modAlloc g).links = s.links := rfl
@[simp] theorem State.modAlloc_therm (s : State) (g : AllocI → AllocI) : (s.modAlloc g).therm = s.therm := rfl
@[simp] theorem State.modAlloc_pending (s : State) (g : AllocI → AllocI) : (s.modAlloc g).pending = s.pending := rfl

/-! `modSafety` -/
@[simp] theorem State.modSafety_regs (s : State) (g : SafetyI → SafetyI) : (s.modSafety g).regs = s.regs := rfl
@[simp] theorem State.modSafety_mem (s : State) (g : SafetyI → SafetyI) : (s.modSafety g).mem = s.mem := rfl
@[simp] theorem State.modSafety_out (s : State) (g : SafetyI → SafetyI) : (s.modSafety g).out = s.out := rfl
@[simp] theorem State.modSafety_free (s : State) (g : SafetyI → SafetyI) : (s.modSafety g).free = s.free := rfl
@[simp] theorem State.modSafety_waves (s : State) (g : SafetyI → SafetyI) : (s.modSafety g).waves = s.waves := rfl
@[simp] theorem State.modSafety_phase (s : State) (g : SafetyI → SafetyI) : (s.modSafety g).phase = s.phase := rfl
@[simp] theorem State.modSafety_pins (s : State) (g : SafetyI → SafetyI) : (s.modSafety g).pins = s.pins := rfl
@[simp] theorem State.modSafety_fabric (s : State) (g : SafetyI → SafetyI) : (s.modSafety g).fabric = s.fabric := rfl
@[simp] theorem State.modSafety_store (s : State) (g : SafetyI → SafetyI) : (s.modSafety g).store = s.store := rfl
@[simp] theorem State.modSafety_start (s : State) (g : SafetyI → SafetyI) : (s.modSafety g).start = s.start := rfl
@[simp] theorem State.modSafety_chain (s : State) (g : SafetyI → SafetyI) : (s.modSafety g).chain = s.chain := rfl
@[simp] theorem State.modSafety_alloc (s : State) (g : SafetyI → SafetyI) : (s.modSafety g).alloc = s.alloc := rfl
@[simp] theorem State.modSafety_safety (s : State) (g : SafetyI → SafetyI) : (s.modSafety g).safety = g s.safety := rfl
@[simp] theorem State.modSafety_matrix (s : State) (g : SafetyI → SafetyI) : (s.modSafety g).matrix = s.matrix := rfl
@[simp] theorem State.modSafety_session (s : State) (g : SafetyI → SafetyI) : (s.modSafety g).session = s.session := rfl
@[simp] theorem State.modSafety_drive (s : State) (g : SafetyI → SafetyI) : (s.modSafety g).drive = s.drive := rfl
@[simp] theorem State.modSafety_inp (s : State) (g : SafetyI → SafetyI) : (s.modSafety g).inp = s.inp := rfl
@[simp] theorem State.modSafety_pair (s : State) (g : SafetyI → SafetyI) : (s.modSafety g).pair = s.pair := rfl
@[simp] theorem State.modSafety_command (s : State) (g : SafetyI → SafetyI) : (s.modSafety g).command = s.command := rfl
@[simp] theorem State.modSafety_vault (s : State) (g : SafetyI → SafetyI) : (s.modSafety g).vault = s.vault := rfl
@[simp] theorem State.modSafety_meter (s : State) (g : SafetyI → SafetyI) : (s.modSafety g).meter = s.meter := rfl
@[simp] theorem State.modSafety_bill (s : State) (g : SafetyI → SafetyI) : (s.modSafety g).bill = s.bill := rfl
@[simp] theorem State.modSafety_otp (s : State) (g : SafetyI → SafetyI) : (s.modSafety g).otp = s.otp := rfl
@[simp] theorem State.modSafety_loop (s : State) (g : SafetyI → SafetyI) : (s.modSafety g).loop = s.loop := rfl
@[simp] theorem State.modSafety_links (s : State) (g : SafetyI → SafetyI) : (s.modSafety g).links = s.links := rfl
@[simp] theorem State.modSafety_therm (s : State) (g : SafetyI → SafetyI) : (s.modSafety g).therm = s.therm := rfl
@[simp] theorem State.modSafety_pending (s : State) (g : SafetyI → SafetyI) : (s.modSafety g).pending = s.pending := rfl

/-! `modMatrix` -/
@[simp] theorem State.modMatrix_regs (s : State) (g : MatrixI → MatrixI) : (s.modMatrix g).regs = s.regs := rfl
@[simp] theorem State.modMatrix_mem (s : State) (g : MatrixI → MatrixI) : (s.modMatrix g).mem = s.mem := rfl
@[simp] theorem State.modMatrix_out (s : State) (g : MatrixI → MatrixI) : (s.modMatrix g).out = s.out := rfl
@[simp] theorem State.modMatrix_free (s : State) (g : MatrixI → MatrixI) : (s.modMatrix g).free = s.free := rfl
@[simp] theorem State.modMatrix_waves (s : State) (g : MatrixI → MatrixI) : (s.modMatrix g).waves = s.waves := rfl
@[simp] theorem State.modMatrix_phase (s : State) (g : MatrixI → MatrixI) : (s.modMatrix g).phase = s.phase := rfl
@[simp] theorem State.modMatrix_pins (s : State) (g : MatrixI → MatrixI) : (s.modMatrix g).pins = s.pins := rfl
@[simp] theorem State.modMatrix_fabric (s : State) (g : MatrixI → MatrixI) : (s.modMatrix g).fabric = s.fabric := rfl
@[simp] theorem State.modMatrix_store (s : State) (g : MatrixI → MatrixI) : (s.modMatrix g).store = s.store := rfl
@[simp] theorem State.modMatrix_start (s : State) (g : MatrixI → MatrixI) : (s.modMatrix g).start = s.start := rfl
@[simp] theorem State.modMatrix_chain (s : State) (g : MatrixI → MatrixI) : (s.modMatrix g).chain = s.chain := rfl
@[simp] theorem State.modMatrix_alloc (s : State) (g : MatrixI → MatrixI) : (s.modMatrix g).alloc = s.alloc := rfl
@[simp] theorem State.modMatrix_safety (s : State) (g : MatrixI → MatrixI) : (s.modMatrix g).safety = s.safety := rfl
@[simp] theorem State.modMatrix_matrix (s : State) (g : MatrixI → MatrixI) : (s.modMatrix g).matrix = g s.matrix := rfl
@[simp] theorem State.modMatrix_session (s : State) (g : MatrixI → MatrixI) : (s.modMatrix g).session = s.session := rfl
@[simp] theorem State.modMatrix_drive (s : State) (g : MatrixI → MatrixI) : (s.modMatrix g).drive = s.drive := rfl
@[simp] theorem State.modMatrix_inp (s : State) (g : MatrixI → MatrixI) : (s.modMatrix g).inp = s.inp := rfl
@[simp] theorem State.modMatrix_pair (s : State) (g : MatrixI → MatrixI) : (s.modMatrix g).pair = s.pair := rfl
@[simp] theorem State.modMatrix_command (s : State) (g : MatrixI → MatrixI) : (s.modMatrix g).command = s.command := rfl
@[simp] theorem State.modMatrix_vault (s : State) (g : MatrixI → MatrixI) : (s.modMatrix g).vault = s.vault := rfl
@[simp] theorem State.modMatrix_meter (s : State) (g : MatrixI → MatrixI) : (s.modMatrix g).meter = s.meter := rfl
@[simp] theorem State.modMatrix_bill (s : State) (g : MatrixI → MatrixI) : (s.modMatrix g).bill = s.bill := rfl
@[simp] theorem State.modMatrix_otp (s : State) (g : MatrixI → MatrixI) : (s.modMatrix g).otp = s.otp := rfl
@[simp] theorem State.modMatrix_loop (s : State) (g : MatrixI → MatrixI) : (s.modMatrix g).loop = s.loop := rfl
@[simp] theorem State.modMatrix_links (s : State) (g : MatrixI → MatrixI) : (s.modMatrix g).links = s.links := rfl
@[simp] theorem State.modMatrix_therm (s : State) (g : MatrixI → MatrixI) : (s.modMatrix g).therm = s.therm := rfl
@[simp] theorem State.modMatrix_pending (s : State) (g : MatrixI → MatrixI) : (s.modMatrix g).pending = s.pending := rfl

/-! `modSession` -/
@[simp] theorem State.modSession_regs (s : State) (g : SessionI → SessionI) : (s.modSession g).regs = s.regs := rfl
@[simp] theorem State.modSession_mem (s : State) (g : SessionI → SessionI) : (s.modSession g).mem = s.mem := rfl
@[simp] theorem State.modSession_out (s : State) (g : SessionI → SessionI) : (s.modSession g).out = s.out := rfl
@[simp] theorem State.modSession_free (s : State) (g : SessionI → SessionI) : (s.modSession g).free = s.free := rfl
@[simp] theorem State.modSession_waves (s : State) (g : SessionI → SessionI) : (s.modSession g).waves = s.waves := rfl
@[simp] theorem State.modSession_phase (s : State) (g : SessionI → SessionI) : (s.modSession g).phase = s.phase := rfl
@[simp] theorem State.modSession_pins (s : State) (g : SessionI → SessionI) : (s.modSession g).pins = s.pins := rfl
@[simp] theorem State.modSession_fabric (s : State) (g : SessionI → SessionI) : (s.modSession g).fabric = s.fabric := rfl
@[simp] theorem State.modSession_store (s : State) (g : SessionI → SessionI) : (s.modSession g).store = s.store := rfl
@[simp] theorem State.modSession_start (s : State) (g : SessionI → SessionI) : (s.modSession g).start = s.start := rfl
@[simp] theorem State.modSession_chain (s : State) (g : SessionI → SessionI) : (s.modSession g).chain = s.chain := rfl
@[simp] theorem State.modSession_alloc (s : State) (g : SessionI → SessionI) : (s.modSession g).alloc = s.alloc := rfl
@[simp] theorem State.modSession_safety (s : State) (g : SessionI → SessionI) : (s.modSession g).safety = s.safety := rfl
@[simp] theorem State.modSession_matrix (s : State) (g : SessionI → SessionI) : (s.modSession g).matrix = s.matrix := rfl
@[simp] theorem State.modSession_session (s : State) (g : SessionI → SessionI) : (s.modSession g).session = g s.session := rfl
@[simp] theorem State.modSession_drive (s : State) (g : SessionI → SessionI) : (s.modSession g).drive = s.drive := rfl
@[simp] theorem State.modSession_inp (s : State) (g : SessionI → SessionI) : (s.modSession g).inp = s.inp := rfl
@[simp] theorem State.modSession_pair (s : State) (g : SessionI → SessionI) : (s.modSession g).pair = s.pair := rfl
@[simp] theorem State.modSession_command (s : State) (g : SessionI → SessionI) : (s.modSession g).command = s.command := rfl
@[simp] theorem State.modSession_vault (s : State) (g : SessionI → SessionI) : (s.modSession g).vault = s.vault := rfl
@[simp] theorem State.modSession_meter (s : State) (g : SessionI → SessionI) : (s.modSession g).meter = s.meter := rfl
@[simp] theorem State.modSession_bill (s : State) (g : SessionI → SessionI) : (s.modSession g).bill = s.bill := rfl
@[simp] theorem State.modSession_otp (s : State) (g : SessionI → SessionI) : (s.modSession g).otp = s.otp := rfl
@[simp] theorem State.modSession_loop (s : State) (g : SessionI → SessionI) : (s.modSession g).loop = s.loop := rfl
@[simp] theorem State.modSession_links (s : State) (g : SessionI → SessionI) : (s.modSession g).links = s.links := rfl
@[simp] theorem State.modSession_therm (s : State) (g : SessionI → SessionI) : (s.modSession g).therm = s.therm := rfl
@[simp] theorem State.modSession_pending (s : State) (g : SessionI → SessionI) : (s.modSession g).pending = s.pending := rfl

/-! `modDrive` -/
@[simp] theorem State.modDrive_regs (s : State) (g : DriveI → DriveI) : (s.modDrive g).regs = s.regs := rfl
@[simp] theorem State.modDrive_mem (s : State) (g : DriveI → DriveI) : (s.modDrive g).mem = s.mem := rfl
@[simp] theorem State.modDrive_out (s : State) (g : DriveI → DriveI) : (s.modDrive g).out = s.out := rfl
@[simp] theorem State.modDrive_free (s : State) (g : DriveI → DriveI) : (s.modDrive g).free = s.free := rfl
@[simp] theorem State.modDrive_waves (s : State) (g : DriveI → DriveI) : (s.modDrive g).waves = s.waves := rfl
@[simp] theorem State.modDrive_phase (s : State) (g : DriveI → DriveI) : (s.modDrive g).phase = s.phase := rfl
@[simp] theorem State.modDrive_pins (s : State) (g : DriveI → DriveI) : (s.modDrive g).pins = s.pins := rfl
@[simp] theorem State.modDrive_fabric (s : State) (g : DriveI → DriveI) : (s.modDrive g).fabric = s.fabric := rfl
@[simp] theorem State.modDrive_store (s : State) (g : DriveI → DriveI) : (s.modDrive g).store = s.store := rfl
@[simp] theorem State.modDrive_start (s : State) (g : DriveI → DriveI) : (s.modDrive g).start = s.start := rfl
@[simp] theorem State.modDrive_chain (s : State) (g : DriveI → DriveI) : (s.modDrive g).chain = s.chain := rfl
@[simp] theorem State.modDrive_alloc (s : State) (g : DriveI → DriveI) : (s.modDrive g).alloc = s.alloc := rfl
@[simp] theorem State.modDrive_safety (s : State) (g : DriveI → DriveI) : (s.modDrive g).safety = s.safety := rfl
@[simp] theorem State.modDrive_matrix (s : State) (g : DriveI → DriveI) : (s.modDrive g).matrix = s.matrix := rfl
@[simp] theorem State.modDrive_session (s : State) (g : DriveI → DriveI) : (s.modDrive g).session = s.session := rfl
@[simp] theorem State.modDrive_drive (s : State) (g : DriveI → DriveI) : (s.modDrive g).drive = g s.drive := rfl
@[simp] theorem State.modDrive_inp (s : State) (g : DriveI → DriveI) : (s.modDrive g).inp = s.inp := rfl
@[simp] theorem State.modDrive_pair (s : State) (g : DriveI → DriveI) : (s.modDrive g).pair = s.pair := rfl
@[simp] theorem State.modDrive_command (s : State) (g : DriveI → DriveI) : (s.modDrive g).command = s.command := rfl
@[simp] theorem State.modDrive_vault (s : State) (g : DriveI → DriveI) : (s.modDrive g).vault = s.vault := rfl
@[simp] theorem State.modDrive_meter (s : State) (g : DriveI → DriveI) : (s.modDrive g).meter = s.meter := rfl
@[simp] theorem State.modDrive_bill (s : State) (g : DriveI → DriveI) : (s.modDrive g).bill = s.bill := rfl
@[simp] theorem State.modDrive_otp (s : State) (g : DriveI → DriveI) : (s.modDrive g).otp = s.otp := rfl
@[simp] theorem State.modDrive_loop (s : State) (g : DriveI → DriveI) : (s.modDrive g).loop = s.loop := rfl
@[simp] theorem State.modDrive_links (s : State) (g : DriveI → DriveI) : (s.modDrive g).links = s.links := rfl
@[simp] theorem State.modDrive_therm (s : State) (g : DriveI → DriveI) : (s.modDrive g).therm = s.therm := rfl
@[simp] theorem State.modDrive_pending (s : State) (g : DriveI → DriveI) : (s.modDrive g).pending = s.pending := rfl

/-! `modPair` -/
@[simp] theorem State.modPair_regs (s : State) (g : PairI → PairI) : (s.modPair g).regs = s.regs := rfl
@[simp] theorem State.modPair_mem (s : State) (g : PairI → PairI) : (s.modPair g).mem = s.mem := rfl
@[simp] theorem State.modPair_out (s : State) (g : PairI → PairI) : (s.modPair g).out = s.out := rfl
@[simp] theorem State.modPair_free (s : State) (g : PairI → PairI) : (s.modPair g).free = s.free := rfl
@[simp] theorem State.modPair_waves (s : State) (g : PairI → PairI) : (s.modPair g).waves = s.waves := rfl
@[simp] theorem State.modPair_phase (s : State) (g : PairI → PairI) : (s.modPair g).phase = s.phase := rfl
@[simp] theorem State.modPair_pins (s : State) (g : PairI → PairI) : (s.modPair g).pins = s.pins := rfl
@[simp] theorem State.modPair_fabric (s : State) (g : PairI → PairI) : (s.modPair g).fabric = s.fabric := rfl
@[simp] theorem State.modPair_store (s : State) (g : PairI → PairI) : (s.modPair g).store = s.store := rfl
@[simp] theorem State.modPair_start (s : State) (g : PairI → PairI) : (s.modPair g).start = s.start := rfl
@[simp] theorem State.modPair_chain (s : State) (g : PairI → PairI) : (s.modPair g).chain = s.chain := rfl
@[simp] theorem State.modPair_alloc (s : State) (g : PairI → PairI) : (s.modPair g).alloc = s.alloc := rfl
@[simp] theorem State.modPair_safety (s : State) (g : PairI → PairI) : (s.modPair g).safety = s.safety := rfl
@[simp] theorem State.modPair_matrix (s : State) (g : PairI → PairI) : (s.modPair g).matrix = s.matrix := rfl
@[simp] theorem State.modPair_session (s : State) (g : PairI → PairI) : (s.modPair g).session = s.session := rfl
@[simp] theorem State.modPair_drive (s : State) (g : PairI → PairI) : (s.modPair g).drive = s.drive := rfl
@[simp] theorem State.modPair_inp (s : State) (g : PairI → PairI) : (s.modPair g).inp = s.inp := rfl
@[simp] theorem State.modPair_pair (s : State) (g : PairI → PairI) : (s.modPair g).pair = g s.pair := rfl
@[simp] theorem State.modPair_command (s : State) (g : PairI → PairI) : (s.modPair g).command = s.command := rfl
@[simp] theorem State.modPair_vault (s : State) (g : PairI → PairI) : (s.modPair g).vault = s.vault := rfl
@[simp] theorem State.modPair_meter (s : State) (g : PairI → PairI) : (s.modPair g).meter = s.meter := rfl
@[simp] theorem State.modPair_bill (s : State) (g : PairI → PairI) : (s.modPair g).bill = s.bill := rfl
@[simp] theorem State.modPair_otp (s : State) (g : PairI → PairI) : (s.modPair g).otp = s.otp := rfl
@[simp] theorem State.modPair_loop (s : State) (g : PairI → PairI) : (s.modPair g).loop = s.loop := rfl
@[simp] theorem State.modPair_links (s : State) (g : PairI → PairI) : (s.modPair g).links = s.links := rfl
@[simp] theorem State.modPair_therm (s : State) (g : PairI → PairI) : (s.modPair g).therm = s.therm := rfl
@[simp] theorem State.modPair_pending (s : State) (g : PairI → PairI) : (s.modPair g).pending = s.pending := rfl

/-! `modCommand` -/
@[simp] theorem State.modCommand_regs (s : State) (g : CommandI → CommandI) : (s.modCommand g).regs = s.regs := rfl
@[simp] theorem State.modCommand_mem (s : State) (g : CommandI → CommandI) : (s.modCommand g).mem = s.mem := rfl
@[simp] theorem State.modCommand_out (s : State) (g : CommandI → CommandI) : (s.modCommand g).out = s.out := rfl
@[simp] theorem State.modCommand_free (s : State) (g : CommandI → CommandI) : (s.modCommand g).free = s.free := rfl
@[simp] theorem State.modCommand_waves (s : State) (g : CommandI → CommandI) : (s.modCommand g).waves = s.waves := rfl
@[simp] theorem State.modCommand_phase (s : State) (g : CommandI → CommandI) : (s.modCommand g).phase = s.phase := rfl
@[simp] theorem State.modCommand_pins (s : State) (g : CommandI → CommandI) : (s.modCommand g).pins = s.pins := rfl
@[simp] theorem State.modCommand_fabric (s : State) (g : CommandI → CommandI) : (s.modCommand g).fabric = s.fabric := rfl
@[simp] theorem State.modCommand_store (s : State) (g : CommandI → CommandI) : (s.modCommand g).store = s.store := rfl
@[simp] theorem State.modCommand_start (s : State) (g : CommandI → CommandI) : (s.modCommand g).start = s.start := rfl
@[simp] theorem State.modCommand_chain (s : State) (g : CommandI → CommandI) : (s.modCommand g).chain = s.chain := rfl
@[simp] theorem State.modCommand_alloc (s : State) (g : CommandI → CommandI) : (s.modCommand g).alloc = s.alloc := rfl
@[simp] theorem State.modCommand_safety (s : State) (g : CommandI → CommandI) : (s.modCommand g).safety = s.safety := rfl
@[simp] theorem State.modCommand_matrix (s : State) (g : CommandI → CommandI) : (s.modCommand g).matrix = s.matrix := rfl
@[simp] theorem State.modCommand_session (s : State) (g : CommandI → CommandI) : (s.modCommand g).session = s.session := rfl
@[simp] theorem State.modCommand_drive (s : State) (g : CommandI → CommandI) : (s.modCommand g).drive = s.drive := rfl
@[simp] theorem State.modCommand_inp (s : State) (g : CommandI → CommandI) : (s.modCommand g).inp = s.inp := rfl
@[simp] theorem State.modCommand_pair (s : State) (g : CommandI → CommandI) : (s.modCommand g).pair = s.pair := rfl
@[simp] theorem State.modCommand_command (s : State) (g : CommandI → CommandI) : (s.modCommand g).command = g s.command := rfl
@[simp] theorem State.modCommand_vault (s : State) (g : CommandI → CommandI) : (s.modCommand g).vault = s.vault := rfl
@[simp] theorem State.modCommand_meter (s : State) (g : CommandI → CommandI) : (s.modCommand g).meter = s.meter := rfl
@[simp] theorem State.modCommand_bill (s : State) (g : CommandI → CommandI) : (s.modCommand g).bill = s.bill := rfl
@[simp] theorem State.modCommand_otp (s : State) (g : CommandI → CommandI) : (s.modCommand g).otp = s.otp := rfl
@[simp] theorem State.modCommand_loop (s : State) (g : CommandI → CommandI) : (s.modCommand g).loop = s.loop := rfl
@[simp] theorem State.modCommand_links (s : State) (g : CommandI → CommandI) : (s.modCommand g).links = s.links := rfl
@[simp] theorem State.modCommand_therm (s : State) (g : CommandI → CommandI) : (s.modCommand g).therm = s.therm := rfl
@[simp] theorem State.modCommand_pending (s : State) (g : CommandI → CommandI) : (s.modCommand g).pending = s.pending := rfl

/-! `modVault` -/
@[simp] theorem State.modVault_regs (s : State) (g : VaultI → VaultI) : (s.modVault g).regs = s.regs := rfl
@[simp] theorem State.modVault_mem (s : State) (g : VaultI → VaultI) : (s.modVault g).mem = s.mem := rfl
@[simp] theorem State.modVault_out (s : State) (g : VaultI → VaultI) : (s.modVault g).out = s.out := rfl
@[simp] theorem State.modVault_free (s : State) (g : VaultI → VaultI) : (s.modVault g).free = s.free := rfl
@[simp] theorem State.modVault_waves (s : State) (g : VaultI → VaultI) : (s.modVault g).waves = s.waves := rfl
@[simp] theorem State.modVault_phase (s : State) (g : VaultI → VaultI) : (s.modVault g).phase = s.phase := rfl
@[simp] theorem State.modVault_pins (s : State) (g : VaultI → VaultI) : (s.modVault g).pins = s.pins := rfl
@[simp] theorem State.modVault_fabric (s : State) (g : VaultI → VaultI) : (s.modVault g).fabric = s.fabric := rfl
@[simp] theorem State.modVault_store (s : State) (g : VaultI → VaultI) : (s.modVault g).store = s.store := rfl
@[simp] theorem State.modVault_start (s : State) (g : VaultI → VaultI) : (s.modVault g).start = s.start := rfl
@[simp] theorem State.modVault_chain (s : State) (g : VaultI → VaultI) : (s.modVault g).chain = s.chain := rfl
@[simp] theorem State.modVault_alloc (s : State) (g : VaultI → VaultI) : (s.modVault g).alloc = s.alloc := rfl
@[simp] theorem State.modVault_safety (s : State) (g : VaultI → VaultI) : (s.modVault g).safety = s.safety := rfl
@[simp] theorem State.modVault_matrix (s : State) (g : VaultI → VaultI) : (s.modVault g).matrix = s.matrix := rfl
@[simp] theorem State.modVault_session (s : State) (g : VaultI → VaultI) : (s.modVault g).session = s.session := rfl
@[simp] theorem State.modVault_drive (s : State) (g : VaultI → VaultI) : (s.modVault g).drive = s.drive := rfl
@[simp] theorem State.modVault_inp (s : State) (g : VaultI → VaultI) : (s.modVault g).inp = s.inp := rfl
@[simp] theorem State.modVault_pair (s : State) (g : VaultI → VaultI) : (s.modVault g).pair = s.pair := rfl
@[simp] theorem State.modVault_command (s : State) (g : VaultI → VaultI) : (s.modVault g).command = s.command := rfl
@[simp] theorem State.modVault_vault (s : State) (g : VaultI → VaultI) : (s.modVault g).vault = g s.vault := rfl
@[simp] theorem State.modVault_meter (s : State) (g : VaultI → VaultI) : (s.modVault g).meter = s.meter := rfl
@[simp] theorem State.modVault_bill (s : State) (g : VaultI → VaultI) : (s.modVault g).bill = s.bill := rfl
@[simp] theorem State.modVault_otp (s : State) (g : VaultI → VaultI) : (s.modVault g).otp = s.otp := rfl
@[simp] theorem State.modVault_loop (s : State) (g : VaultI → VaultI) : (s.modVault g).loop = s.loop := rfl
@[simp] theorem State.modVault_links (s : State) (g : VaultI → VaultI) : (s.modVault g).links = s.links := rfl
@[simp] theorem State.modVault_therm (s : State) (g : VaultI → VaultI) : (s.modVault g).therm = s.therm := rfl
@[simp] theorem State.modVault_pending (s : State) (g : VaultI → VaultI) : (s.modVault g).pending = s.pending := rfl

/-! `modOtp` -/
@[simp] theorem State.modOtp_regs (s : State) (g : OtpI → OtpI) : (s.modOtp g).regs = s.regs := rfl
@[simp] theorem State.modOtp_mem (s : State) (g : OtpI → OtpI) : (s.modOtp g).mem = s.mem := rfl
@[simp] theorem State.modOtp_out (s : State) (g : OtpI → OtpI) : (s.modOtp g).out = s.out := rfl
@[simp] theorem State.modOtp_free (s : State) (g : OtpI → OtpI) : (s.modOtp g).free = s.free := rfl
@[simp] theorem State.modOtp_waves (s : State) (g : OtpI → OtpI) : (s.modOtp g).waves = s.waves := rfl
@[simp] theorem State.modOtp_phase (s : State) (g : OtpI → OtpI) : (s.modOtp g).phase = s.phase := rfl
@[simp] theorem State.modOtp_pins (s : State) (g : OtpI → OtpI) : (s.modOtp g).pins = s.pins := rfl
@[simp] theorem State.modOtp_fabric (s : State) (g : OtpI → OtpI) : (s.modOtp g).fabric = s.fabric := rfl
@[simp] theorem State.modOtp_store (s : State) (g : OtpI → OtpI) : (s.modOtp g).store = s.store := rfl
@[simp] theorem State.modOtp_start (s : State) (g : OtpI → OtpI) : (s.modOtp g).start = s.start := rfl
@[simp] theorem State.modOtp_chain (s : State) (g : OtpI → OtpI) : (s.modOtp g).chain = s.chain := rfl
@[simp] theorem State.modOtp_alloc (s : State) (g : OtpI → OtpI) : (s.modOtp g).alloc = s.alloc := rfl
@[simp] theorem State.modOtp_safety (s : State) (g : OtpI → OtpI) : (s.modOtp g).safety = s.safety := rfl
@[simp] theorem State.modOtp_matrix (s : State) (g : OtpI → OtpI) : (s.modOtp g).matrix = s.matrix := rfl
@[simp] theorem State.modOtp_session (s : State) (g : OtpI → OtpI) : (s.modOtp g).session = s.session := rfl
@[simp] theorem State.modOtp_drive (s : State) (g : OtpI → OtpI) : (s.modOtp g).drive = s.drive := rfl
@[simp] theorem State.modOtp_inp (s : State) (g : OtpI → OtpI) : (s.modOtp g).inp = s.inp := rfl
@[simp] theorem State.modOtp_pair (s : State) (g : OtpI → OtpI) : (s.modOtp g).pair = s.pair := rfl
@[simp] theorem State.modOtp_command (s : State) (g : OtpI → OtpI) : (s.modOtp g).command = s.command := rfl
@[simp] theorem State.modOtp_vault (s : State) (g : OtpI → OtpI) : (s.modOtp g).vault = s.vault := rfl
@[simp] theorem State.modOtp_meter (s : State) (g : OtpI → OtpI) : (s.modOtp g).meter = s.meter := rfl
@[simp] theorem State.modOtp_bill (s : State) (g : OtpI → OtpI) : (s.modOtp g).bill = s.bill := rfl
@[simp] theorem State.modOtp_otp (s : State) (g : OtpI → OtpI) : (s.modOtp g).otp = g s.otp := rfl
@[simp] theorem State.modOtp_loop (s : State) (g : OtpI → OtpI) : (s.modOtp g).loop = s.loop := rfl
@[simp] theorem State.modOtp_links (s : State) (g : OtpI → OtpI) : (s.modOtp g).links = s.links := rfl
@[simp] theorem State.modOtp_therm (s : State) (g : OtpI → OtpI) : (s.modOtp g).therm = s.therm := rfl
@[simp] theorem State.modOtp_pending (s : State) (g : OtpI → OtpI) : (s.modOtp g).pending = s.pending := rfl

/-! `modMeter` -/
@[simp] theorem State.modMeter_regs (s : State) (g : MeterI → MeterI) : (s.modMeter g).regs = s.regs := rfl
@[simp] theorem State.modMeter_mem (s : State) (g : MeterI → MeterI) : (s.modMeter g).mem = s.mem := rfl
@[simp] theorem State.modMeter_out (s : State) (g : MeterI → MeterI) : (s.modMeter g).out = s.out := rfl
@[simp] theorem State.modMeter_free (s : State) (g : MeterI → MeterI) : (s.modMeter g).free = s.free := rfl
@[simp] theorem State.modMeter_waves (s : State) (g : MeterI → MeterI) : (s.modMeter g).waves = s.waves := rfl
@[simp] theorem State.modMeter_phase (s : State) (g : MeterI → MeterI) : (s.modMeter g).phase = s.phase := rfl
@[simp] theorem State.modMeter_pins (s : State) (g : MeterI → MeterI) : (s.modMeter g).pins = s.pins := rfl
@[simp] theorem State.modMeter_fabric (s : State) (g : MeterI → MeterI) : (s.modMeter g).fabric = s.fabric := rfl
@[simp] theorem State.modMeter_store (s : State) (g : MeterI → MeterI) : (s.modMeter g).store = s.store := rfl
@[simp] theorem State.modMeter_start (s : State) (g : MeterI → MeterI) : (s.modMeter g).start = s.start := rfl
@[simp] theorem State.modMeter_chain (s : State) (g : MeterI → MeterI) : (s.modMeter g).chain = s.chain := rfl
@[simp] theorem State.modMeter_alloc (s : State) (g : MeterI → MeterI) : (s.modMeter g).alloc = s.alloc := rfl
@[simp] theorem State.modMeter_safety (s : State) (g : MeterI → MeterI) : (s.modMeter g).safety = s.safety := rfl
@[simp] theorem State.modMeter_matrix (s : State) (g : MeterI → MeterI) : (s.modMeter g).matrix = s.matrix := rfl
@[simp] theorem State.modMeter_session (s : State) (g : MeterI → MeterI) : (s.modMeter g).session = s.session := rfl
@[simp] theorem State.modMeter_drive (s : State) (g : MeterI → MeterI) : (s.modMeter g).drive = s.drive := rfl
@[simp] theorem State.modMeter_inp (s : State) (g : MeterI → MeterI) : (s.modMeter g).inp = s.inp := rfl
@[simp] theorem State.modMeter_pair (s : State) (g : MeterI → MeterI) : (s.modMeter g).pair = s.pair := rfl
@[simp] theorem State.modMeter_command (s : State) (g : MeterI → MeterI) : (s.modMeter g).command = s.command := rfl
@[simp] theorem State.modMeter_vault (s : State) (g : MeterI → MeterI) : (s.modMeter g).vault = s.vault := rfl
@[simp] theorem State.modMeter_meter (s : State) (g : MeterI → MeterI) : (s.modMeter g).meter = g s.meter := rfl
@[simp] theorem State.modMeter_bill (s : State) (g : MeterI → MeterI) : (s.modMeter g).bill = s.bill := rfl
@[simp] theorem State.modMeter_otp (s : State) (g : MeterI → MeterI) : (s.modMeter g).otp = s.otp := rfl
@[simp] theorem State.modMeter_loop (s : State) (g : MeterI → MeterI) : (s.modMeter g).loop = s.loop := rfl
@[simp] theorem State.modMeter_links (s : State) (g : MeterI → MeterI) : (s.modMeter g).links = s.links := rfl
@[simp] theorem State.modMeter_therm (s : State) (g : MeterI → MeterI) : (s.modMeter g).therm = s.therm := rfl
@[simp] theorem State.modMeter_pending (s : State) (g : MeterI → MeterI) : (s.modMeter g).pending = s.pending := rfl

/-! `modBill` -/
@[simp] theorem State.modBill_regs (s : State) (g : BillI → BillI) : (s.modBill g).regs = s.regs := rfl
@[simp] theorem State.modBill_mem (s : State) (g : BillI → BillI) : (s.modBill g).mem = s.mem := rfl
@[simp] theorem State.modBill_out (s : State) (g : BillI → BillI) : (s.modBill g).out = s.out := rfl
@[simp] theorem State.modBill_free (s : State) (g : BillI → BillI) : (s.modBill g).free = s.free := rfl
@[simp] theorem State.modBill_waves (s : State) (g : BillI → BillI) : (s.modBill g).waves = s.waves := rfl
@[simp] theorem State.modBill_phase (s : State) (g : BillI → BillI) : (s.modBill g).phase = s.phase := rfl
@[simp] theorem State.modBill_pins (s : State) (g : BillI → BillI) : (s.modBill g).pins = s.pins := rfl
@[simp] theorem State.modBill_fabric (s : State) (g : BillI → BillI) : (s.modBill g).fabric = s.fabric := rfl
@[simp] theorem State.modBill_store (s : State) (g : BillI → BillI) : (s.modBill g).store = s.store := rfl
@[simp] theorem State.modBill_start (s : State) (g : BillI → BillI) : (s.modBill g).start = s.start := rfl
@[simp] theorem State.modBill_chain (s : State) (g : BillI → BillI) : (s.modBill g).chain = s.chain := rfl
@[simp] theorem State.modBill_alloc (s : State) (g : BillI → BillI) : (s.modBill g).alloc = s.alloc := rfl
@[simp] theorem State.modBill_safety (s : State) (g : BillI → BillI) : (s.modBill g).safety = s.safety := rfl
@[simp] theorem State.modBill_matrix (s : State) (g : BillI → BillI) : (s.modBill g).matrix = s.matrix := rfl
@[simp] theorem State.modBill_session (s : State) (g : BillI → BillI) : (s.modBill g).session = s.session := rfl
@[simp] theorem State.modBill_drive (s : State) (g : BillI → BillI) : (s.modBill g).drive = s.drive := rfl
@[simp] theorem State.modBill_inp (s : State) (g : BillI → BillI) : (s.modBill g).inp = s.inp := rfl
@[simp] theorem State.modBill_pair (s : State) (g : BillI → BillI) : (s.modBill g).pair = s.pair := rfl
@[simp] theorem State.modBill_command (s : State) (g : BillI → BillI) : (s.modBill g).command = s.command := rfl
@[simp] theorem State.modBill_vault (s : State) (g : BillI → BillI) : (s.modBill g).vault = s.vault := rfl
@[simp] theorem State.modBill_meter (s : State) (g : BillI → BillI) : (s.modBill g).meter = s.meter := rfl
@[simp] theorem State.modBill_bill (s : State) (g : BillI → BillI) : (s.modBill g).bill = g s.bill := rfl
@[simp] theorem State.modBill_otp (s : State) (g : BillI → BillI) : (s.modBill g).otp = s.otp := rfl
@[simp] theorem State.modBill_loop (s : State) (g : BillI → BillI) : (s.modBill g).loop = s.loop := rfl
@[simp] theorem State.modBill_links (s : State) (g : BillI → BillI) : (s.modBill g).links = s.links := rfl
@[simp] theorem State.modBill_therm (s : State) (g : BillI → BillI) : (s.modBill g).therm = s.therm := rfl
@[simp] theorem State.modBill_pending (s : State) (g : BillI → BillI) : (s.modBill g).pending = s.pending := rfl

/-! `modLoop` -/
@[simp] theorem State.modLoop_regs (s : State) (g : LoopsI → LoopsI) : (s.modLoop g).regs = s.regs := rfl
@[simp] theorem State.modLoop_mem (s : State) (g : LoopsI → LoopsI) : (s.modLoop g).mem = s.mem := rfl
@[simp] theorem State.modLoop_out (s : State) (g : LoopsI → LoopsI) : (s.modLoop g).out = s.out := rfl
@[simp] theorem State.modLoop_free (s : State) (g : LoopsI → LoopsI) : (s.modLoop g).free = s.free := rfl
@[simp] theorem State.modLoop_waves (s : State) (g : LoopsI → LoopsI) : (s.modLoop g).waves = s.waves := rfl
@[simp] theorem State.modLoop_phase (s : State) (g : LoopsI → LoopsI) : (s.modLoop g).phase = s.phase := rfl
@[simp] theorem State.modLoop_pins (s : State) (g : LoopsI → LoopsI) : (s.modLoop g).pins = s.pins := rfl
@[simp] theorem State.modLoop_fabric (s : State) (g : LoopsI → LoopsI) : (s.modLoop g).fabric = s.fabric := rfl
@[simp] theorem State.modLoop_store (s : State) (g : LoopsI → LoopsI) : (s.modLoop g).store = s.store := rfl
@[simp] theorem State.modLoop_start (s : State) (g : LoopsI → LoopsI) : (s.modLoop g).start = s.start := rfl
@[simp] theorem State.modLoop_chain (s : State) (g : LoopsI → LoopsI) : (s.modLoop g).chain = s.chain := rfl
@[simp] theorem State.modLoop_alloc (s : State) (g : LoopsI → LoopsI) : (s.modLoop g).alloc = s.alloc := rfl
@[simp] theorem State.modLoop_safety (s : State) (g : LoopsI → LoopsI) : (s.modLoop g).safety = s.safety := rfl
@[simp] theorem State.modLoop_matrix (s : State) (g : LoopsI → LoopsI) : (s.modLoop g).matrix = s.matrix := rfl
@[simp] theorem State.modLoop_session (s : State) (g : LoopsI → LoopsI) : (s.modLoop g).session = s.session := rfl
@[simp] theorem State.modLoop_drive (s : State) (g : LoopsI → LoopsI) : (s.modLoop g).drive = s.drive := rfl
@[simp] theorem State.modLoop_inp (s : State) (g : LoopsI → LoopsI) : (s.modLoop g).inp = s.inp := rfl
@[simp] theorem State.modLoop_pair (s : State) (g : LoopsI → LoopsI) : (s.modLoop g).pair = s.pair := rfl
@[simp] theorem State.modLoop_command (s : State) (g : LoopsI → LoopsI) : (s.modLoop g).command = s.command := rfl
@[simp] theorem State.modLoop_vault (s : State) (g : LoopsI → LoopsI) : (s.modLoop g).vault = s.vault := rfl
@[simp] theorem State.modLoop_meter (s : State) (g : LoopsI → LoopsI) : (s.modLoop g).meter = s.meter := rfl
@[simp] theorem State.modLoop_bill (s : State) (g : LoopsI → LoopsI) : (s.modLoop g).bill = s.bill := rfl
@[simp] theorem State.modLoop_otp (s : State) (g : LoopsI → LoopsI) : (s.modLoop g).otp = s.otp := rfl
@[simp] theorem State.modLoop_loop (s : State) (g : LoopsI → LoopsI) : (s.modLoop g).loop = g s.loop := rfl
@[simp] theorem State.modLoop_links (s : State) (g : LoopsI → LoopsI) : (s.modLoop g).links = s.links := rfl
@[simp] theorem State.modLoop_therm (s : State) (g : LoopsI → LoopsI) : (s.modLoop g).therm = s.therm := rfl
@[simp] theorem State.modLoop_pending (s : State) (g : LoopsI → LoopsI) : (s.modLoop g).pending = s.pending := rfl

/-! `modLinks` -/
@[simp] theorem State.modLinks_regs (s : State) (g : LinksI → LinksI) : (s.modLinks g).regs = s.regs := rfl
@[simp] theorem State.modLinks_mem (s : State) (g : LinksI → LinksI) : (s.modLinks g).mem = s.mem := rfl
@[simp] theorem State.modLinks_out (s : State) (g : LinksI → LinksI) : (s.modLinks g).out = s.out := rfl
@[simp] theorem State.modLinks_free (s : State) (g : LinksI → LinksI) : (s.modLinks g).free = s.free := rfl
@[simp] theorem State.modLinks_waves (s : State) (g : LinksI → LinksI) : (s.modLinks g).waves = s.waves := rfl
@[simp] theorem State.modLinks_phase (s : State) (g : LinksI → LinksI) : (s.modLinks g).phase = s.phase := rfl
@[simp] theorem State.modLinks_pins (s : State) (g : LinksI → LinksI) : (s.modLinks g).pins = s.pins := rfl
@[simp] theorem State.modLinks_fabric (s : State) (g : LinksI → LinksI) : (s.modLinks g).fabric = s.fabric := rfl
@[simp] theorem State.modLinks_store (s : State) (g : LinksI → LinksI) : (s.modLinks g).store = s.store := rfl
@[simp] theorem State.modLinks_start (s : State) (g : LinksI → LinksI) : (s.modLinks g).start = s.start := rfl
@[simp] theorem State.modLinks_chain (s : State) (g : LinksI → LinksI) : (s.modLinks g).chain = s.chain := rfl
@[simp] theorem State.modLinks_alloc (s : State) (g : LinksI → LinksI) : (s.modLinks g).alloc = s.alloc := rfl
@[simp] theorem State.modLinks_safety (s : State) (g : LinksI → LinksI) : (s.modLinks g).safety = s.safety := rfl
@[simp] theorem State.modLinks_matrix (s : State) (g : LinksI → LinksI) : (s.modLinks g).matrix = s.matrix := rfl
@[simp] theorem State.modLinks_session (s : State) (g : LinksI → LinksI) : (s.modLinks g).session = s.session := rfl
@[simp] theorem State.modLinks_drive (s : State) (g : LinksI → LinksI) : (s.modLinks g).drive = s.drive := rfl
@[simp] theorem State.modLinks_inp (s : State) (g : LinksI → LinksI) : (s.modLinks g).inp = s.inp := rfl
@[simp] theorem State.modLinks_pair (s : State) (g : LinksI → LinksI) : (s.modLinks g).pair = s.pair := rfl
@[simp] theorem State.modLinks_command (s : State) (g : LinksI → LinksI) : (s.modLinks g).command = s.command := rfl
@[simp] theorem State.modLinks_vault (s : State) (g : LinksI → LinksI) : (s.modLinks g).vault = s.vault := rfl
@[simp] theorem State.modLinks_meter (s : State) (g : LinksI → LinksI) : (s.modLinks g).meter = s.meter := rfl
@[simp] theorem State.modLinks_bill (s : State) (g : LinksI → LinksI) : (s.modLinks g).bill = s.bill := rfl
@[simp] theorem State.modLinks_otp (s : State) (g : LinksI → LinksI) : (s.modLinks g).otp = s.otp := rfl
@[simp] theorem State.modLinks_loop (s : State) (g : LinksI → LinksI) : (s.modLinks g).loop = s.loop := rfl
@[simp] theorem State.modLinks_links (s : State) (g : LinksI → LinksI) : (s.modLinks g).links = g s.links := rfl
@[simp] theorem State.modLinks_therm (s : State) (g : LinksI → LinksI) : (s.modLinks g).therm = s.therm := rfl
@[simp] theorem State.modLinks_pending (s : State) (g : LinksI → LinksI) : (s.modLinks g).pending = s.pending := rfl

/-! `modTherm` -/
@[simp] theorem State.modTherm_regs (s : State) (g : ThermI → ThermI) : (s.modTherm g).regs = s.regs := rfl
@[simp] theorem State.modTherm_mem (s : State) (g : ThermI → ThermI) : (s.modTherm g).mem = s.mem := rfl
@[simp] theorem State.modTherm_out (s : State) (g : ThermI → ThermI) : (s.modTherm g).out = s.out := rfl
@[simp] theorem State.modTherm_free (s : State) (g : ThermI → ThermI) : (s.modTherm g).free = s.free := rfl
@[simp] theorem State.modTherm_waves (s : State) (g : ThermI → ThermI) : (s.modTherm g).waves = s.waves := rfl
@[simp] theorem State.modTherm_phase (s : State) (g : ThermI → ThermI) : (s.modTherm g).phase = s.phase := rfl
@[simp] theorem State.modTherm_pins (s : State) (g : ThermI → ThermI) : (s.modTherm g).pins = s.pins := rfl
@[simp] theorem State.modTherm_fabric (s : State) (g : ThermI → ThermI) : (s.modTherm g).fabric = s.fabric := rfl
@[simp] theorem State.modTherm_store (s : State) (g : ThermI → ThermI) : (s.modTherm g).store = s.store := rfl
@[simp] theorem State.modTherm_start (s : State) (g : ThermI → ThermI) : (s.modTherm g).start = s.start := rfl
@[simp] theorem State.modTherm_chain (s : State) (g : ThermI → ThermI) : (s.modTherm g).chain = s.chain := rfl
@[simp] theorem State.modTherm_alloc (s : State) (g : ThermI → ThermI) : (s.modTherm g).alloc = s.alloc := rfl
@[simp] theorem State.modTherm_safety (s : State) (g : ThermI → ThermI) : (s.modTherm g).safety = s.safety := rfl
@[simp] theorem State.modTherm_matrix (s : State) (g : ThermI → ThermI) : (s.modTherm g).matrix = s.matrix := rfl
@[simp] theorem State.modTherm_session (s : State) (g : ThermI → ThermI) : (s.modTherm g).session = s.session := rfl
@[simp] theorem State.modTherm_drive (s : State) (g : ThermI → ThermI) : (s.modTherm g).drive = s.drive := rfl
@[simp] theorem State.modTherm_inp (s : State) (g : ThermI → ThermI) : (s.modTherm g).inp = s.inp := rfl
@[simp] theorem State.modTherm_pair (s : State) (g : ThermI → ThermI) : (s.modTherm g).pair = s.pair := rfl
@[simp] theorem State.modTherm_command (s : State) (g : ThermI → ThermI) : (s.modTherm g).command = s.command := rfl
@[simp] theorem State.modTherm_vault (s : State) (g : ThermI → ThermI) : (s.modTherm g).vault = s.vault := rfl
@[simp] theorem State.modTherm_meter (s : State) (g : ThermI → ThermI) : (s.modTherm g).meter = s.meter := rfl
@[simp] theorem State.modTherm_bill (s : State) (g : ThermI → ThermI) : (s.modTherm g).bill = s.bill := rfl
@[simp] theorem State.modTherm_otp (s : State) (g : ThermI → ThermI) : (s.modTherm g).otp = s.otp := rfl
@[simp] theorem State.modTherm_loop (s : State) (g : ThermI → ThermI) : (s.modTherm g).loop = s.loop := rfl
@[simp] theorem State.modTherm_links (s : State) (g : ThermI → ThermI) : (s.modTherm g).links = s.links := rfl
@[simp] theorem State.modTherm_therm (s : State) (g : ThermI → ThermI) : (s.modTherm g).therm = g s.therm := rfl
@[simp] theorem State.modTherm_pending (s : State) (g : ThermI → ThermI) : (s.modTherm g).pending = s.pending := rfl

/-! `modPins` -/
@[simp] theorem State.modPins_regs (s : State) (g : Pins → Pins) : (s.modPins g).regs = s.regs := rfl
@[simp] theorem State.modPins_mem (s : State) (g : Pins → Pins) : (s.modPins g).mem = s.mem := rfl
@[simp] theorem State.modPins_out (s : State) (g : Pins → Pins) : (s.modPins g).out = s.out := rfl
@[simp] theorem State.modPins_free (s : State) (g : Pins → Pins) : (s.modPins g).free = s.free := rfl
@[simp] theorem State.modPins_waves (s : State) (g : Pins → Pins) : (s.modPins g).waves = s.waves := rfl
@[simp] theorem State.modPins_phase (s : State) (g : Pins → Pins) : (s.modPins g).phase = s.phase := rfl
@[simp] theorem State.modPins_pins (s : State) (g : Pins → Pins) : (s.modPins g).pins = g s.pins := rfl
@[simp] theorem State.modPins_fabric (s : State) (g : Pins → Pins) : (s.modPins g).fabric = s.fabric := rfl
@[simp] theorem State.modPins_store (s : State) (g : Pins → Pins) : (s.modPins g).store = s.store := rfl
@[simp] theorem State.modPins_start (s : State) (g : Pins → Pins) : (s.modPins g).start = s.start := rfl
@[simp] theorem State.modPins_chain (s : State) (g : Pins → Pins) : (s.modPins g).chain = s.chain := rfl
@[simp] theorem State.modPins_alloc (s : State) (g : Pins → Pins) : (s.modPins g).alloc = s.alloc := rfl
@[simp] theorem State.modPins_safety (s : State) (g : Pins → Pins) : (s.modPins g).safety = s.safety := rfl
@[simp] theorem State.modPins_matrix (s : State) (g : Pins → Pins) : (s.modPins g).matrix = s.matrix := rfl
@[simp] theorem State.modPins_session (s : State) (g : Pins → Pins) : (s.modPins g).session = s.session := rfl
@[simp] theorem State.modPins_drive (s : State) (g : Pins → Pins) : (s.modPins g).drive = s.drive := rfl
@[simp] theorem State.modPins_inp (s : State) (g : Pins → Pins) : (s.modPins g).inp = s.inp := rfl
@[simp] theorem State.modPins_pair (s : State) (g : Pins → Pins) : (s.modPins g).pair = s.pair := rfl
@[simp] theorem State.modPins_command (s : State) (g : Pins → Pins) : (s.modPins g).command = s.command := rfl
@[simp] theorem State.modPins_vault (s : State) (g : Pins → Pins) : (s.modPins g).vault = s.vault := rfl
@[simp] theorem State.modPins_meter (s : State) (g : Pins → Pins) : (s.modPins g).meter = s.meter := rfl
@[simp] theorem State.modPins_bill (s : State) (g : Pins → Pins) : (s.modPins g).bill = s.bill := rfl
@[simp] theorem State.modPins_otp (s : State) (g : Pins → Pins) : (s.modPins g).otp = s.otp := rfl
@[simp] theorem State.modPins_loop (s : State) (g : Pins → Pins) : (s.modPins g).loop = s.loop := rfl
@[simp] theorem State.modPins_links (s : State) (g : Pins → Pins) : (s.modPins g).links = s.links := rfl
@[simp] theorem State.modPins_therm (s : State) (g : Pins → Pins) : (s.modPins g).therm = s.therm := rfl
@[simp] theorem State.modPins_pending (s : State) (g : Pins → Pins) : (s.modPins g).pending = s.pending := rfl

/-! `w` -/
@[simp] theorem State.w_regs (s : State) (f : Fld) (v n i j : Nat) : (s.w f v n i j).regs = regSet s.regs f v n i j := rfl
@[simp] theorem State.w_mem (s : State) (f : Fld) (v n i j : Nat) : (s.w f v n i j).mem = s.mem := rfl
@[simp] theorem State.w_out (s : State) (f : Fld) (v n i j : Nat) : (s.w f v n i j).out = s.out := rfl
@[simp] theorem State.w_free (s : State) (f : Fld) (v n i j : Nat) : (s.w f v n i j).free = s.free := rfl
@[simp] theorem State.w_waves (s : State) (f : Fld) (v n i j : Nat) : (s.w f v n i j).waves = s.waves := rfl
@[simp] theorem State.w_phase (s : State) (f : Fld) (v n i j : Nat) : (s.w f v n i j).phase = s.phase := rfl
@[simp] theorem State.w_pins (s : State) (f : Fld) (v n i j : Nat) : (s.w f v n i j).pins = s.pins := rfl
@[simp] theorem State.w_fabric (s : State) (f : Fld) (v n i j : Nat) : (s.w f v n i j).fabric = s.fabric := rfl
@[simp] theorem State.w_store (s : State) (f : Fld) (v n i j : Nat) : (s.w f v n i j).store = s.store := rfl
@[simp] theorem State.w_start (s : State) (f : Fld) (v n i j : Nat) : (s.w f v n i j).start = s.start := rfl
@[simp] theorem State.w_chain (s : State) (f : Fld) (v n i j : Nat) : (s.w f v n i j).chain = s.chain := rfl
@[simp] theorem State.w_alloc (s : State) (f : Fld) (v n i j : Nat) : (s.w f v n i j).alloc = s.alloc := rfl
@[simp] theorem State.w_safety (s : State) (f : Fld) (v n i j : Nat) : (s.w f v n i j).safety = s.safety := rfl
@[simp] theorem State.w_matrix (s : State) (f : Fld) (v n i j : Nat) : (s.w f v n i j).matrix = s.matrix := rfl
@[simp] theorem State.w_session (s : State) (f : Fld) (v n i j : Nat) : (s.w f v n i j).session = s.session := rfl
@[simp] theorem State.w_drive (s : State) (f : Fld) (v n i j : Nat) : (s.w f v n i j).drive = s.drive := rfl
@[simp] theorem State.w_inp (s : State) (f : Fld) (v n i j : Nat) : (s.w f v n i j).inp = s.inp := rfl
@[simp] theorem State.w_pair (s : State) (f : Fld) (v n i j : Nat) : (s.w f v n i j).pair = s.pair := rfl
@[simp] theorem State.w_command (s : State) (f : Fld) (v n i j : Nat) : (s.w f v n i j).command = s.command := rfl
@[simp] theorem State.w_vault (s : State) (f : Fld) (v n i j : Nat) : (s.w f v n i j).vault = s.vault := rfl
@[simp] theorem State.w_meter (s : State) (f : Fld) (v n i j : Nat) : (s.w f v n i j).meter = s.meter := rfl
@[simp] theorem State.w_bill (s : State) (f : Fld) (v n i j : Nat) : (s.w f v n i j).bill = s.bill := rfl
@[simp] theorem State.w_otp (s : State) (f : Fld) (v n i j : Nat) : (s.w f v n i j).otp = s.otp := rfl
@[simp] theorem State.w_loop (s : State) (f : Fld) (v n i j : Nat) : (s.w f v n i j).loop = s.loop := rfl
@[simp] theorem State.w_links (s : State) (f : Fld) (v n i j : Nat) : (s.w f v n i j).links = s.links := rfl
@[simp] theorem State.w_therm (s : State) (f : Fld) (v n i j : Nat) : (s.w f v n i j).therm = s.therm := rfl
@[simp] theorem State.w_pending (s : State) (f : Fld) (v n i j : Nat) : (s.w f v n i j).pending = s.pending := rfl

/-! `emit` -/
@[simp] theorem State.emit_regs (s : State) (o : Out) : (s.emit o).regs = s.regs := rfl
@[simp] theorem State.emit_mem (s : State) (o : Out) : (s.emit o).mem = s.mem := rfl
@[simp] theorem State.emit_out (s : State) (o : Out) : (s.emit o).out = s.out ++ [o] := rfl
@[simp] theorem State.emit_free (s : State) (o : Out) : (s.emit o).free = s.free := rfl
@[simp] theorem State.emit_waves (s : State) (o : Out) : (s.emit o).waves = s.waves := rfl
@[simp] theorem State.emit_phase (s : State) (o : Out) : (s.emit o).phase = s.phase := rfl
@[simp] theorem State.emit_pins (s : State) (o : Out) : (s.emit o).pins = s.pins := rfl
@[simp] theorem State.emit_fabric (s : State) (o : Out) : (s.emit o).fabric = s.fabric := rfl
@[simp] theorem State.emit_store (s : State) (o : Out) : (s.emit o).store = s.store := rfl
@[simp] theorem State.emit_start (s : State) (o : Out) : (s.emit o).start = s.start := rfl
@[simp] theorem State.emit_chain (s : State) (o : Out) : (s.emit o).chain = s.chain := rfl
@[simp] theorem State.emit_alloc (s : State) (o : Out) : (s.emit o).alloc = s.alloc := rfl
@[simp] theorem State.emit_safety (s : State) (o : Out) : (s.emit o).safety = s.safety := rfl
@[simp] theorem State.emit_matrix (s : State) (o : Out) : (s.emit o).matrix = s.matrix := rfl
@[simp] theorem State.emit_session (s : State) (o : Out) : (s.emit o).session = s.session := rfl
@[simp] theorem State.emit_drive (s : State) (o : Out) : (s.emit o).drive = s.drive := rfl
@[simp] theorem State.emit_inp (s : State) (o : Out) : (s.emit o).inp = s.inp := rfl
@[simp] theorem State.emit_pair (s : State) (o : Out) : (s.emit o).pair = s.pair := rfl
@[simp] theorem State.emit_command (s : State) (o : Out) : (s.emit o).command = s.command := rfl
@[simp] theorem State.emit_vault (s : State) (o : Out) : (s.emit o).vault = s.vault := rfl
@[simp] theorem State.emit_meter (s : State) (o : Out) : (s.emit o).meter = s.meter := rfl
@[simp] theorem State.emit_bill (s : State) (o : Out) : (s.emit o).bill = s.bill := rfl
@[simp] theorem State.emit_otp (s : State) (o : Out) : (s.emit o).otp = s.otp := rfl
@[simp] theorem State.emit_loop (s : State) (o : Out) : (s.emit o).loop = s.loop := rfl
@[simp] theorem State.emit_links (s : State) (o : Out) : (s.emit o).links = s.links := rfl
@[simp] theorem State.emit_therm (s : State) (o : Out) : (s.emit o).therm = s.therm := rfl
@[simp] theorem State.emit_pending (s : State) (o : Out) : (s.emit o).pending = s.pending := rfl

/-! `mwrite` -/
@[simp] theorem State.mwrite_regs (s : State) (a : Nat) (bs : List Byte) : (s.mwrite a bs).regs = s.regs := rfl
@[simp] theorem State.mwrite_mem (s : State) (a : Nat) (bs : List Byte) : (s.mwrite a bs).mem = memWriteAll s.mem a bs := rfl
@[simp] theorem State.mwrite_out (s : State) (a : Nat) (bs : List Byte) : (s.mwrite a bs).out = s.out := rfl
@[simp] theorem State.mwrite_free (s : State) (a : Nat) (bs : List Byte) : (s.mwrite a bs).free = s.free := rfl
@[simp] theorem State.mwrite_waves (s : State) (a : Nat) (bs : List Byte) : (s.mwrite a bs).waves = s.waves := rfl
@[simp] theorem State.mwrite_phase (s : State) (a : Nat) (bs : List Byte) : (s.mwrite a bs).phase = s.phase := rfl
@[simp] theorem State.mwrite_pins (s : State) (a : Nat) (bs : List Byte) : (s.mwrite a bs).pins = s.pins := rfl
@[simp] theorem State.mwrite_fabric (s : State) (a : Nat) (bs : List Byte) : (s.mwrite a bs).fabric = s.fabric := rfl
@[simp] theorem State.mwrite_store (s : State) (a : Nat) (bs : List Byte) : (s.mwrite a bs).store = s.store := rfl
@[simp] theorem State.mwrite_start (s : State) (a : Nat) (bs : List Byte) : (s.mwrite a bs).start = s.start := rfl
@[simp] theorem State.mwrite_chain (s : State) (a : Nat) (bs : List Byte) : (s.mwrite a bs).chain = s.chain := rfl
@[simp] theorem State.mwrite_alloc (s : State) (a : Nat) (bs : List Byte) : (s.mwrite a bs).alloc = s.alloc := rfl
@[simp] theorem State.mwrite_safety (s : State) (a : Nat) (bs : List Byte) : (s.mwrite a bs).safety = s.safety := rfl
@[simp] theorem State.mwrite_matrix (s : State) (a : Nat) (bs : List Byte) : (s.mwrite a bs).matrix = s.matrix := rfl
@[simp] theorem State.mwrite_session (s : State) (a : Nat) (bs : List Byte) : (s.mwrite a bs).session = s.session := rfl
@[simp] theorem State.mwrite_drive (s : State) (a : Nat) (bs : List Byte) : (s.mwrite a bs).drive = s.drive := rfl
@[simp] theorem State.mwrite_inp (s : State) (a : Nat) (bs : List Byte) : (s.mwrite a bs).inp = s.inp := rfl
@[simp] theorem State.mwrite_pair (s : State) (a : Nat) (bs : List Byte) : (s.mwrite a bs).pair = s.pair := rfl
@[simp] theorem State.mwrite_command (s : State) (a : Nat) (bs : List Byte) : (s.mwrite a bs).command = s.command := rfl
@[simp] theorem State.mwrite_vault (s : State) (a : Nat) (bs : List Byte) : (s.mwrite a bs).vault = s.vault := rfl
@[simp] theorem State.mwrite_meter (s : State) (a : Nat) (bs : List Byte) : (s.mwrite a bs).meter = s.meter := rfl
@[simp] theorem State.mwrite_bill (s : State) (a : Nat) (bs : List Byte) : (s.mwrite a bs).bill = s.bill := rfl
@[simp] theorem State.mwrite_otp (s : State) (a : Nat) (bs : List Byte) : (s.mwrite a bs).otp = s.otp := rfl
@[simp] theorem State.mwrite_loop (s : State) (a : Nat) (bs : List Byte) : (s.mwrite a bs).loop = s.loop := rfl
@[simp] theorem State.mwrite_links (s : State) (a : Nat) (bs : List Byte) : (s.mwrite a bs).links = s.links := rfl
@[simp] theorem State.mwrite_therm (s : State) (a : Nat) (bs : List Byte) : (s.mwrite a bs).therm = s.therm := rfl
@[simp] theorem State.mwrite_pending (s : State) (a : Nat) (bs : List Byte) : (s.mwrite a bs).pending = s.pending := rfl

end Sys2Proof.Machine
end

