-- ==== Sys2Proof/Laws/Tables.lean ====
section
/-! SUPPORT. Tables, registers and memory: what a read gives after a write, and that every operation keeps the canonical
form. -/
namespace Sys2Proof.Machine

/-! ## Tables -/

/-- Reading a key after writing a key. -/
theorem Tab.find_put {α : Type} (t : Tab α) (k k' : Nat) (v : α) :
    Tab.find (Tab.put t k v) k' = if k' = k then some v else Tab.find t k' := by
  induction t with
  | nil => simp [Tab.put, Tab.find]
  | cons p t ih =>
    obtain ⟨q, u⟩ := p
    unfold Tab.put
    by_cases h : k = q
    · subst h
      by_cases h' : k' = k <;> simp [Tab.find, h']
    · by_cases h2 : k < q
      · by_cases h' : k' = k <;> simp [Tab.find, h, h2, h']
      · simp only [h, h2, if_false, Tab.find, ih]
        by_cases h' : k' = q
        · simp [h']
          intro e; omega
        · simp [h']

/-- Reading a key after removing a key. -/
theorem Tab.find_del {α : Type} (t : Tab α) (k k' : Nat) :
    Tab.find (Tab.del t k) k' = if k' = k then none else Tab.find t k' := by
  induction t with
  | nil => simp [Tab.del, Tab.find]
  | cons p t ih =>
    obtain ⟨q, u⟩ := p
    unfold Tab.del
    by_cases h : k = q
    · subst h
      simp only [if_true, ih]
      by_cases h' : k' = k <;> simp [Tab.find, h']
    · simp only [h, if_false, Tab.find, ih]
      by_cases h' : k' = q
      · simp [h']
        intro e; omega
      · simp [h']

/-- Every key of a table is above a bound. -/
def Tab.above {α : Type} (t : Tab α) (b : Nat) : Prop := ∀ p ∈ t, b < p.1

/-- The canonical form of a table of one row and more. -/
theorem Tab.wf_cons {α : Type} (k : Nat) (v : α) (t : Tab α) : Tab.wf ((k, v) :: t) = true ↔ Tab.above t k ∧ Tab.wf t = true := by
  induction t generalizing k v with
  | nil => simp [Tab.wf, Tab.above]
  | cons p t ih =>
    obtain ⟨q, u⟩ := p
    simp only [Tab.wf, Bool.and_eq_true, decide_eq_true_eq]
    constructor
    · rintro ⟨h1, h2⟩
      refine ⟨?_, h2⟩
      intro x hx
      rcases List.mem_cons.mp hx with rfl | hx
      · exact h1
      · exact Nat.lt_trans h1 (((ih q u).mp h2).1 x hx)
    · rintro ⟨h1, h2⟩
      exact ⟨h1 (q, u) List.mem_cons_self, h2⟩

/-- Writing a key keeps a bound below it. -/
theorem Tab.above_put {α : Type} {t : Tab α} {b k : Nat} {v : α} (h : Tab.above t b) (hk : b < k) : Tab.above (Tab.put t k v) b := by
  induction t with
  | nil => intro x hx; simp only [Tab.put, List.mem_singleton] at hx; subst hx; exact hk
  | cons p t ih =>
    obtain ⟨q, u⟩ := p
    have ht : Tab.above t b := fun x hx => h x (List.mem_cons_of_mem _ hx)
    unfold Tab.put
    split
    · intro x hx
      rcases List.mem_cons.mp hx with rfl | hx
      · exact hk
      · exact ht x hx
    · split
      · intro x hx
        rcases List.mem_cons.mp hx with rfl | hx
        · exact hk
        · exact h x hx
      · intro x hx
        rcases List.mem_cons.mp hx with rfl | hx
        · exact h _ List.mem_cons_self
        · exact ih ht x hx

/-- Writing a key keeps the canonical form. -/
theorem Tab.wf_put {α : Type} {t : Tab α} (h : Tab.wf t = true) (k : Nat) (v : α) : Tab.wf (Tab.put t k v) = true := by
  induction t with
  | nil => rfl
  | cons p t ih =>
    obtain ⟨q, u⟩ := p
    have hc := (Tab.wf_cons q u t).mp h
    unfold Tab.put
    split
    · rename_i e
      subst e
      exact (Tab.wf_cons _ _ _).mpr hc
    · split
      · rename_i hlt
        refine (Tab.wf_cons _ _ _).mpr ⟨?_, h⟩
        intro x hx
        rcases List.mem_cons.mp hx with rfl | hx
        · exact hlt
        · exact Nat.lt_trans hlt (hc.1 x hx)
      · exact (Tab.wf_cons _ _ _).mpr ⟨Tab.above_put hc.1 (by omega), ih hc.2⟩

/-- Removing a key keeps a bound. -/
theorem Tab.above_del {α : Type} {t : Tab α} {b k : Nat} (h : Tab.above t b) : Tab.above (Tab.del t k) b := by
  induction t with
  | nil => exact h
  | cons p t ih =>
    obtain ⟨q, u⟩ := p
    have ht : Tab.above t b := fun x hx => h x (List.mem_cons_of_mem _ hx)
    unfold Tab.del
    split
    · exact ih ht
    · intro x hx
      rcases List.mem_cons.mp hx with rfl | hx
      · exact h _ List.mem_cons_self
      · exact ih ht x hx

/-- Removing a key keeps the canonical form. -/
theorem Tab.wf_del {α : Type} {t : Tab α} (h : Tab.wf t = true) (k : Nat) : Tab.wf (Tab.del t k) = true := by
  induction t with
  | nil => rfl
  | cons p t ih =>
    obtain ⟨q, u⟩ := p
    have hc := (Tab.wf_cons q u t).mp h
    unfold Tab.del
    split
    · exact ih hc.2
    · exact (Tab.wf_cons _ _ _).mpr ⟨Tab.above_del hc.1, ih hc.2⟩

/-- Keeping some rows keeps the canonical form. -/
theorem Tab.wf_filter {α : Type} {t : Tab α} (h : Tab.wf t = true) (p : Nat × α → Bool) : Tab.wf (t.filter p) = true := by
  induction t with
  | nil => rfl
  | cons x t ih =>
    obtain ⟨q, u⟩ := x
    have hc := (Tab.wf_cons q u t).mp h
    rw [List.filter_cons]
    split
    · exact (Tab.wf_cons _ _ _).mpr ⟨fun y hy => hc.1 y ((List.mem_filter.mp hy).1), ih hc.2⟩
    · exact ih hc.2

/-! ## Registers -/

/-- Reading a field after writing a field. -/
theorem regGet_regSet (t : Tab (BitVec 32)) (f g : Fld) (v n i j m a b : Nat) :
    regGet (regSet t f v n i j) g m a b =
      if g.key m a b = f.key n i j then
        (if v % 2 ^ f.w = f.default n then g.default m else v % 2 ^ f.w % 4294967296)
      else regGet t g m a b := by
  unfold regGet regSet
  by_cases hv : v % 2 ^ f.w = f.default n
  · simp only [hv, if_true, Tab.find_del]
    by_cases hk : g.key m a b = f.key n i j <;> simp [hk]
  · simp only [hv, if_false, Tab.find_put]
    by_cases hk : g.key m a b = f.key n i j <;> simp [hk]

/-- A field reads what was written into it, as far as it is wide. -/
theorem State.r_w_self (s : State) (f : Fld) (v n i j : Nat) (hw : f.w ≤ 32) : (s.w f v n i j).r f n i j = v % 2 ^ f.w := by
  have h : v % 2 ^ f.w < 4294967296 :=
    Nat.lt_of_lt_of_le (Nat.mod_lt _ (Nat.two_pow_pos _)) (Nat.pow_le_pow_right (by decide) hw)
  show regGet (regSet s.regs f v n i j) f n i j = _
  rw [regGet_regSet, if_pos rfl, Nat.mod_eq_of_lt h]
  split
  · exact (by assumption : v % 2 ^ f.w = f.default n).symm
  · rfl

/-- A field whose key differs is unchanged. -/
theorem State.r_w_other (s : State) (f g : Fld) (v n i j m a b : Nat) (h : g.key m a b ≠ f.key n i j) :
    (s.w f v n i j).r g m a b = s.r g m a b := by
  show regGet (regSet s.regs f v n i j) g m a b = _
  rw [regGet_regSet, if_neg h]
  rfl

/-- A write keeps the register file canonical. -/
theorem regSet_wf {t : Tab (BitVec 32)} (h : Tab.wf t = true) (f : Fld) (v n i j : Nat) : Tab.wf (regSet t f v n i j) = true := by
  unfold regSet
  dsimp only
  split
  · exact Tab.wf_del h _
  · exact Tab.wf_put h _ _

/-! ## Memory -/

/-- Reading a byte after removing one. -/
theorem memRead_memDel (m : List Host.Cell) (a x : Nat) : memRead (memDel m a) x = if x = a then 0 else memRead m x := by
  induction m with
  | nil => simp [memDel, memRead]
  | cons p m ih =>
    obtain ⟨q, u⟩ := p
    unfold memDel
    by_cases h : a = q
    · subst h
      simp only [if_true, ih]
      by_cases h' : x = a <;> simp [memRead, h']
    · simp only [h, if_false, memRead, ih]
      by_cases h' : x = q
      · simp [h']
        intro e; omega
      · simp [h']

/-- Reading a byte after inserting one. -/
theorem memRead_memIns (m : List Host.Cell) (a x : Nat) (b : Byte) : memRead (memIns m a b) x = if x = a then b else memRead m x := by
  induction m with
  | nil => simp [memIns, memRead]
  | cons p m ih =>
    obtain ⟨q, u⟩ := p
    unfold memIns
    by_cases h : a = q
    · subst h
      by_cases h' : x = a <;> simp [memRead, h']
    · by_cases h2 : a < q
      · by_cases h' : x = a <;> simp [memRead, h, h2, h']
      · simp only [h, h2, if_false, memRead, ih]
        by_cases h' : x = q
        · simp [h']
          intro e; omega
        · simp [h']

/-- Reading a byte after writing one. -/
theorem memRead_memWrite (m : List Host.Cell) (a x : Nat) (b : Byte) : memRead (memWrite m a b) x = if x = a then b else memRead m x := by
  unfold memWrite
  split
  · rename_i h
    rw [memRead_memDel, h]
  · exact memRead_memIns m a x b

/-- Bytes outside a block are unchanged when it is written. -/
theorem memRead_memWriteAll (m : List Host.Cell) (a x : Nat) (bs : List Byte) (h : x < a ∨ a + bs.length ≤ x) :
    memRead (memWriteAll m a bs) x = memRead m x := by
  induction bs generalizing m a with
  | nil => rfl
  | cons b bs ih =>
    simp only [List.length_cons] at h
    unfold memWriteAll
    rw [ih _ _ (by omega), memRead_memWrite, if_neg (by omega)]

/-- Every listed address is above a bound. -/
def memAbove (m : List Host.Cell) (b : Nat) : Prop := ∀ p ∈ m, b < p.1

/-- The canonical form of a memory of one byte and more. -/
theorem Memory.wf_cons (a : Nat) (b : Byte) (m : List Host.Cell) : Memory.wf ((a, b) :: m) = true ↔ b ≠ 0 ∧ memAbove m a ∧ Memory.wf m = true := by
  induction m generalizing a b with
  | nil => simp [Memory.wf, memAbove]
  | cons p m ih =>
    obtain ⟨q, u⟩ := p
    simp only [Memory.wf, Bool.and_eq_true, decide_eq_true_eq]
    constructor
    · rintro ⟨⟨h1, h2⟩, h3⟩
      refine ⟨h1, ?_, h3⟩
      intro x hx
      rcases List.mem_cons.mp hx with rfl | hx
      · exact h2
      · exact Nat.lt_trans h2 (((ih q u).mp h3).2.1 x hx)
    · rintro ⟨h1, h2, h3⟩
      exact ⟨⟨h1, h2 (q, u) List.mem_cons_self⟩, h3⟩

/-- Removing a byte keeps a bound. -/
theorem memAbove_memDel {m : List Host.Cell} {b a : Nat} (h : memAbove m b) : memAbove (memDel m a) b := by
  induction m with
  | nil => exact h
  | cons p m ih =>
    obtain ⟨q, u⟩ := p
    have ht : memAbove m b := fun x hx => h x (List.mem_cons_of_mem _ hx)
    unfold memDel
    split
    · exact ih ht
    · intro x hx
      rcases List.mem_cons.mp hx with rfl | hx
      · exact h _ List.mem_cons_self
      · exact ih ht x hx

/-- Removing a byte keeps the canonical form. -/
theorem Memory.wf_memDel {m : List Host.Cell} (h : Memory.wf m = true) (a : Nat) : Memory.wf (memDel m a) = true := by
  induction m with
  | nil => rfl
  | cons p m ih =>
    obtain ⟨q, u⟩ := p
    have hc := (Memory.wf_cons q u m).mp h
    unfold memDel
    split
    · exact ih hc.2.2
    · exact (Memory.wf_cons _ _ _).mpr ⟨hc.1, memAbove_memDel hc.2.1, ih hc.2.2⟩

/-- Inserting a byte keeps a bound below it. -/
theorem memAbove_memIns {m : List Host.Cell} {b a : Nat} {v : Byte} (h : memAbove m b) (ha : b < a) : memAbove (memIns m a v) b := by
  induction m with
  | nil => intro x hx; simp only [memIns, List.mem_singleton] at hx; subst hx; exact ha
  | cons p m ih =>
    obtain ⟨q, u⟩ := p
    have ht : memAbove m b := fun x hx => h x (List.mem_cons_of_mem _ hx)
    unfold memIns
    split
    · intro x hx
      rcases List.mem_cons.mp hx with rfl | hx
      · exact ha
      · exact ht x hx
    · split
      · intro x hx
        rcases List.mem_cons.mp hx with rfl | hx
        · exact ha
        · exact h x hx
      · intro x hx
        rcases List.mem_cons.mp hx with rfl | hx
        · exact h _ List.mem_cons_self
        · exact ih ht x hx

/-- Inserting a nonzero byte keeps the canonical form. -/
theorem Memory.wf_memIns {m : List Host.Cell} (h : Memory.wf m = true) (a : Nat) (v : Byte) (hv : v ≠ 0) : Memory.wf (memIns m a v) = true := by
  induction m with
  | nil => simpa [memIns, Memory.wf] using hv
  | cons p m ih =>
    obtain ⟨q, u⟩ := p
    have hc := (Memory.wf_cons q u m).mp h
    unfold memIns
    split
    · rename_i e
      subst e
      exact (Memory.wf_cons _ _ _).mpr ⟨hv, hc.2⟩
    · split
      · rename_i hlt
        refine (Memory.wf_cons _ _ _).mpr ⟨hv, ?_, h⟩
        intro x hx
        rcases List.mem_cons.mp hx with rfl | hx
        · exact hlt
        · exact Nat.lt_trans hlt (hc.2.1 x hx)
      · exact (Memory.wf_cons _ _ _).mpr ⟨hc.1, memAbove_memIns hc.2.1 (by omega), ih hc.2.2⟩

/-- Writing a byte keeps the canonical form. -/
theorem Memory.wf_memWrite {m : List Host.Cell} (h : Memory.wf m = true) (a : Nat) (b : Byte) : Memory.wf (memWrite m a b) = true := by
  unfold memWrite
  split
  · exact Memory.wf_memDel h a
  · exact Memory.wf_memIns h a b (by assumption)

/-- Writing bytes keeps the canonical form. -/
theorem Memory.wf_memWriteAll {m : List Host.Cell} (h : Memory.wf m = true) (a : Nat) (bs : List Byte) : Memory.wf (memWriteAll m a bs) = true := by
  induction bs generalizing m a with
  | nil => exact h
  | cons b bs ih => exact ih (Memory.wf_memWrite h a b) (a + 1)

/-- Keeping some bytes keeps the canonical form. -/
theorem Memory.wf_filter {m : List Host.Cell} (h : Memory.wf m = true) (p : Host.Cell → Bool) : Memory.wf (m.filter p) = true := by
  induction m with
  | nil => rfl
  | cons x m ih =>
    obtain ⟨q, u⟩ := x
    have hc := (Memory.wf_cons q u m).mp h
    rw [List.filter_cons]
    split
    · exact (Memory.wf_cons _ _ _).mpr ⟨hc.1, fun y hy => hc.2.1 y ((List.mem_filter.mp hy).1), ih hc.2.2⟩
    · exact ih hc.2.2

end Sys2Proof.Machine
end

