-- ==== Sys2Proof/Tests/Slice0.lean ====
section
/-! SUPPORT. Tests: the smoke test of well-formedness, small tests of single steps whose expected values come from the spec, and one
witness per statement of Certificates/Slice0/Obligations.lean: concrete states and operands that meet the hypotheses of each of
its clauses, at boundary values of their ranges. -/
namespace Sys2Proof.Tests
open Sys2Proof Sys2Proof.Machine

set_option maxRecDepth 20000
set_option Elab.async false

/-! ## Small states and operands -/

/-- The block in RUN with nothing set. -/
def live : State := { State.reset with phase := .run }
/-- The block in a phase, with nothing set. -/
def at_ (p : Phase) : State := { State.reset with phase := p }
/-- A tide table image with the given declarations and initial values. -/
def image (d : Decl) : TtImage :=
  { length := 256, digest := 0, magic := 0x53525244, format := 3, count := 11, lengthField := 256, reservedZero := true, deviceId := 0,
    svn := 0, sections := [1, 2, 3, 4, 5, 6, 8, 9, 0x0B, 0x0D, 0x0E].map (fun k => ⟨k, 1, 256, 0, true⟩),
    cert := ⟨1, true, 511, 0, 4294967295, 0, true⟩, sigOk := true, credits := List.replicate 32 1,
    parts := [⟨0, []⟩, ⟨2, []⟩], ownership := [], decl := d, fields := [⟨Reg.ALLOC_ALLOC_PART.addr 0 0 0, Reg.ALLOC_ALLOC_PART.lo, 1⟩], safetyCrc := 0 }
/-- The block in RUN with an image of the given declarations. -/
def placed (d : Decl) : State := { live with start.image := some (image d) }
/-- The block in RUN with the issuer of `env` in entry 31, holding every right. -/
def srv : State :=
  live.w Reg.CMD_ISS_STATE 1 0 31 |>.w Reg.CMD_ISS_ID_LO 9 0 31 |>.w Reg.CMD_ISS_RIGHTS 511 0 31 |>.w Reg.CMD_ISS_NOT_AFTER 4294967295 0 31
/-- A request of that issuer. -/
def env : Env :=
  { decodes := true, size := 16384, id := 5, serial := 0, addr := none, kid := 9, cert := none, sigOk := true, conn := some 1 }
/-- A message of a vehicle without and within its session. -/
def v2g : V2g := { decodes := true, size := 8192, sid := none }
def v2gS : V2g := { v2g with sid := some 7 }
def eim : AuthReq := { pnc := false, subCas := 0, anchor := [], validity := [], keyUsageOk := true, sigOk := true, emaid := [] }
def curve : CurveRec :=
  { flags := 0, tide := 1, top := 100, orphanBudget := 10, holdTides := 10, reservedZero := true, points := [(0, 0), (65535, 100)] }
def beacon : Beacon := { tide := 0, sender := 0, root := 0, depth := 65535, position := 1, skew := 0 }
def msg : Routed := { addr := ⟨1, 5⟩, kind := 1, msgId := 3, travelled := 1, frags := [(0, [9])], lastFrag := 0 }
def slot0 : SlotDef := { engine := 0, perTide := false, period := 1, phase := 0, span := 1, bound := 500, part := 5, task := 0 }
def work : SlotWork := { finish := true, scrubCorr := 0, scrubUncorr := 0, scrubEnd := false, bist := none }
/-- A write of two bytes to the last bytes of the near SRAM, by the last requester. -/
def req : FabReq :=
  { req := 31, tag := 255, kind := .write, addr := 64, len := 2, data := [1, 2], part := none, slot := none, res := none }
def start0 : StartIn :=
  { ready := true, chainRoot := true, homeSel := false, strandN := false, shareOk := true, migrateOk := true, selfTest := true,
    rtcMs := 0, tides := 1, gen0Ok := true, gen1Ok := true, vaultBad := [], denyOk := true, ride := none, bist := [] }
def record7 : SessRec :=
  { connector := 31, flags := 0, no := 7, startTime := 1, startTz := 0, startSync := 0, startImport := 0, startExport := 0,
    authSrc := 2, ident := [], evseId := [] }
def attrs : KeyAttrs := { slot := 9, type := 1, usage := 3, limit := 0, count := 0, survive := false, ledge := false }
def health : HealthRec := { tide := 1, role := 2, twin := true, flags := 1, fwSvn := 0, passTides := 0 }
def mirror : Mirror :=
  { tide := 0, fwSvn := 3, regs := [], changes := [⟨Reg.LS_OUT_REQ.addr 31 0 0, Reg.LS_OUT_REQ.lo, 1⟩], window := [], seqs := [],
    sids := [], sout := 0, ls := 0, loops := [], cables := [] }
def frame : TsnFrame := { dst := 0x010203040506, src := 2, tag := none, len := 64, fcsOk := true }
def canFrame : CanFrame :=
  { ok := true, id := 1, ide := false, fdf := false, brs := false, dlc := 1, esi := false, remote := false, data := [5], rxErrors := 0,
    taken := 0, tick := 624 }
def canTx : CanTx := { box := { id := 1, ide := false, fdf := false, data := [5] }, wave := 0 }
def sent : SentFrame := { tickNs := 3000, nibblesOk := true, crcOk := true, status := 0, raw1 := 1, raw2 := 2, slow := none }
def limit500 : WEntry := fieldEntry Reg.ALLOC_IMPORT_LIMIT 0 0 500
def staged0 : WEntry := fieldEntry Reg.SESS_AUTH_MODE 31 0 2
def target : CoveTarget := { addr := ⟨1, 5⟩, serial := 4, ready := false, acked := false, error := 0 }
def open0 : OpenArgs := { bank := none, fwLength := 25165824, ttLength := 4194304, fwDigest := 1, ttDigest := 2, fwSvn := 1 }
def header : Header := { seq := 1, b := { fwLength := 1024, ttLength := 1024 } }
/-- A contactor that closes while another of its guard set counts as closed. -/
def guarded : State :=
  live.w Reg.MTX_CONTACTORS 256 |>.w Reg.MTX_GUARD_SETS 192 |>.w Reg.MTX_CT_KIND 1 0 0 |>.w Reg.MTX_CT_KIND 1 0 255 |>.w Reg.MTX_CT_CMD 1 0 0
    |>.w Reg.MTX_GUARD_MASK 1 0 191 0 |>.w Reg.MTX_GUARD_MASK 0x80000000 0 191 7
/-- A block whose target bank holds images that pass every check of a start. -/
def bootable : State :=
  { live with
    store.fwB := some ⟨256, 0, 0, 0, some 0, true, 0, 0⟩, store.ttB := some (image {}), store.h0 := headerBytes header, otp.active := [(2, 0), (3, 0)] }
    |>.w Reg.DEV_LIFECYCLE 2 |>.w Reg.OTP_VALID 0xFFF |>.w Reg.UPD_TARGET 1
def grant0 : GrantRec := ⟨1, 50, 0, 0⟩
def gdS : GdSample := { shunt := [0, 0, 0], vds := [none, none, none], both := [false, false, false], vbs := [255, 255, 255], vdrv := 120, vbus := 500, temp := 0 }
def lsS : LsSample := { i := 0, temp := 0, case := 0 }
def hello : ClientHello := { suite := true, group := true, sigAlg := true, psk := false, early := false }
def gen0 : SettingsGen := { seq := 1, writer := 0, tide := 0, rtc := 0, regs := [] }
def tx0 : ChainTx := ⟨7, 0x00, 64, .pin "x" 0 true⟩
/-- A block in the field whose records may be stored, and one that holds a SECC chain and its key. -/
def fielded : State := live.w Reg.DEV_LIFECYCLE 3
def secc : State :=
  ({ placed { seccChain := [[1]], seccKey := 9 } with session.conns := [(31, { link := true })] } : State).w Reg.SESS_STATE 1 31
    |>.w Reg.KEY_STATE 1 0 9 |>.w Reg.KEY_USAGE 5 0 9
def light0 : LightRec := ⟨1, 1, false, 0⟩
def wrap0 : KeyWrap := ⟨List.replicate 96 1, List.replicate 48 2⟩
def vop : VaultOp := { slot := 511, record := some 3, last := true }
def prog0 : OtpProg := ⟨5, 3, [], none⟩
def sync0 : SyncMsg := ⟨0, true, true, false, 100⟩
def t1s0 : T1sFrame := ⟨true, 0, 8, [0x61]⟩
def tsnq : TsnQ := ⟨15, 7, 1, 2, 5, 64, 0, 0, false, []⟩
/-- Port 15 up and a member of VLAN 0 beside port 14. -/
def ported : State := live.w Reg.TSN_MODE 1 15 |>.w Reg.TSN_LINK 1 15 |>.w Reg.TSN_MODE 1 14 |>.w Reg.TSN_LINK 1 14
/-- DMA channel 63 busy in a running DMA slot, with a transfer of a length, a descriptor at address 32 and region 0 of partition 0. -/
def dmaAt (l : Nat) (mem : List Host.Cell) : State :=
  ({ placed { slots := [{ slot0 with engine := 127 }] } with
    mem := mem, fabric.slots := [(0, ⟨3, true, false, 0⟩)], fabric.dma := [(63, { src := 64, dst := 128, length := l })] } : State).w
    Reg.TIDE_DMA_STATE 1 0 63 |>.w Reg.TIDE_REG_VALID 1 0 0 0 |>.w Reg.TIDE_REG_RIGHTS 11 0 0 0 |>.w Reg.TIDE_REG_LIMIT 4095 0 0 0
    |>.w Reg.TIDE_DMA_DESC 32 0 63
/-- The VLAN and the class of a frame that comes in at port p. -/
def vidOf (s : State) (p : Nat) (f : TsnFrame) : Nat :=
  let own := if p < 16 then s.r Reg.TSN_PVID p else 0
  match f.tag with
  | some (v, _) => if v = 0 then own else v
  | none => own
def clsOf (f : TsnFrame) : Nat :=
  match f.tag with
  | some (_, c) => c.val
  | none => 0

/-! ## Well-formedness -/

/-- The outcome of a step, seen through a check of the next state. -/
def after (o : Host.Outcome State Fault Refusal) (p : State → Bool) : Bool :=
  match o with
  | .next t => p t
  | .fault _ => false
  | .refused _ => false

def meterRec (n : Nat) : MeterRec := { tide := 0, flags := 0, ac := List.replicate n 0, dcImport := 0, dcExport := 0 }
def pwm (n : Nat) : PwmIn := { vbus := 0, vbs := List.replicate n 0, tsw := List.replicate n none }

theorem test_wf_accepts :
    ([.waveBoundary { aux := [65535] }, .fabricRequest req, .resetRelease start0, .chainForward msg, .meterReceive 0 (meterRec 7),
      .pwmPeriod 0 (pwm 3), .curveReceive 0 curve, .tsnFrameReceive 0 0 frame, .fdbAgeOut 4095 0, .prepareReceive [⟨0, 31, 1⟩],
      .readyReceive ⟨1, 5⟩ 4 65535] : List Instr).all Instr.wf = true := by decide +kernel

theorem test_wf_wave_voltages : Instr.wf (.waveBoundary { soutV := List.replicate 17 0 }) = false := by decide +kernel
theorem test_wf_wave_currents : Instr.wf (.tideBoundary { soutI := List.replicate 17 0 }) = false := by decide +kernel
theorem test_wf_wave_aux_count : Instr.wf (.waveBoundary { aux := List.replicate 33 0 }) = false := by decide +kernel
theorem test_wf_wave_aux_code : Instr.wf (.waveBoundary { aux := [65536] }) = false := by decide +kernel
theorem test_wf_wave_modulators : Instr.wf (.waveBoundary { mods := List.replicate 153 0 }) = false := by decide +kernel
theorem test_wf_wave_insulation : Instr.wf (.tideBoundary { riso := List.replicate 33 none }) = false := by decide +kernel
theorem test_wf_wave_switches :
    Instr.wf (.waveBoundary { lsI := List.replicate 33 0 }) = false ∧ Instr.wf (.waveBoundary { lsT := List.replicate 33 0 }) = false ∧
      Instr.wf (.waveBoundary { vls := [0, 0, 0] }) = false := by decide +kernel
theorem test_wf_wave_sensors : Instr.wf (.waveBoundary { temps := List.replicate 49 none }) = false := by decide +kernel
theorem test_wf_request_data :
    Instr.wf (.fabricRequest { req with data := [1] }) = false ∧ Instr.wf (.fabricRequest { req with kind := .read }) = false ∧
      Instr.wf (.fabricRequest { req with kind := .exec }) = false := by decide +kernel
theorem test_wf_start :
    Instr.wf (.resetRelease { start0 with bist := [⟨14, 0, true, 0⟩] }) = false ∧
      Instr.wf (.resetRelease { start0 with vaultBad := [512] }) = false := by decide +kernel
theorem test_wf_routed :
    Instr.wf (.chainForward { msg with kind := 256 }) = false ∧ Instr.wf (.chainForward { msg with travelled := 22 }) = false ∧
      Instr.wf (.proxyReceive msg { msg with kind := 256 }) = false := by decide +kernel
theorem test_wf_curve :
    Instr.wf (.curveReceive 0 { curve with points := [(65536, 0)] }) = false ∧
      Instr.wf (.curveReceive 0 { curve with points := List.replicate 65536 (0, 0) }) = false := by decide +kernel
theorem test_wf_phases :
    Instr.wf (.pwmPeriod 0 (pwm 2)) = false ∧ Instr.wf (.bootstrapPrechargeEnd 0 [0, 0]) = false ∧
      Instr.wf (.protectionFault (.gd 0 { gdS with vds := [none, none, none, none] })) = false ∧
      Instr.wf (.thermalCondition (.gd 0 { gdS with vbs := [0, 0, 0, 0] })) = false ∧
      Instr.wf (.thermalLatchClear (.gd 0 { gdS with shunt := [0, 0, 0, 0] })) = false ∧
      Instr.wf (.crossConduction 0 { gdS with both := [true, true, true, true] }) = false := by decide +kernel
theorem test_wf_frames :
    Instr.wf (.statusFrameReceive 0 (List.replicate 1519 0)) = false ∧ Instr.wf (.yieldNoticeReceive 0 256) = false ∧
      Instr.wf (.chainReply 65536 0 []) = false ∧ Instr.wf (.chainForward { msg with msgId := 65536 }) = false ∧
      Instr.wf (.chainForward { msg with lastFrag := 256 }) = false := by decide +kernel
theorem test_wf_request :
    Instr.wf (.read { env with hops := 22 } 0 1) = false ∧ Instr.wf (.read { env with msgId := 65536 } 0 1) = false ∧
      Instr.wf (.attest env (List.replicate 16385 0)) = false ∧ Instr.wf (.otpProgram env 0 (List.replicate 2561 0) wrap0) = false ∧
      Instr.wf (.keyLoad env attrs false (List.replicate 97 0) wrap0) = false ∧
      Instr.wf (.keyLoad env attrs false [] { wrap0 with qe := List.replicate 97 0 }) = false ∧
      Instr.wf (.denyLoad env [2 ^ 384]) = false := by decide +kernel
theorem test_wf_meter : Instr.wf (.meterReceive 0 (meterRec 6)) = false := by decide +kernel
theorem test_wf_network :
    Instr.wf (.tsnFrameReceive 0 0 { frame with tag := some (4096, 0) }) = false ∧ Instr.wf (.fdbAgeOut 4096 0) = false ∧
      Instr.wf (.t1sFrameReceive 0 ⟨true, 0, 16, []⟩) = false := by decide +kernel
theorem test_wf_can :
    Instr.wf (.canFrameReceive 0 { canFrame with data := List.replicate 65 0 }) = false ∧
      Instr.wf (.canTransmit 0 [{ canTx.box with data := List.replicate 65 0 }] true 0) = false ∧
      Instr.wf (.canTransmit 0 [] true 512) = false ∧ Instr.wf (.canLoneProbe 0 true 512) = false := by decide +kernel
theorem test_wf_fields :
    Instr.wf (.prepareReceive [⟨0, 32, 0⟩]) = false ∧ Instr.wf (.prepareReceive [⟨0, 0, 4294967296⟩]) = false := by decide +kernel
theorem test_wf_mirror :
    Instr.wf (.mirrorReceive 0 { mirror with changes := [⟨0, 32, 0⟩] }) = false ∧
      Instr.wf (.mirrorReceive 0 { mirror with seqs := [(64, 0)] }) = false ∧
      Instr.wf (.mirrorReceive 0 { mirror with sids := [(32, 0)] }) = false ∧
      Instr.wf (.mirrorReceive 0 { mirror with loops := [⟨128, 0, 0, []⟩] }) = false ∧
      Instr.wf (.mirrorReceive 0 { mirror with cables := [⟨32, 0, 0, 0⟩] }) = false ∧
      Instr.wf (.mirrorReceive 0 { mirror with children := [⟨8, none, 0, 0⟩] }) = false ∧
      Instr.wf (.mirrorReceive 0 { mirror with moves := [⟨8, none, none, none⟩] }) = false := by decide +kernel
theorem test_wf_reply : Instr.wf (.chainReply 0 22 []) = false := by decide +kernel
theorem test_wf_event : Instr.wf (.eventFrameReceive ⟨0, 0, 4294967296⟩) = false := by decide +kernel
theorem test_wf_chunk :
    Instr.wf (.updateChunk env false 0 (List.replicate 65537 0) none none) = false := by decide +kernel
theorem test_wf_ready : Instr.wf (.readyReceive ⟨1, 5⟩ 4 65536) = false := by decide +kernel

/-! ## The spec's own examples -/

/-- Chapter 0, the example of R8: offset 0x0010 of load switch channels LS_12 and LS_07. -/
theorem test_object_address :
    Reg.LS_I_MEAS.addr 12 0 0 / 65536 = 0x0B0C ∧ Reg.LS_I_MEAS.addr 7 0 0 / 65536 = 0x0B07 := by decide +kernel

def quay0 : Curve := [(0, 0), (16384, 1000), (49152, 1000), (65535, 3750)]
def quay1 : Curve := [(0, 0), (16384, 0), (32768, 1000), (49152, 1000), (65535, 3000)]
def quay2 : Curve := [(0, 0), (49152, 0), (65535, 2500)]
def quay3 : Curve := [(0, -1200), (49152, 0), (65535, 0)]
def northPier : Curve := [(0, 0), (16384, 0), (32768, 2000), (49152, 2000), (65535, 19500)]
def southPier : Curve := [(0, 0), (16384, 0), (32768, 0), (49152, 4000), (65535, 15000)]
def quay : List Curve := [quay0, quay1, quay2, quay3, northPier, southPier]

/-- Table 3.8: the curves of Q0 to Q3 from their direction, class, weight, minimum and caps. -/
theorem test_quay_curves :
    shapeCurve 1 1 1 1000 3750 0 = quay0 ∧ shapeCurve 1 2 1 1000 3000 0 = quay1 ∧ shapeCurve 1 0 1 0 2500 0 = quay2 ∧
      shapeCurve 2 0 1 0 0 1200 = quay3 := by decide +kernel

/-- Table 3.9: the tide mark at a budget of 23,650 kW, and the sum at some candidates. -/
theorem test_quay_mark :
    tideMark (sumCurves quay) 23650 16 0 = 56324 ∧
      [32768, 49152, 57344, 53248, 56324, 56325].map (sumCurves quay) = [3600, 8000, 25875, 16937, 23647, 23651] := by decide +kernel

/-- Table 3.10: the values at the mark. -/
theorem test_quay_values : quay.map (fun c => evalCurve c 56324) = [2203, 1875, 1094, 0, 9660, 8815] := by decide +kernel

/-- Chapter 3, Lowering a knot: S(50,175) = 4,000, S(52,000) = 4,300, S(54,613) = 6,000. -/
theorem test_lowered_knot :
    knotValues (fun x => if x = 52000 then 4300 else 6000) [50175, 52000, 54613] (50175, 4000) [54613] = [(54613, 4729)] := by
  decide +kernel

/-- Table 1.7: TE_05 of Quay in wave 137. Partition 0 is of class S, 1 of class C, 2 of class H. -/
def te05 : State :=
  (placed { slots := [⟨5, false, 400, 137, 1, 140, 0, 0⟩, ⟨5, false, 400, 137, 1, 284, 1, 0⟩, ⟨5, false, 400, 137, 1, 70, 2, 0⟩] }).w
    Reg.TIDE_PART_CLASS 2 0 1 |>.w Reg.TIDE_PART_CLASS 4 0 2 |>.w Reg.TIDE_WAVE 137

/-- Chapter 1, after Table 1.7: a demand of 140 ticks exceeds the capacity of 123 and sheds slot C; the capacity becomes 193. -/
theorem test_throttle_sheds :
    capacity (te05.dueOn 5) = 123 ∧ capacity (te05.engineWave 5 140 false).1 = 193 ∧
      (te05.engineWave 5 140 false).2.map Prod.fst = [2] ∧ (te05.engineWave 5 123 false).2 = [] := by decide +kernel

/-- Chapter 1, A DMA transfer that meets a region limit: partition 5 may read far SRAM, and write near SRAM up to 0x0004_0BFF. -/
def dmaCopy : State :=
  live.w Reg.TIDE_REG_BASE (0x01200000 / 64) 0 5 0 |>.w Reg.TIDE_REG_LIMIT (0x01200FFF / 64) 0 5 0 |>.w Reg.TIDE_REG_RIGHTS 9 0 5 0
    |>.w Reg.TIDE_REG_VALID 1 0 5 0 |>.w Reg.TIDE_REG_BASE (0x00040000 / 64) 0 5 1 |>.w Reg.TIDE_REG_LIMIT (0x00040BFF / 64) 0 5 1
    |>.w Reg.TIDE_REG_RIGHTS 10 0 5 1 |>.w Reg.TIDE_REG_VALID 1 0 5 1

/-- Beat 47 passes; beat 48 is refused with fault 0x02 at 0x0004_0C00. -/
theorem test_dma_limit :
    dmaCopy.beatFault 5 (0x01200000 + 47 * 64) (0x00040000 + 47 * 64) 64 ⟨.clean, .clean⟩ = none ∧
      dmaCopy.beatFault 5 (0x01200000 + 3072) (0x00040000 + 3072) 64 ⟨.clean, .clean⟩ = some (2, 0x00040C00) := by decide +kernel

/-- Gates of TSN_02 in chapter 14, Cabinet gates on Quay, at 10 Gb/s. -/
def gates02 : State :=
  live.w Reg.TSN_SPEED 3 2 |>.w Reg.TSN_GCL_LEN 3 2 |>.w Reg.TSN_GCL_CYCLE 1 2 |>.w Reg.TSN_GCL_GATES 0x7F 2 0 |>.w Reg.TSN_GCL_GATES 0x80 2 1
    |>.w Reg.TSN_GCL_GATES 0x7F 2 2 |>.w Reg.TSN_GCL_DUR 40 2 0 |>.w Reg.TSN_GCL_DUR 40 2 1 |>.w Reg.TSN_GCL_DUR 545 2 2

/-- A maximum frame of 1,522 bytes takes 31 ticks; a best-effort one that would start after tick 8 waits until tick 80, and class 7
has ticks 40 to 79, of which a frame of 64 bytes takes 2. -/
theorem test_gates :
    wireTicks 3 1522 = 31 ∧ [8, 9, 10, 40, 79, 80].map (gates02.gateFits 2 0 1522) = [true, false, false, false, false, true] ∧
      [39, 40, 77, 80].map (gates02.gateFits 2 7 64) = [false, true, true, false] := by decide +kernel

/-- Chapter 8, One sample on North Pier connector 05, steps 1 to 5. -/
theorem test_sample :
    roundHalfEven (76096000 * 13421773) (2 ^ 30) = 951200 ∧ roundHalfEven (59864000 * 38654706) (2 ^ 30) = 2155104 ∧
      corrected 2155104 (-412000 + Int.tdiv (24000 * 715104) 1080000) = 2154250 := by decide +kernel

/-- Chapter 9, the token 1125 9516 9427 3039 6498 at connector 03 with WIN_BASE 2,000: credit of 850,000 Wh, identifier 4,127,
scope 0, 850 kWh; a second mark of the identifier shows in the window. -/
theorem test_token :
    let t := ofDigits [1, 1, 2, 5, 9, 5, 1, 6, 9, 4, 2, 7, 3, 0, 3, 9, 6, 4, 9, 8]
    let s := (((live.w Reg.PREPAY_WIN_BASE 2000).w Reg.SESS_STATE 2 3).tokenAccept 3 t).tokenEffect 3 t
    t = 11259516942730396498 ∧ t / 1099511627776 = 0x9C41D7 ∧ s.r Reg.PREPAY_CREDIT 0 3 = 850000 ∧ s.r Reg.PREPAY_LAST_ID = 4127 ∧
      s.r Reg.PREPAY_LAST_SCOPE = 0 ∧ s.r Reg.PREPAY_LAST_AMOUNT = 850 ∧ s.winMap.testBit (4127 - 2000) = true := by decide +kernel

/-- The message of that token's HMAC. -/
theorem test_token_message :
    let s := [0xC4D2960B, 0x77E3A015, 0x2B9914D0, 0x5A31C07E].zipIdx.foldl (fun s q => s.w Reg.DEV_SERIAL q.1 0 q.2) live
    (s.tokenMessage 11259516942730396498).map BitVec.toNat =
      [0x55, 0x54, 0x4B, 0x31, 0x0B, 0x96, 0xD2, 0xC4, 0x15, 0xA0, 0xE3, 0x77, 0xD0, 0x14, 0x99, 0x2B, 0x7E, 0xC0, 0x31, 0x5A, 0x52,
       0x03, 0xF0, 0x01, 0x01] := by decide +kernel

/-- Chapter 17, Tide H + 400: 148.2 °C, 7.0 K in 100 tides. -/
theorem test_prediction : predTides 14820 700 = some 168 := by decide +kernel

/-- Chapter 10, row 26 of the trace: the close of an interval at 22:00 UTC of 31 May 2031. -/
theorem test_day : dayOf 2031 5 31 * 86400 + 22 * 3600 = 1938031200 ∧ dateOf (dayOf 2031 5 31) = ⟨2031, 5, 31⟩ := by decide +kernel

/-- The check value of CRC-32C for the digits 1 to 9, as the definition of the code has it (R54 names the code). -/
theorem test_crc32c : crc32c ((List.range 9).map (fun k => BitVec.ofNat 8 (49 + k))) = 0xE3069283 := by decide +kernel

/-! ## Witnesses -/

theorem witness_StepTakesTheFront :
    (∃ (c : Instr) (rest : List Instr) (s : State), s.pending = c :: rest) ∧
    (∃ (s : State), s.pending = []) :=
  ⟨⟨.refclkStop, [], { live with pending := [.refclkStop] }, by decide +kernel⟩,
   ⟨live, by decide +kernel⟩⟩

theorem witness_EveryStepKeepsTheInvariant :
    (∃ (s t : State), step s = .next t ∧ s.inv = true) :=
  ⟨{ live with pending := [.refclkReturn] }, { live with pins.refclk := true }, by rfl, by decide +kernel⟩

theorem witness_RegisterReadAfterWrite :
    (∃ (s : State) (f : Fld), f.w ≤ 32 ∧ s.canonical = true) :=
  ⟨live, Reg.SESS_V_TARGET, by decide +kernel⟩

theorem witness_MemoryReadAfterWrite :
    (∃ (a : Nat) (bs : List Byte) (x : Nat), (x < a ∨ a + bs.length ≤ x)) ∧
    (∃ (s : State), s.canonical = true) :=
  ⟨⟨64, [1, 2], 66, by decide +kernel⟩,
   ⟨{ live with mem := [(63, 255)] }, by decide +kernel⟩⟩

theorem witness_TimebaseCounts :
    (∃ (s : State), s.pins.refclk = false) ∧
    (∃ (s : State), s.pins.refclk = true ∧ (s.phase = .strand ∨ s.phase = .retired) ∧ s.start.ordered = none ∧ s.wave < 399) ∧
    (∃ (s : State), s.pins.refclk = true ∧ (s.phase = .strand ∨ s.phase = .retired) ∧ s.start.ordered = none ∧ s.wave ≠ 399) ∧
    (∃ (s : State), s.pins.refclk = true ∧ (s.phase = .strand ∨ s.phase = .retired) ∧ s.start.ordered = none ∧ s.wave = 399 ∧ s.tide
      + 1 < 2 ^ 64 ∧ s.r Reg.CMD_TXN_STATE = 0 ∧ s.command.ri = [] ∧ s.vault.denyDue = none) :=
  ⟨⟨live, by decide +kernel⟩,
   ⟨({ (at_ .strand) with pins.refclk := true } : State).w Reg.TIDE_WAVE 398, by decide +kernel⟩,
   ⟨{ (at_ .strand) with pins.refclk := true }, by decide +kernel⟩,
   ⟨({ (at_ .strand) with pins.refclk := true } : State).w Reg.TIDE_WAVE 399, by decide +kernel⟩⟩

theorem witness_BoundaryOrder :
    (∃ (s : State), s.pins.refclk = true ∧ s.alive = true ∧ s.wave ≠ 399) ∧
    (∃ (s : State), s.pins.refclk = true ∧ s.alive = true ∧ s.wave = 399) :=
  ⟨⟨({ live with pins.refclk := true } : State).w Reg.TIDE_WAVE 398, by decide +kernel⟩,
   ⟨({ live with pins.refclk := true } : State).w Reg.TIDE_WAVE 399, by decide +kernel⟩⟩

theorem witness_FabricRequests :
    (∃ (s : State) (q : FabReq), s.alive = true ∧ s.atLimit q.req.val = true) ∧
    (∃ (s : State) (q : FabReq), s.alive = true ∧ s.atLimit q.req.val = false ∧ s.fabric.stalled = [] ∧ q.kind = .write ∧
      s.accessFault q = 0 ∧ addrMemory q.addr.toNat = true) ∧
    (∃ (s : State) (q : FabReq), s.alive = true ∧ s.atLimit q.req.val = false ∧ (s.fabric.stalled.any fun x => decide (x.req =
      q.req)) = false ∧ q.kind ≠ .write ∧ s.accessFault q = 0 ∧ addrMemory q.addr.toNat = true) ∧
    (∃ (s : State) (q : FabReq) (rest : List FabReq), s.fabric.stalled = q :: rest ∧ s.atLimit q.req.val = false ∧ s.accessFault q =
      0 ∧ q.kind = .write ∧ addrMemory q.addr.toNat = true) ∧
    (∃ (s : State) (x : Txn) (rest : List Txn), s.fabric.flight = x :: rest ∧ x.fault = 0 ∧ (s.meter.ebb = none ∨ addrTideStore
      x.r.addr.toNat = false ∨ x.r.kind = .write)) :=
  ⟨⟨live.w Reg.TIDE_CREDIT 0 0 31, req, by decide +kernel⟩,
   ⟨live.w Reg.TIDE_CREDIT 1 0 31, req, by decide +kernel⟩,
   ⟨live.w Reg.TIDE_CREDIT 1 0 31, { req with kind := .read, data := [] }, by decide +kernel⟩,
   ⟨({ live with fabric.stalled := [req] } : State).w Reg.TIDE_CREDIT 1 0 31, req, [], by decide +kernel⟩,
   ⟨{ live with fabric.flight := [⟨req, 0, []⟩] }, ⟨req, 0, []⟩, [], by decide +kernel⟩⟩

theorem witness_RefusedAccess :
    (∃ (s : State) (p : Nat), p < 64 ∧ s.r Reg.TIDE_PART_CLASS 0 p = 0) ∧
    (∃ (s : State) (p m : Nat), p < 64 ∧ s.r Reg.TIDE_PART_CLASS 0 p = 1 ∧ m < 40 ∧ s.r Reg.MPT_KIND m ≠ 0 ∧ s.r Reg.MPT_PARTITION m
      = p) ∧
    (∃ (s : State) (p : Nat), p < 64 ∧ 1 < s.r Reg.TIDE_PART_CLASS 0 p) ∧
    (∃ (s : State) (q : FabReq) (p : Fin 64) (i : Nat), s.alive = true ∧ s.atLimit q.req.val = false ∧ (s.fabric.stalled.any fun x
      => decide (x.req = q.req)) = false ∧ (s.accessFault q = 1 ∨ s.accessFault q = 2) ∧ q.part = some p ∧ q.slot = some i) :=
  ⟨⟨live.w Reg.TIDE_PART_CLASS 0 0 63, 63, by decide +kernel⟩,
   ⟨live.w Reg.TIDE_PART_CLASS 1 0 63 |>.w Reg.MPT_KIND 1 39 |>.w Reg.MPT_PARTITION 63 39, 63, 39, by decide +kernel⟩,
   ⟨live.w Reg.TIDE_PART_CLASS 2 0 63, 63, by decide +kernel⟩,
   ⟨live.w Reg.TIDE_PART_CLASS 0 0 63 |>.w Reg.TIDE_CREDIT 1 0 31, { req with part := some 63, slot := some 0 }, 63, 0, by
     decide +kernel⟩⟩

theorem witness_SlotsAndShedding :
    (∃ (s : State) (e : Nat) (x : Nat × SlotDef), x ∈ s.dueOn e ∧ s.slotClass x.2 < 3) ∧
    (∃ (s : State) (i : Nat) (d : SlotDef) (x : SlotRun), s.slotTable[i]? = some d ∧ Tab.find s.fabric.slots i = some x ∧ x.started
      = false ∧ s.alive = true ∧ s.pins.refclk = true ∧ (∀ j, j < i → ∀ e, s.slotTable[j]? = some e → e.engine = d.engine → ∀ y,
      Tab.find s.fabric.slots j = some y → y.started = true)) ∧
    (∃ (s : State), s.rb Reg.TIDE_STAT_CLEAR = true) :=
  ⟨⟨(placed { slots := [slot0] }).w Reg.TIDE_PART_CLASS 0 0 5, 0, (0, slot0), by decide +kernel⟩,
   ⟨({ placed { slots := [slot0] } with fabric.slots := [(0, ⟨3, false, false, 0⟩)], pins.refclk := true } : State), 0, slot0, ⟨3,
     false, false, 0⟩, by decide +kernel⟩,
   ⟨live.w Reg.TIDE_STAT_CLEAR 1, by decide +kernel⟩⟩

theorem witness_DmaTransfers :
    (∃ (s : State) (c p : Fin 64) (d : BitVec 32), s.alive = true ∧ s.rb Reg.TIDE_DMA_OWNED 0 c.val = true ∧ s.r Reg.TIDE_DMA_OWNER
      0 c.val = p.val ∧ s.descBad d.toNat = false ∧ (bit (s.mword (d.toNat + 16) 4) 0 = false ∨ s.mword (d.toNat + 12) 4 < s.mword
      (d.toNat + 8) 4)) ∧
    (∃ (s : State) (c p : Fin 64), s.alive = true ∧ (s.rb Reg.TIDE_DMA_OWNED 0 c.val && decide (s.r Reg.TIDE_DMA_OWNER 0 c.val =
      p.val)) = false) ∧
    (∃ (s : State) (c p : Fin 64), s.alive = true ∧ s.rb Reg.TIDE_DMA_OWNED 0 c.val = true ∧ s.r Reg.TIDE_DMA_OWNER 0 c.val = p.val
      ∧ (s.r Reg.TIDE_DMA_STATE 0 c.val = 3 ∨ s.r Reg.TIDE_DMA_STATE 0 c.val = 4) ∧ s.descBad (s.r Reg.TIDE_DMA_DESC 0 c.val) =
      false ∧ s.mword ((s.r Reg.TIDE_DMA_DESC 0 c.val) + 12) 4 < s.mword ((s.r Reg.TIDE_DMA_DESC 0 c.val) + 8) 4) ∧
    (∃ (s : State) (c : Fin 64), s.r Reg.TIDE_DMA_STATE 0 c.val = 1 ∧ s.dmaSlot c.val = true ∧ s.beatFault (s.r Reg.TIDE_DMA_OWNER 0
      c.val) ((Tab.getD s.fabric.dma c.val {}).src + (s.r Reg.TIDE_DMA_DONE 0 c.val)) ((Tab.getD s.fabric.dma c.val {}).dst + (s.r
      Reg.TIDE_DMA_DONE 0 c.val)) (beatLength ((Tab.getD s.fabric.dma c.val {}).dst + (s.r Reg.TIDE_DMA_DONE 0 c.val)) ((Tab.getD
      s.fabric.dma c.val {}).length - (s.r Reg.TIDE_DMA_DONE 0 c.val))) ⟨.clean, .clean⟩ = none ∧ addrMemory ((Tab.getD s.fabric.dma
      c.val {}).dst + (s.r Reg.TIDE_DMA_DONE 0 c.val)) = true ∧ (Tab.getD s.fabric.dma c.val {}).length < 2 ^ 32 ∧ (s.r
      Reg.TIDE_DMA_DONE 0 c.val) < (Tab.getD s.fabric.dma c.val {}).length ∧ (((Tab.getD s.fabric.dma c.val {}).dst + (s.r
      Reg.TIDE_DMA_DONE 0 c.val)) + (beatLength ((Tab.getD s.fabric.dma c.val {}).dst + (s.r Reg.TIDE_DMA_DONE 0 c.val)) ((Tab.getD
      s.fabric.dma c.val {}).length - (s.r Reg.TIDE_DMA_DONE 0 c.val))) ≤ (s.r Reg.TIDE_DMA_DESC 0 c.val) + 12 ∨ (s.r
      Reg.TIDE_DMA_DESC 0 c.val) + 28 ≤ ((Tab.getD s.fabric.dma c.val {}).dst + (s.r Reg.TIDE_DMA_DONE 0 c.val))) ∧ (s.r
      Reg.TIDE_DMA_DONE 0 c.val) + (beatLength ((Tab.getD s.fabric.dma c.val {}).dst + (s.r Reg.TIDE_DMA_DONE 0 c.val)) ((Tab.getD
      s.fabric.dma c.val {}).length - (s.r Reg.TIDE_DMA_DONE 0 c.val))) < (Tab.getD s.fabric.dma c.val {}).length ∨ s.mword ((s.r
      Reg.TIDE_DMA_DESC 0 c.val) + 24) 4 = 0) ∧
    (∃ (s : State) (c : Fin 64), s.r Reg.TIDE_DMA_STATE 0 c.val = 1 ∧ s.dmaSlot c.val = true ∧ s.beatFault (s.r Reg.TIDE_DMA_OWNER 0
      c.val) ((Tab.getD s.fabric.dma c.val {}).src + (s.r Reg.TIDE_DMA_DONE 0 c.val)) ((Tab.getD s.fabric.dma c.val {}).dst + (s.r
      Reg.TIDE_DMA_DONE 0 c.val)) (beatLength ((Tab.getD s.fabric.dma c.val {}).dst + (s.r Reg.TIDE_DMA_DONE 0 c.val)) ((Tab.getD
      s.fabric.dma c.val {}).length - (s.r Reg.TIDE_DMA_DONE 0 c.val))) ⟨.clean, .clean⟩ = none ∧ addrMemory ((Tab.getD s.fabric.dma
      c.val {}).dst + (s.r Reg.TIDE_DMA_DONE 0 c.val)) = true ∧ (Tab.getD s.fabric.dma c.val {}).length < 2 ^ 32 ∧ (s.r
      Reg.TIDE_DMA_DONE 0 c.val) < (Tab.getD s.fabric.dma c.val {}).length ∧ (((Tab.getD s.fabric.dma c.val {}).dst + (s.r
      Reg.TIDE_DMA_DONE 0 c.val)) + (beatLength ((Tab.getD s.fabric.dma c.val {}).dst + (s.r Reg.TIDE_DMA_DONE 0 c.val)) ((Tab.getD
      s.fabric.dma c.val {}).length - (s.r Reg.TIDE_DMA_DONE 0 c.val))) ≤ (s.r Reg.TIDE_DMA_DESC 0 c.val) + 12 ∨ (s.r
      Reg.TIDE_DMA_DESC 0 c.val) + 28 ≤ ((Tab.getD s.fabric.dma c.val {}).dst + (s.r Reg.TIDE_DMA_DONE 0 c.val))) ∧ (s.r
      Reg.TIDE_DMA_DONE 0 c.val) + (beatLength ((Tab.getD s.fabric.dma c.val {}).dst + (s.r Reg.TIDE_DMA_DONE 0 c.val)) ((Tab.getD
      s.fabric.dma c.val {}).length - (s.r Reg.TIDE_DMA_DONE 0 c.val))) = (Tab.getD s.fabric.dma c.val {}).length ∧ s.mword ((s.r
      Reg.TIDE_DMA_DESC 0 c.val) + 24) 4 ≠ 0) ∧
    (∃ (s : State) (c : Fin 64) (f a : Nat), s.r Reg.TIDE_DMA_STATE 0 c.val = 1 ∧ s.dmaSlot c.val = true ∧ s.beatFault (s.r
      Reg.TIDE_DMA_OWNER 0 c.val) ((Tab.getD s.fabric.dma c.val {}).src + s.r Reg.TIDE_DMA_DONE 0 c.val) ((Tab.getD s.fabric.dma
      c.val {}).dst + s.r Reg.TIDE_DMA_DONE 0 c.val) (beatLength ((Tab.getD s.fabric.dma c.val {}).dst + s.r Reg.TIDE_DMA_DONE 0
      c.val) ((Tab.getD s.fabric.dma c.val {}).length - s.r Reg.TIDE_DMA_DONE 0 c.val)) ⟨.clean, .clean⟩ = some (f, a)) :=
  ⟨⟨({ live with mem := [(40, 16)] } : State).w Reg.TIDE_DMA_OWNED 1 0 63 |>.w Reg.TIDE_DMA_OWNER 63 0 63, 63, 63, 32, by
    decide +kernel⟩,
   ⟨live, 63, 63, by decide +kernel⟩,
   ⟨({ live with mem := [(33, 1), (37, 2), (41, 1)] } : State).w Reg.TIDE_DMA_OWNED 1 0 63 |>.w Reg.TIDE_DMA_OWNER 63 0 63 |>.w
     Reg.TIDE_DMA_STATE 3 0 63 |>.w Reg.TIDE_REG_VALID 1 0 0 0 |>.w Reg.TIDE_REG_RIGHTS 11 0 0 0 |>.w Reg.TIDE_REG_LIMIT 16 0 0 0
     |>.w Reg.TIDE_DMA_DESC 32 0 63, 63, 63, by decide +kernel⟩,
   ⟨dmaAt 80 [], 63, by decide +kernel⟩,
   ⟨dmaAt 8 [(56, 64)], 63, by decide +kernel⟩,
   ⟨(dmaAt 8 []).w Reg.TIDE_REG_VALID 0 0 0 0, 63, 1, 64, by decide +kernel⟩⟩

theorem witness_LinkFrameEnables :
    (∃ (s : State), s.alive = true ∧ (s.wave ≠ 0 ∨ s.safety.gotFrame = true)) ∧
    (∃ (s : State), s.alive = true ∧ s.wave = 0 ∧ s.safety.gotFrame = false ∧ s.safety.hbDue = true ∧ s.safety.answer ≠ some
      (crcKoopman (leBytes 4 (s.r Reg.SAFE_HB_CHALLENGE) ++ leBytes 4 Config.sigExp.toNat))) :=
  ⟨⟨live.w Reg.TIDE_WAVE 1, by decide +kernel⟩,
   ⟨{ live with safety.hbDue := true }, by decide +kernel⟩⟩

theorem witness_IslandAndReadbacks :
    (∃ (s : State), (s.alive = false ∨ 4 ≤ s.safety.noFrame)) ∧
    (∃ (s : State) (c : Fin 16), 2 ≤ Tab.getD s.safety.low c.val 0 ∧ Tab.getD s.safety.stuck c.val 0 < 2) ∧
    (∃ (s : State) (c : Fin 16), 2 ≤ Tab.getD s.safety.stuck c.val 0 ∧ Tab.getD s.safety.low c.val 0 < 2) ∧
    (∃ (s : State), s.alive = true ∧ s.r Reg.SAFE_OUT_TEST ≤ s.safety.sinceDark) :=
  ⟨⟨{ live with safety.noFrame := 4 }, by decide +kernel⟩,
   ⟨{ live with safety.low := [(15, 2)] }, 15, by decide +kernel⟩,
   ⟨{ live with safety.stuck := [(15, 2)] }, 15, by decide +kernel⟩,
   ⟨{ live with safety.sinceDark := 1000000 }, by decide +kernel⟩⟩

theorem witness_InputsAndFunctions :
    (∃ (s : State) (i : Fin 32), s.sinDue i.val = true ∧ (∀ f, f < 64 → s.r Reg.SAFE_FN_TYPE 0 f = 0)) ∧
    (∃ (s : State) (f : Fin 64), s.alive = true ∧ s.r Reg.SAFE_FN_TYPE 0 f.val = 1 ∧ s.fnCondition f.val = false ∧ s.r
      Reg.SAFE_FN_STATE 0 f.val = 0 ∧ s.r Reg.SAFE_FN_CUT 0 f.val = 0xFFFF ∧ s.r Reg.SAFE_FN_DISC 0 f.val * 40 < (Tab.getD
      s.safety.fns f.val {}).differ) ∧
    (∃ (s : State) (f : Fin 64), s.alive = true ∧ s.r Reg.SAFE_FN_TYPE 0 f.val = 3 ∧ s.r Reg.SAFE_FN_FILT 0 f.val ≤ (Tab.getD
      s.safety.fns f.val {}).beyond ∧ s.fnFault f.val = false ∧ s.r Reg.SAFE_FN_STATE 0 f.val = 0 ∧ s.r Reg.SAFE_FN_CUT 0 f.val =
      0xFFFF) :=
  ⟨⟨({ live with safety.sins := [(31, { val := true, count := 100 })] } : State).w Reg.SAFE_SIN_STATE 0 0 31, 31, by
    decide +kernel⟩,
   ⟨({ live with safety.fns := [(63, { differ := 100000 })] } : State).w Reg.SAFE_FN_TYPE 1 0 63 |>.w Reg.SAFE_FN_CUT 0xFFFF 0 63,
     63, by decide +kernel⟩,
   ⟨({ live with safety.fns := [(63, { beyond := 100000 })] } : State).w Reg.SAFE_FN_TYPE 3 0 63 |>.w Reg.SAFE_FN_CUT 0xFFFF 0 63,
     63, by decide +kernel⟩⟩

theorem witness_SafetyPdus :
    (∃ (s : State) (k : Fin 32) (x : CnI) (b : Bool) (seq tide wave data at_ : Nat), s.alive = true ∧ s.r Reg.SAFE_CN_ROLE 0 k.val =
      1 ∧ (∀ f, f < 64 → s.r Reg.SAFE_FN_TYPE 0 f = 0) ∧ seq < 2 ^ 32 ∧ tide < 2 ^ 32 ∧ wave < 2 ^ 16 ∧ data < 2 ^ 64 ∧ s.now ≤ at_
      + 2 ∧ Tab.find s.safety.cns k.val = some x ∧ (x.delivered = false ∨ (s.r Reg.SAFE_CN_SEQ 0 k.val < seq ∧ seq < s.r
      Reg.SAFE_CN_SEQ 0 k.val + 2 ^ 31 ∧ x.lastTide < tide ∧ tide < x.lastTide + 2 ^ 31)) ∧ x.copy = some ⟨seq, tide, wave,
      BitVec.ofNat 64 data, ofLe (pduHead k.val (s.r Reg.SAFE_CN_SOURCE 0 k.val) seq tide wave data), !b, at_⟩) ∧
    (∃ (s : State) (k : Fin 32) (x : CnI) (b : Bool) (seq tide wave data at_ : Nat) (c : CopyI), s.alive = true ∧ s.r
      Reg.SAFE_CN_ROLE 0 k.val = 1 ∧ (∀ f, f < 64 → s.r Reg.SAFE_FN_TYPE 0 f = 0) ∧ seq < 2 ^ 32 ∧ tide < 2 ^ 32 ∧ wave < 2 ^ 16 ∧
      data < 2 ^ 64 ∧ s.now ≤ at_ + 2 ∧ Tab.find s.safety.cns k.val = some x ∧ (x.delivered = false ∨ (s.r Reg.SAFE_CN_SEQ 0 k.val <
      seq ∧ seq < s.r Reg.SAFE_CN_SEQ 0 k.val + 2 ^ 31 ∧ x.lastTide < tide ∧ tide < x.lastTide + 2 ^ 31)) ∧ x.copy = some c ∧ c.seq
      = seq ∧ c.groupB = (!b) ∧ c.at_ = at_ ∧ c.rest ≠ ofLe (pduHead k.val (s.r Reg.SAFE_CN_SOURCE 0 k.val) seq tide wave data)) ∧
    (∃ (s : State) (k : Fin 32) (pdu : List Byte), s.alive = true ∧ s.r Reg.SAFE_CN_ROLE 0 k.val = 1 ∧ (∀ f, f < 64 → s.r
      Reg.SAFE_FN_TYPE 0 f = 0) ∧ pdu.length ≠ 32) :=
  ⟨⟨({ live with safety.cns := [(31, { copy := some ⟨1, 1, 1, BitVec.ofNat 64 1, ofLe (pduHead 31 0 1 1 1 1), !false, 1⟩ })] } :
    State).w Reg.SAFE_CN_ROLE 1 0 31 |>.w Reg.SAFE_CN_SOURCE 0 0 31, 31,
    { copy := some ⟨1, 1, 1, BitVec.ofNat 64 1, ofLe (pduHead 31 0 1 1 1 1), !false, 1⟩ }, false, 1, 1, 1, 1, 1, by decide +kernel⟩,
   ⟨({ live with safety.cns := [(31, { copy := some ⟨1, 1, 1, 1, 0, true, 1⟩ })] } : State).w Reg.SAFE_CN_ROLE 1 0 31, 31,
     { copy := some ⟨1, 1, 1, 1, 0, true, 1⟩ }, false, 1, 1, 1, 1, 1, ⟨1, 1, 1, 1, 0, true, 1⟩, by decide +kernel⟩,
   ⟨live.w Reg.SAFE_CN_ROLE 1 0 31, 31, [], by decide +kernel⟩⟩

theorem witness_WatchdogAckConfirm :
    (∃ (s : State) (k : Fin 32), s.running = true ∧ s.r Reg.SAFE_CN_ROLE 0 k.val = 1 ∧ s.r Reg.SAFE_CN_STATE 0 k.val = 1 ∧ s.r
      Reg.SAFE_CN_WDOG 0 k.val * 40 ≤ s.r Reg.SAFE_CN_AGE 0 k.val ∧ s.r Reg.SAFE_CN_CUT 0 k.val = 0xFFFF) ∧
    (∃ (s : State), 120000 < s.safety.ackHeld) ∧
    (∃ (s : State), s.running = true ∧ s.rb Reg.SAFE_SIN_STATE 0 (s.r Reg.SAFE_ACK_SIN) = false ∧ 20000 ≤ s.safety.ackHeld ∧
      s.safety.ackHeld ≤ 120000 ∧ s.r Reg.SAFE_ACK_STATE = 1 ∧ (∀ f, f < 64 → s.r Reg.SAFE_FN_TYPE 0 f = 0) ∧ s.safety.latched =
      [(causeKey 0x10 0, 0xFFFF)] ∧ s.safety.latchWave ≠ some s.now) ∧
    (∃ (s : State), s.running = true ∧ s.safety.confirmDue = true ∧ s.r Reg.SAFE_CONFIRM = s.r Reg.SAFE_CHECK_VALUE) :=
  ⟨⟨live.w Reg.SAFE_CN_ROLE 1 0 31 |>.w Reg.SAFE_CN_STATE 1 0 31 |>.w Reg.SAFE_CN_CUT 0xFFFF 0 31 |>.w Reg.SAFE_CN_WDOG 1 0 31 |>.w
    Reg.SAFE_CN_AGE 40 0 31, 31, by decide +kernel⟩,
   ⟨{ live with safety.ackHeld := 120001 }, by decide +kernel⟩,
   ⟨({ live with safety.ackHeld := 20000, safety.latched := [(causeKey 0x10 0, 0xFFFF)] } : State).w Reg.SAFE_ACK_STATE 1 |>.w
     Reg.SAFE_ACK_SIN 5 |>.w Reg.SAFE_SIN_STATE 0 0 5, by decide +kernel⟩,
   ⟨({ live with safety.confirmDue := true } : State).w Reg.SAFE_CONFIRM 77 |>.w Reg.SAFE_CHECK_VALUE 77, by decide +kernel⟩⟩

theorem witness_ResetCauses :
    (∃ (s : State), s.phase ≠ .reset ∧ s.meter.writing = none ∧ s.alive = true) ∧
    (∃ (s : State) (no : Nat) (rec_ : List Byte), s.alive = true ∧ s.legalStore = true ∧ s.meter.writing = none ∧ s.shutdownBytes
      false = some (no, rec_)) :=
  ⟨⟨live, by decide +kernel⟩,
   ⟨fielded, 1, fielded.poolRecord 3 1 0 false, by decide +kernel⟩⟩

theorem witness_ReleaseAndHold :
    (∃ (s : State) (q : StartIn), s.phase = .reset ∧ q.ready = true ∧ s.pins.hotHold = false ∧ s.start.bist = 0 ∧ s.r
      Reg.OTP_LC_FUSES = 0) ∧
    (∃ (s : State) (q : StartIn), (s.pins.hotHold = true ∨ q.ready = false)) ∧
    (∃ (s : State), s.phase = .join ∧ s.meter.writing = none) ∧
    (∃ (s : State) (q : StartIn), s.phase = .held ∧ s.start.last = some q ∧ s.r Reg.DEV_LIFECYCLE = 0) :=
  ⟨⟨{ (at_ .reset) with start.bist := 0 }, start0, by decide +kernel⟩,
   ⟨({ live with pins.hotHold := true } : State), start0, by decide +kernel⟩,
   ⟨(at_ .join), by decide +kernel⟩,
   ⟨{ (at_ .held) with start.last := some start0 }, start0, by decide +kernel⟩⟩

theorem witness_OrderedRestarts :
    (∃ (s : State), s.quiet ∧ s.phase ≠ .reset ∧ s.r Reg.DEV_LIFECYCLE ≠ 3 ∧ s.r Reg.DEV_RESTART = 0xA5) ∧
    (∃ (s : State), s.quiet ∧ s.phase ≠ .reset ∧ s.r Reg.DEV_LIFECYCLE ≠ 3 ∧ s.r Reg.BIST_REQ ≠ 0) ∧
    (∃ (s : State), s.alive = true ∧ s.start.ordered = none ∧ s.r Reg.DEV_LIFECYCLE = 3 ∧ s.r Reg.DEV_RESTART = 0xA5) ∧
    (∃ (s : State), s.alive = true ∧ s.start.ordered = none ∧ s.r Reg.DEV_LIFECYCLE = 3 ∧ s.r Reg.BIST_REQ ≠ 0) ∧
    (∃ (s : State), s.quiet ∧ s.r Reg.DEV_DEFAULTS_ACK = 1 ∧ s.rbit Reg.DEV_INHIBIT 1 = true) :=
  ⟨⟨live.w Reg.DEV_LIFECYCLE 0 |>.w Reg.DEV_RESTART 0xA5, ⟨rfl, rfl, rfl, rfl⟩, by decide +kernel⟩,
   ⟨live.w Reg.DEV_LIFECYCLE 0 |>.w Reg.BIST_REQ 1, ⟨rfl, rfl, rfl, rfl⟩, by decide +kernel⟩,
   ⟨live.w Reg.DEV_LIFECYCLE 3 |>.w Reg.DEV_RESTART 0xA5, by decide +kernel⟩,
   ⟨live.w Reg.DEV_LIFECYCLE 3 |>.w Reg.BIST_REQ 1, by decide +kernel⟩,
   ⟨live.w Reg.DEV_DEFAULTS_ACK 1 |>.wbit Reg.DEV_INHIBIT 1 true, ⟨rfl, rfl, rfl, rfl⟩, by decide +kernel⟩⟩

theorem witness_RecordWritesOneByOne :
    (∃ (s : State) (kind : WriteKind) (addr asked : Nat) (bytes : List Byte), s.start.ordered = none ∧ s.meter.writing = some ⟨kind,
      .bytes addr bytes, asked⟩) ∧
    (∃ (s : State) (kind : WriteKind) (asked : Nat) (slot : Bool) (g : SettingsGen), s.start.ordered = none ∧ s.meter.writing = some
      ⟨kind, .settings slot g, asked⟩) ∧
    (∃ (s : State), s.start.ordered = none ∧ s.meter.writing = none) :=
  ⟨⟨{ live with meter.writing := some ⟨.other, .bytes 0x4000000 [1], 0⟩, meter.waiting := [⟨.boundary, .bytes 0x4000100 [2], 0⟩,
    ⟨.ebb, .bytes 0x4000200 [3], 0⟩] }, .other, 0x4000000, 0, [1], by decide +kernel⟩,
   ⟨{ live with meter.writing := some ⟨.other, .settings false gen0, 1⟩ }, .other, 1, false, gen0, by decide +kernel⟩,
   ⟨live, by decide +kernel⟩⟩

theorem witness_LifeCycle :
    (∃ (s : State), s.quiet ∧ s.phase ≠ .reset ∧ s.r Reg.DEV_LIFECYCLE = 1 ∧ s.r Reg.OTP_LC_TARGET = 2 ∧ s.lcAllowed 2 = true) ∧
    (∃ (s : State), s.quiet ∧ s.phase ≠ .reset ∧ s.r Reg.DEV_LIFECYCLE = 2 ∧ s.r Reg.OTP_LC_TARGET = 3 ∧ s.lcAllowed 3 = true) ∧
    (∃ (s : State), s.r Reg.OTP_LC_TARGET ≠ 0 ∧ s.lcAllowed (s.r Reg.OTP_LC_TARGET) = false) ∧
    (∃ (s : State), s.quiet ∧ s.alive = true ∧ s.r Reg.DEV_LIFECYCLE = 2 ∧ s.otp.change = some (4, 0)) ∧
    (∃ (s : State) (serial : Nat), s.phase ≠ .reset ∧ s.otp.change = some (1, serial)) :=
  ⟨⟨({ live with otp.active := [(2, 0), (3, 0)] } : State).w Reg.DEV_LIFECYCLE 1 |>.w Reg.OTP_LC_TARGET 2 |>.w Reg.OTP_SPENT 0xFFFFF
    |>.w Reg.OTP_VALID 0xFFFFF, ⟨rfl, rfl, rfl, rfl⟩, by decide +kernel⟩,
   ⟨live.w Reg.DEV_LIFECYCLE 2 |>.w Reg.OTP_LC_TARGET 3 |>.w Reg.BILL_LR_MATCH 1 |>.w Reg.OTP_VALID 0xFFFFF, ⟨rfl, rfl, rfl, rfl⟩,
     by decide +kernel⟩,
   ⟨live.w Reg.OTP_LC_TARGET 1, by decide +kernel⟩,
   ⟨({ live with otp.change := some (4, 0) } : State).w Reg.DEV_LIFECYCLE 2, ⟨rfl, rfl, rfl, rfl⟩, by decide +kernel⟩,
   ⟨{ live with otp.change := some (1, 1) }, 1, by decide +kernel⟩⟩

theorem witness_EnterRun :
    (∃ (s : State), (s.runDue = false ∨ s.pins.ebb = true)) ∧
    (∃ (s : State), s.runDue = true ∧ s.pins.ebb = false) :=
  ⟨⟨live, by decide +kernel⟩,
   ⟨({ at_ .join with start.joinTides := 1, start.runOpen := true } : State), by decide +kernel⟩⟩

theorem witness_ForeignRootIsIgnored :
    (∃ (s : State) (l : Fin 8) (b : Beacon), s.alive = true ∧ s.declaredLink l.val = true ∧ (s.chainState = 2 ∨ s.chainState = 3) ∧
      b.root.toNat ≠ s.rootId) :=
  ⟨(placed { chainLinks := 255 }).w Reg.CHAIN_STATE 2, 7, { beacon with root := 2 }, by decide +kernel⟩

theorem witness_BeaconsAndUpstream :
    (∃ (s : State) (l : Fin 8) (b : Beacon), s.alive = true ∧ s.declaredLink l.val = true ∧ s.chainState = 2 ∧ b.root.toNat =
      s.rootId ∧ s.r Reg.CHAIN_UPSTREAM = l.val) ∧
    (∃ (s : State) (l : Fin 8) (b : Beacon), s.alive = true ∧ s.declaredLink l.val = true ∧ s.chainState = 3 ∧ b.root.toNat =
      s.rootId ∧ s.rbit Reg.CHAIN_CHILD_MASK l.val = false ∧ s.rbit Reg.CHAIN_REFUSED_MASK l.val = false) ∧
    (∃ (s : State) (l : Fin 8), s.alive = true ∧ s.chainState = 0 ∧ s.acceptable l.val = true ∧ s.chain.cand = none) ∧
    (∃ (s : State), s.running = true ∧ s.chainState = 2 ∧ 3 ≤ Tab.getD s.chain.miss (s.r Reg.CHAIN_UPSTREAM) 0 ∧ s.chain.lostUp =
      false ∧ (∀ j, j < 8 → j ≠ s.r Reg.CHAIN_UPSTREAM → Tab.find s.chain.last j = none)) ∧
    (∃ (s : State) (l : Fin 8) (b : Beacon), s.running = true ∧ s.chainState = 2 ∧ 3 ≤ Tab.getD s.chain.miss (s.r
      Reg.CHAIN_UPSTREAM) 0 ∧ s.chain.lostUp = false ∧ l.val ≠ s.r Reg.CHAIN_UPSTREAM ∧ s.acceptable l.val = true ∧ s.rbit
      Reg.CHAIN_CHILD_MASK l.val = false ∧ Tab.find s.chain.last l.val = some b ∧ b.position.toNat = s.upPosition ∧ s.chain.missAt ≤
      Tab.getD s.chain.lastAt l.val 0 ∧ (∀ j, j < l.val → j ≠ s.r Reg.CHAIN_UPSTREAM → Tab.find s.chain.last j = none)) :=
  ⟨⟨(placed { chainLinks := 255 }).w Reg.CHAIN_STATE 2 |>.w Reg.CHAIN_UPSTREAM 7, 7, { beacon with skew := 41 }, by decide +kernel⟩,
   ⟨(placed { chainLinks := 255 }).w Reg.CHAIN_STATE 3 |>.w Reg.CHAIN_ROOT_ID 1 0 0, 7, { beacon with root := 1 }, by
     decide +kernel⟩,
   ⟨({ (placed { chainLinks := 255 }) with chain.last := [(7, beacon)], chain.miss := [(0, 3)], chain.missAt := 4, chain.lastAt :=
     [(7, 4)] } : State).w Reg.CHAIN_UPSTREAM 0 |>.w Reg.CHAIN_POSITION_ID 1 0 0, 7, by decide +kernel⟩,
   ⟨({ live with chain.miss := [(7, 3)] } : State).w Reg.CHAIN_STATE 2 |>.w Reg.CHAIN_UPSTREAM 7, by decide +kernel⟩,
   ⟨({ (placed { chainLinks := 255 }) with chain.last := [(7, beacon)], chain.miss := [(0, 3)], chain.missAt := 4, chain.lastAt :=
     [(7, 4)] } : State).w Reg.CHAIN_STATE 2 |>.w Reg.CHAIN_UPSTREAM 0 |>.w Reg.CHAIN_POSITION_ID 1 0 0, 7, beacon, by
     decide +kernel⟩⟩

theorem witness_Joining :
    (∃ (s : State) (l : Fin 8) (j : Join), s.running = true ∧ s.ebbRole = false ∧ s.declaredLink l.val = true ∧ (s.decl.children.any
      (fun c => decide (c.serial = j.serial.toNat ∧ c.keyDigest = j.keyDigest)) && j.sigOk) = true) ∧
    (∃ (s : State) (l : Fin 8) (j : Join), s.running = true ∧ s.ebbRole = false ∧ s.declaredLink l.val = true ∧ (s.decl.children.any
      (fun c => decide (c.serial = j.serial.toNat ∧ c.keyDigest = j.keyDigest)) && j.sigOk) = false) ∧
    (∃ (s : State) (l : Fin 8), s.running = true ∧ s.chain.joinOut = true ∧ s.chain.cand = some l.val) ∧
    (∃ (s : State), s.running = true ∧ s.chainState = 0 ∧ s.r Reg.CHAIN_ORPHAN_WAIT ≤ s.chain.waited) ∧
    (∃ (s : State), s.phase = .join ∧ s.chainState = 0 ∧ s.r Reg.CHAIN_ORPHAN_WAIT ≤ s.chain.waited) ∧
    (∃ (s : State), s.running = true ∧ s.decl.children ≠ [] ∧ s.chain.formed = false ∧ (s.missingChildren = 0 ∨ s.r
      Reg.CHAIN_JOIN_WAIT ≤ s.start.runTides)) :=
  ⟨⟨(placed { chainLinks := 255, children := [⟨1, 2, none⟩] }), 7, ⟨1, 2, 0, true⟩, by decide +kernel⟩,
   ⟨(placed { chainLinks := 255, children := [⟨1, 2, none⟩] }), 7, ⟨1, 2, 0, false⟩, by decide +kernel⟩,
   ⟨{ live with chain.joinOut := true, chain.cand := some 7 }, 7, by decide +kernel⟩,
   ⟨{ live with chain.waited := 1000000 }, by decide +kernel⟩,
   ⟨{ (at_ .join) with chain.waited := 1000000 }, by decide +kernel⟩,
   ⟨{ (placed { chainLinks := 255, children := [⟨1, 2, none⟩] }) with start.runTides := 10000000 }, by decide +kernel⟩⟩

theorem witness_ChainRouting :
    (∃ (s : State) (m : Routed), s.running = true ∧ msgWhole m = true ∧ m.addr.ctrl.toNat ≠ 0 ∧ m.addr.ctrl.toNat ≤ 21 ∧ s.rbit
      Reg.CHAIN_CHILD_MASK (m.addr.path.toNat % 8) = true) ∧
    (∃ (s : State) (m : Routed), s.running = true ∧ msgWhole m = true ∧ m.addr.ctrl.toNat ≠ 0 ∧ m.addr.ctrl.toNat ≤ 21 ∧ s.rbit
      Reg.CHAIN_CHILD_MASK (m.addr.path.toNat % 8) = false ∧ 0 < m.travelled) ∧
    (∃ (s : State) (m : Routed), s.running = true ∧ msgWhole m = true ∧ m.addr.ctrl.toNat = 0) ∧
    (∃ (m : Routed), msgWhole m = false) ∧
    (∃ (s : State) (hops : Nat), s.running = true ∧ 1 < hops) ∧
    (∃ (s : State) (id h : Nat), s.running = true ∧ Tab.find s.chain.proxies id = some h ∧ 0 < h) ∧
    (∃ (s : State) (id k : Nat), s.running = true ∧ Tab.find s.chain.proxies id = none ∧ Tab.find s.chain.relays id = some k) ∧
    (∃ (s : State) (m inner : Routed), s.running = true ∧ msgWhole m = true ∧ m.addr.ctrl.toNat = 0 ∧ inner.addr.ctrl.toNat ≠ 0 ∧
      inner.addr.ctrl.toNat ≤ 21 ∧ s.rbit Reg.CHAIN_CHILD_MASK (inner.addr.path.toNat % 8) = true) :=
  ⟨⟨live.wbit Reg.CHAIN_CHILD_MASK 5 true, { msg with addr := ⟨1, 5⟩ }, by decide +kernel⟩,
   ⟨live, { msg with addr := ⟨21, 5⟩ }, by decide +kernel⟩,
   ⟨live, { msg with addr := ⟨0, 0⟩ }, by decide +kernel⟩,
   ⟨{ msg with frags := [] }, by decide +kernel⟩,
   ⟨live, 2, by decide +kernel⟩,
   ⟨{ live with chain.proxies := [(1, 1)] }, 1, 1, by decide +kernel⟩,
   ⟨{ live with chain.relays := [(1, 1)] }, 1, 1, by decide +kernel⟩,
   ⟨live.wbit Reg.CHAIN_CHILD_MASK 5 true, { msg with addr := ⟨0, 0⟩ }, { msg with addr := ⟨1, 5⟩ }, by decide +kernel⟩⟩

theorem witness_ChainLinks :
    (∃ (s : State) (l : Fin 8), s.alive = true ∧ s.r Reg.CHAIN_LINK_STATE 0 l.val = 0 ∧ s.chain.heldDown.contains l.val = false) ∧
    (∃ (s : State) (l : Fin 8), s.r Reg.CHAIN_LINK_STATE 0 l.val ≠ 0) ∧
    (∃ (s : State) (l : Fin 8), s.alive = true ∧ s.r Reg.CHAIN_LINK_STATE 0 l.val ≠ 0) ∧
    (∃ (s : State) (l : Fin 8), s.alive = true ∧ (s.r Reg.CHAIN_LINK_STATE 0 l.val = 2 ∨ s.r Reg.CHAIN_LINK_STATE 0 l.val = 4)) ∧
    (∃ (s : State), s.running = true ∧ s.command.subs = [] ∧ s.chainState = 2) ∧
    (∃ (s : State) (e : EventMsg) (b : Sub), s.running = true ∧ s.command.subs = [b] ∧ b.blocks.getLsbD (e.addr / 0x1000000) = true
      ∧ s.command.msgs.length < 1024) ∧
    (∃ (q : List ChainTx) (x : ChainTx), nextTx q = some x) ∧
    (∃ (q : List ChainTx) (x : ChainTx) (y : _), y ∈ q ∧ nextTx q = some x) :=
  ⟨⟨live, 7, by decide +kernel⟩,
   ⟨live.w Reg.CHAIN_LINK_STATE 1 0 7, 7, by decide +kernel⟩,
   ⟨live.w Reg.CHAIN_LINK_STATE 1 0 7, 7, by decide +kernel⟩,
   ⟨live.w Reg.CHAIN_LINK_STATE 2 0 7, 7, by decide +kernel⟩,
   ⟨live.w Reg.CHAIN_STATE 2, by decide +kernel⟩,
   ⟨{ live with command.subs := [⟨0, 3, 10, [], 4⟩] }, ⟨1, 0x02000000, 3⟩, ⟨0, 3, 10, [], 4⟩, by decide +kernel⟩,
   ⟨[tx0], tx0, by decide +kernel⟩,
   ⟨[tx0], tx0, tx0, by decide +kernel⟩⟩

theorem witness_TideMarkIsGreatest :
    (∃ (sum : Nat → Int) (budget : Int), (∀ x y, x ≤ y → y ≤ 65535 → sum x ≤ sum y) ∧ sum 0 ≤ budget) ∧
    (∃ (sum : Nat → Int) (budget : Int) (x : Nat), (∀ x y, x ≤ y → y ≤ 65535 → sum x ≤ sum y) ∧ x ≤ 65535 ∧ (tideMark sum budget 16
      0) < x) :=
  ⟨⟨fun x => x, 1000, fun x y h _ => Int.ofNat_le.mpr h, by decide +kernel⟩,
   ⟨fun x => x, 1000, 1001, fun x y h _ => Int.ofNat_le.mpr h, by decide +kernel⟩⟩

theorem witness_ChildrenAndGrants :
    (∃ (s : State) (l : Fin 8) (q : CurveRec), s.running = true ∧ s.childState l.val ≠ 0 ∧ s.pairEntry l.val = none ∧ curveRecValid
      q = true) ∧
    (∃ (s : State) (l : Fin 8) (j : Nat) (q : CurveRec), s.running = true ∧ s.pairEntry l.val = some j ∧ curveRecValid q = true) ∧
    (∃ (s : State) (l : Fin 8) (q : CurveRec), s.running = true ∧ (s.childState l.val ≠ 0 ∨ s.pairEntry l.val ≠ none) ∧
      curveRecValid q = false) ∧
    (∃ (s : State) (l : Fin 8), s.running = true ∧ (s.chainState = 2 ∨ s.chainState = 4) ∧ s.r Reg.CHAIN_UPSTREAM = l.val) ∧
    (∃ (s : State) (g : Int), s.alloc.fresh = some g) ∧
    (∃ (s : State) (l : Fin 8), s.childState l.val = 2 ∧ 3 ≤ s.r Reg.ALLOC_CHILD_MISS 0 l.val) ∧
    (∃ (s : State) (l : Fin 8), s.childState l.val = 3 ∧ s.r Reg.ALLOC_CHILD_HOLD 0 l.val + 3 ≤ (s.child l.val).sinceGrant) ∧
    (∃ (s : State), s.r Reg.ALLOC_MODE = 3 ∧ s.r Reg.ALLOC_HOLD_TIDES ≤ s.r Reg.ALLOC_GRANT_AGE) ∧
    (∃ (s : State) (k : Fin 4), s.rb Reg.ALLOC_LIN_EN 0 k.val = true ∧ 10 ≤ Tab.getD s.alloc.onSide k.val 0) ∧
    (∃ (s : State) (k : Fin 4), 10 ≤ Tab.getD s.alloc.offSide k.val 0) :=
  ⟨⟨live.w Reg.ALLOC_CHILD_STATE 1 0 7, 7, curve, by decide +kernel⟩,
   ⟨({ (placed { children := [⟨1, 2, some 5⟩, ⟨2, 2, some 5⟩] }) with chain.childId := [(7, 1), (6, 2)] } : State).w
     Reg.ALLOC_CHILD_STATE 2 0 6, 7, 6, curve, by decide +kernel⟩,
   ⟨live.w Reg.ALLOC_CHILD_STATE 1 0 7, 7, { curve with holdTides := 9 }, by decide +kernel⟩,
   ⟨live.w Reg.CHAIN_STATE 2 |>.w Reg.CHAIN_UPSTREAM 7, 7, by decide +kernel⟩,
   ⟨({ live with alloc.fresh := some 1, alloc.children := [(7, { sinceGrant := 13 })] } : State).w Reg.ALLOC_CHILD_HOLD 10 0 7, 1,
     by decide +kernel⟩,
   ⟨live.w Reg.ALLOC_CHILD_STATE 2 0 7 |>.w Reg.ALLOC_CHILD_MISS 3 0 7 |>.w Reg.ALLOC_HOLD_TIDES 50 |>.w Reg.ALLOC_GRANT_AGE 50, 7,
     by decide +kernel⟩,
   ⟨({ live with alloc.children := [(7, { sinceGrant := 13 })] } : State).w Reg.ALLOC_CHILD_STATE 3 0 7 |>.w Reg.ALLOC_CHILD_HOLD 10
     0 7, 7, by decide +kernel⟩,
   ⟨live.w Reg.ALLOC_MODE 3 |>.w Reg.ALLOC_HOLD_TIDES 50 |>.w Reg.ALLOC_GRANT_AGE 50, by decide +kernel⟩,
   ⟨({ live with alloc.onSide := [(3, 10)] } : State).w Reg.ALLOC_LIN_EN 1 0 3, 3, by decide +kernel⟩,
   ⟨{ live with alloc.offSide := [(3, 10)] }, 3, by decide +kernel⟩⟩

theorem witness_GuardsAndMoves :
    (∃ (s : State) (k : Nat), k < 256 ∧ s.rb Reg.MTX_CT_CMD 0 k = false ∧ s.ctWelded k = false ∧ s.ctFaulty k = false ∧
      s.guardPasses k = false ∧ (∀ f, f < 64 → s.r Reg.SAFE_FN_TYPE 0 f = 0)) ∧
    (∃ (s : State) (k : Nat), k < 256 ∧ s.guardPasses k = true ∧ s.ctWelded k = false ∧ s.ctFaulty k = false) ∧
    (∃ (s : State) (k : Nat), (s.ctWelded k || s.ctFaulty k) = true) ∧
    (∃ (s : State) (k g j : Nat), g < s.r Reg.MTX_GUARD_SETS ∧ g < 192 ∧ s.inGuard g k = true ∧ s.inGuard g j = true ∧ j ≠ k ∧ j ∈
      s.contactors ∧ s.ctMaybeClosed j = true) ∧
    (∃ (s : State) (m : Fin 8), s.mvExpired m.val 1 (s.r Reg.MTX_ZERO_WAIT) = true) ∧
    (∃ (s : State) (m : Fin 8), s.mvExpired m.val 4 (s.r Reg.MTX_MATCH_WAIT) = true) ∧
    (∃ (s : State) (m : Fin 8) (k : Fin 256), s.mvExpired m.val 5 (s.r Reg.MTX_CLOSE_WAIT) = true ∧ s.mvClose m.val = some k.val ∧
      s.ctWelded k.val = false) ∧
    (∃ (s : State) (m : Fin 8), s.mvBusy m.val = true ∧ s.mvPhase m.val = 6 ∧ s.r Reg.MTX_RAMP_WAVES ≤ (s.move m.val).waves) ∧
    (∃ (s : State) (m : Fin 8), s.mvBusy m.val = true ∧ s.mvPhase m.val = 3 ∧ s.r Reg.MTX_WELD_CONFIRM ≤ (s.move m.val).ok ∧ s.mvCab
      m.val = true ∧ s.mvClose m.val = none ∧ (∀ n, n < 32 → s.sess n ≠ 10)) ∧
    (∃ (s : State) (k : Fin 256), s.rb Reg.MTX_CT_CLR 0 k.val = true ∧ (s.ctWelded k.val || s.ctFaulty k.val) = true ∧ s.rbit
      Reg.SAFE_ENABLED (s.r Reg.MTX_CT_GROUP 0 k.val) = false ∧ s.readsOpen (some k.val) = true) ∧
    (∃ (s : State) (k : Fin 256), s.rb Reg.MTX_CT_CLR 0 k.val = true ∧ s.rbit Reg.SAFE_ENABLED (s.r Reg.MTX_CT_GROUP 0 k.val) =
      true) :=
  ⟨⟨guarded, 255, by decide +kernel⟩,
   ⟨live, 255, by decide +kernel⟩,
   ⟨live.w Reg.MTX_CT_STATE 4 0 255, 255, by decide +kernel⟩,
   ⟨guarded, 255, 191, 0, by decide +kernel⟩,
   ⟨({ live with matrix.moves := [(7, { waves := 60000 })] } : State).w Reg.MTX_MV_TYPE 2 0 7 |>.w Reg.MTX_MV_PHASE 1 0 7, 7, by
     decide +kernel⟩,
   ⟨({ live with matrix.moves := [(7, { waves := 60000 })] } : State).w Reg.MTX_MV_TYPE 1 0 7 |>.w Reg.MTX_MV_PHASE 4 0 7, 7, by
     decide +kernel⟩,
   ⟨({ live with matrix.moves := [(7, { waves := 60000 })] } : State).w Reg.MTX_MV_TYPE 1 0 7 |>.w Reg.MTX_MV_PHASE 5 0 7 |>.w
     Reg.MTX_MV_CLOSE 255 0 7, 7, 255, by decide +kernel⟩,
   ⟨({ live with matrix.moves := [(7, { waves := 60000 })] } : State).w Reg.MTX_MV_TYPE 1 0 7 |>.w Reg.MTX_MV_PHASE 6 0 7, 7, by
     decide +kernel⟩,
   ⟨({ live with matrix.moves := [(7, { ok := 100000 })] } : State).w Reg.MTX_MV_TYPE 1 0 7 |>.w Reg.MTX_MV_PHASE 3 0 7 |>.w
     Reg.MTX_MV_CLOSE 0x1FF 0 7, 7, by decide +kernel⟩,
   ⟨live.w Reg.MTX_CT_CLR 1 0 255 |>.w Reg.MTX_CT_STATE 4 0 255, 255, by decide +kernel⟩,
   ⟨live.w Reg.MTX_CT_CLR 1 0 255 |>.w Reg.MTX_CT_GROUP 15 0 255 |>.wbit Reg.SAFE_ENABLED 15 true, 255, by decide +kernel⟩⟩

theorem witness_CabinetFrames :
    (∃ (s : State) (c : Fin 64) (f : List Byte), s.running = true ∧ s.rb Reg.CAB_PRESENT c.val = true ∧ f.length ≠ 32) ∧
    (∃ (s : State) (c : Fin 64) (seq st fl mir code iOut vOut pAvail : Nat) (pad : List Byte), s.running = true ∧ s.rb
      Reg.CAB_PRESENT c.val = true ∧ (s.cab c.val).got = false ∧ (s.cab c.val).sent.contains seq = true ∧ seq < 2 ^ 16 ∧ iOut < 2 ^
      32 ∧ vOut < 2 ^ 32 ∧ pAvail < 2 ^ 32 ∧ code < 2 ^ 16 ∧ st < 2 ^ 16 ∧ fl < 2 ∧ mir < 256 ∧ pad.length = 6) ∧
    (∃ (s : State) (c : Fin 64) (seq : Nat) (pad : List Byte), s.running = true ∧ s.rb Reg.CAB_PRESENT c.val = true ∧ (s.cab
      c.val).got = false ∧ (s.cab c.val).sent.contains seq = false ∧ seq < 2 ^ 16 ∧ pad.length = 6 ∧ s.r Reg.CAB_STATE c.val = 4) ∧
    (∃ (s : State) (c : Fin 64) (seq : Nat) (pad : List Byte), s.running = true ∧ s.rb Reg.CAB_PRESENT c.val = true ∧ (s.cab
      c.val).got = false ∧ (s.cab c.val).sent.contains seq = false ∧ seq < 2 ^ 16 ∧ pad.length = 6 ∧ s.r Reg.CAB_STATE c.val ≠ 4) ∧
    (∃ (s : State) (c : Fin 64), s.rb Reg.CAB_PRESENT c.val = true ∧ s.r Reg.CAB_STATE c.val ≠ 4 ∧ s.r Reg.CAB_STATUS_MISS c.val ≤
      (s.cab c.val).miss) ∧
    (∃ (s : State) (c : Fin 64), s.r Reg.CAB_STATE c.val = 4 ∧ (s.cab c.val).hold ≤ s.now) :=
  ⟨⟨live.w Reg.CAB_PRESENT 1 63, 63, [], by decide +kernel⟩,
   ⟨({ live with matrix.cabs := [(63, { sent := [9] })] } : State).w Reg.CAB_PRESENT 1 63 |>.w Reg.CAB_STATE 1 63, 63, 9, 2, 1, 255,
     65535, 1000, 4000, 120, List.replicate 6 0, by decide +kernel⟩,
   ⟨({ live with matrix.cabs := [(63, { sent := [8] })] } : State).w Reg.CAB_PRESENT 1 63 |>.w Reg.CAB_STATE 4 63, 63, 9,
     List.replicate 6 0, by decide +kernel⟩,
   ⟨live.w Reg.CAB_PRESENT 1 63 |>.w Reg.CAB_STATE 1 63, 63, 9, List.replicate 6 0, by decide +kernel⟩,
   ⟨({ live with matrix.cabs := [(63, { miss := 100000 })] } : State).w Reg.CAB_PRESENT 1 63 |>.w Reg.CAB_STATE 0 63, 63, by
     decide +kernel⟩,
   ⟨live.w Reg.CAB_STATE 4 63, 63, by decide +kernel⟩⟩

theorem witness_SessionOpening :
    (∃ (s : State) (n : Fin 32) (h : ClientHello), s.dialogues = true ∧ (s.conn n.val).link = true ∧ s.sess n.val ≠ 0 ∧ (h.suite &&
      h.group && h.sigAlg) = false) ∧
    (∃ (s : State) (n : Fin 32) (h : ClientHello) (last : Bool) (u : State), s.vaultAccept s.decl.seccKey 5 = .ok (last, u) ∧
      s.dialogues = true ∧ (s.conn n.val).link = true ∧ s.sess n.val ≠ 0 ∧ (h.suite && h.group && h.sigAlg) = true ∧
      s.decl.seccChain ≠ []) ∧
    (∃ (s : State) (n : Fin 32) (q : V2g), s.v2gOpen n.val q = true ∧ (s.sess n.val = 1 ∨ s.sess n.val = 8 ∧ (s.conn
      n.val).suspended = true)) ∧
    (∃ (s : State) (n : Fin 32) (q : V2g), s.v2gOpen n.val q = true ∧ s.sess n.val = 1 ∧ (s.conn n.val).app = true ∧ s.modesOffered
      n.val ≠ 0) ∧
    (∃ (s : State) (n : Fin 32) (q : V2g), s.v2gOpen n.val q = true ∧ s.sess n.val = 1 ∧ (s.conn n.val).app = true ∧ s.modesOffered
      n.val = 0 ∧ (s.conn n.val).stopped = false) ∧
    (∃ (s : State) (n : Fin 32) (q : V2g), s.v2gOn n.val q = true ∧ (s.sess n.val = 2 ∨ s.sess n.val = 3 ∨ s.sess n.val = 8 ∧
      (s.conn n.val).resumed = true)) ∧
    (∃ (s : State) (n : Fin 32) (q : V2g) (v m : Nat), s.v2gOn n.val q = true ∧ s.negotiating n.val = true ∧ s.sess n.val = 3 ∧ (v =
      1 ∨ v = 2 ∧ s.bidirReach n.val = true) ∧ (m = 1 ∨ m = 2)) ∧
    (∃ (s : State) (n : Fin 32) (q : V2g) (v m : Nat), s.v2gOn n.val q = true ∧ s.negotiating n.val = true ∧ (v = 0 ∨ 2 < v ∨ v = 2
      ∧ s.bidirReach n.val = false ∨ m = 0 ∨ 2 < m)) ∧
    (∃ (s : State) (n : Fin 32) (q : V2g), s.v2gOn n.val q = true ∧ s.negotiating n.val = true) :=
  ⟨⟨({ live with session.conns := [(31, { link := true })] } : State).w Reg.SESS_STATE 1 31, 31, { hello with suite := false }, by
    decide +kernel⟩,
   ⟨secc, 31, hello, false, secc.inc Reg.KEY_USES 0 9, by rfl, by decide +kernel⟩,
   ⟨({ live with session.conns := [(31, { tls := true })] } : State).w Reg.SESS_STATE 1 31, 31, v2g, by decide +kernel⟩,
   ⟨({ live with session.conns := [(31, { tls := true, app := true })] } : State).w Reg.SESS_STATE 1 31 |>.w Reg.SESS_AUTH_MODE 2
     31, 31, v2g, by decide +kernel⟩,
   ⟨({ live with session.conns := [(31, { tls := true, app := true })] } : State).w Reg.SESS_AUTH_MODE 0 31 |>.w Reg.SESS_STATE 1
     31, 31, v2g, by decide +kernel⟩,
   ⟨({ live with session.conns := [(31, { tls := true, v2g := true, sid := 7 })] } : State).w Reg.SESS_STATE 2 31, 31, v2gS, by
     decide +kernel⟩,
   ⟨({ live with session.conns := [(31, { tls := true, v2g := true, sid := 7 })] } : State).w Reg.SESS_STATE 3 31, 31, v2gS, 1, 1,
     by decide +kernel⟩,
   ⟨({ live with session.conns := [(31, { tls := true, v2g := true, sid := 7 })] } : State).w Reg.SESS_STATE 3 31, 31, v2gS, 3, 2,
     by decide +kernel⟩,
   ⟨({ live with session.conns := [(31, { tls := true, v2g := true, sid := 7 })] } : State).w Reg.SESS_STATE 3 31, 31, v2gS, by
     decide +kernel⟩⟩

theorem witness_Authorisation :
    (∃ (s : State) (n : Fin 32) (q : V2g) (a : AuthReq), s.v2gOn n.val q = true ∧ s.sess n.val = 2 ∧ bit (s.modesOffered n.val) (if
      a.pnc then 0 else 1) = true ∧ s.authHeld = false ∧ s.authRefused = none ∧ (s.conn n.val).token = none ∧ a.pnc = true ∧
      s.pncPasses a = true ∧ (bit (s.r Reg.SESS_AUTH_MODE n.val) 2 = false ∨ (s.conn n.val).grant = true)) ∧
    (∃ (s : State) (n : Fin 32) (q : V2g) (a : AuthReq), s.v2gOn n.val q = true ∧ s.sess n.val = 2 ∧ bit (s.modesOffered n.val) (if
      a.pnc then 0 else 1) = true ∧ s.authHeld = false ∧ s.authRefused = none ∧ (s.conn n.val).token = none ∧ a.pnc = true ∧
      s.pncPasses a = false ∧ (s.conn n.val).stopped = false) ∧
    (∃ (s : State) (n : Fin 32) (q : V2g) (a : AuthReq), s.v2gOn n.val q = true ∧ s.sess n.val = 2 ∧ bit (s.modesOffered n.val) (if
      a.pnc then 0 else 1) = true ∧ s.authHeld = false ∧ s.authRefused = none ∧ (s.conn n.val).token = none ∧ a.pnc = false ∧
      (s.conn n.val).grant = false ∧ bit (s.r Reg.SESS_AUTH_MODE n.val) 3 = true) ∧
    (∃ (s : State) (n : Fin 32) (q : V2g) (a : AuthReq), s.v2gOn n.val q = true ∧ s.sess n.val = 2 ∧ bit (s.modesOffered n.val) (if
      a.pnc then 0 else 1) = true ∧ s.authHeld = false ∧ s.authRefused = none ∧ (s.conn n.val).token = none ∧ a.pnc = false ∧
      (s.conn n.val).grant = true) ∧
    (∃ (s : State) (n : Fin 32) (q : V2g) (a : AuthReq), s.v2gOn n.val q = true ∧ s.sess n.val = 2 ∧ bit (s.modesOffered n.val) (if
      a.pnc then 0 else 1) = true ∧ s.authHeld = false ∧ s.authRefused = none ∧ (s.conn n.val).token = none ∧ a.pnc = false ∧
      (s.conn n.val).grant = false ∧ bit (s.r Reg.SESS_AUTH_MODE n.val) 3 = false) ∧
    (∃ (s : State) (n : Fin 32) (q : V2g) (a : AuthReq), s.v2gOn n.val q = true ∧ s.sess n.val = 2 ∧ bit (s.modesOffered n.val) (if
      a.pnc then 0 else 1) = true ∧ s.r Reg.DEV_INHIBIT % 8 ≠ 0 ∧ (s.conn n.val).stopped = false) ∧
    (∃ (s : State) (n : Fin 32), s.r Reg.SESS_AUTH_GRANT n.val = 1 ∧ s.sess n.val = 2 ∧ s.authHeld = false ∧ s.authRefused = none ∧
      (s.conn n.val).token = none ∧ (s.conn n.val).chosenPnc = some false) ∧
    (∃ (s : State) (n : Fin 32), s.r Reg.SESS_AUTH_GRANT n.val = 1 ∧ s.sess n.val = 2 ∧ s.authHeld = false ∧ s.authRefused = none ∧
      (s.conn n.val).token = none ∧ (s.conn n.val).chosenPnc = some true ∧ bit (s.r Reg.SESS_AUTH_MODE n.val) 2 = true ∧ (s.conn
      n.val).pncOk = true) ∧
    (∃ (s : State) (n : Fin 32), s.r Reg.SESS_AUTH_GRANT n.val = 1 ∧ s.sess n.val = 2 ∧ s.authHeld = false ∧ s.authRefused = none ∧
      (s.conn n.val).token = none ∧ (s.conn n.val).chosenPnc = none) ∧
    (∃ (s : State) (n : Fin 32), s.sess n.val ≠ 2 ∧ s.r Reg.SESS_AUTH_GRANT n.val = 1) ∧
    (∃ (s : State) (n : Fin 32), s.sess n.val ≠ 2 ∧ s.r Reg.SESS_AUTH_GRANT n.val = 2) ∧
    (∃ (s : State) (n : Fin 32), s.sess n.val = 2 ∧ (s.conn n.val).stopped = false ∧ s.r Reg.SESS_AUTH_GRANT n.val = 2) ∧
    (∃ (s : State) (n : Fin 32), s.sess n.val = 2 ∧ (s.conn n.val).stopped = false ∧ s.r Reg.SESS_AUTH_WAIT n.val ≤ s.r
      Reg.SESS_STATE_TIDES n.val) :=
  ⟨⟨({ live with session.conns := [(31, { tls := true, v2g := true, sid := 7 })], vault.pub := [(9, [7])] } : State).w
    Reg.SESS_STATE 2 31 |>.w Reg.SESS_AUTH_MODE 1 31 |>.w Reg.DEV_INHIBIT 0 |>.w Reg.SESSX_REC_FREE 1 |>.w Reg.KEY_STATE 1 0 9 |>.w
    Reg.KEY_ANCHOR 1 0 9 |>.w Reg.KEY_DENY_VALID 1 |>.w Reg.BILL_RTC_VALID 1, 31, v2gS, { eim with pnc := true, anchor := [7] }, by
    decide +kernel⟩,
   ⟨({ live with session.conns := [(31, { tls := true, v2g := true, sid := 7 })] } : State).w Reg.SESS_STATE 2 31 |>.w
     Reg.SESS_AUTH_MODE 1 31, 31, v2gS, { eim with pnc := true }, by decide +kernel⟩,
   ⟨({ live with session.conns := [(31, { tls := true, v2g := true, sid := 7 })] } : State).w Reg.SESS_STATE 2 31 |>.w
     Reg.SESS_AUTH_MODE 10 31, 31, v2gS, eim, by decide +kernel⟩,
   ⟨({ live with session.conns := [(31, { tls := true, v2g := true, sid := 7, grant := true })] } : State).w Reg.SESS_STATE 2 31
     |>.w Reg.DEV_INHIBIT 0 |>.w Reg.SESSX_REC_FREE 1, 31, v2gS, eim, by decide +kernel⟩,
   ⟨({ live with session.conns := [(31, { tls := true, v2g := true, sid := 7 })] } : State).w Reg.SESS_STATE 2 31, 31, v2gS, eim, by
     decide +kernel⟩,
   ⟨({ live with session.conns := [(31, { tls := true, v2g := true, sid := 7 })] } : State).w Reg.SESS_STATE 2 31 |>.w
     Reg.SESS_AUTH_MODE 2 31 |>.w Reg.DEV_INHIBIT 4, 31, v2gS, eim, by decide +kernel⟩,
   ⟨({ live with session.conns := [(31, { chosenPnc := some false })] } : State).w Reg.SESS_AUTH_GRANT 1 31 |>.w Reg.SESS_STATE 2
     31, 31, by decide +kernel⟩,
   ⟨({ live with session.conns := [(31, { chosenPnc := some true, pncOk := true })] } : State).w Reg.SESS_AUTH_GRANT 1 31 |>.w
     Reg.SESS_AUTH_MODE 4 31 |>.w Reg.SESS_STATE 2 31, 31, by decide +kernel⟩,
   ⟨live.w Reg.SESS_AUTH_GRANT 1 31 |>.w Reg.SESS_STATE 2 31, 31, by decide +kernel⟩,
   ⟨live.w Reg.SESS_AUTH_GRANT 1 31, 31, by decide +kernel⟩,
   ⟨live.w Reg.SESS_AUTH_GRANT 2 31, 31, by decide +kernel⟩,
   ⟨live.w Reg.SESS_STATE 2 31 |>.w Reg.SESS_AUTH_GRANT 2 31, 31, by decide +kernel⟩,
   ⟨live.w Reg.SESS_STATE 2 31 |>.w Reg.SESS_STATE_TIDES 0xFFFFFFFF 31, 31, by decide +kernel⟩⟩

theorem witness_SessionProgress :
    (∃ (s : State) (n : Fin 32) (q : V2g), s.v2gOn n.val q = true ∧ s.sess n.val = 3 ∧ s.r Reg.SESS_SERVICE n.val ≠ 0) ∧
    (∃ (s : State) (n : Fin 32), s.sess n.val = 4 ∧ 4 ≤ (s.conn n.val).locked ∧ s.connCut n.val = false) ∧
    (∃ (s : State) (n : Fin 32), s.sess n.val = 4 ∧ s.r Reg.SESS_LOCK_WAIT n.val ≤ s.r Reg.SESS_STATE_TIDES n.val ∧ (s.conn
      n.val).stopped = false) ∧
    (∃ (s : State) (n : Fin 32) (q : V2g), s.v2gOn n.val q = true ∧ (s.sess n.val = 4 ∨ s.sess n.val = 5 ∨ s.sess n.val = 8 ∧
      (s.conn n.val).resumed = true)) ∧
    (∃ (s : State) (n : Fin 32), s.sess n.val = 5 ∧ 200 ≤ (s.conn n.val).iso) ∧
    (∃ (s : State) (n : Fin 32) (q : V2g), s.v2gOn n.val q = true ∧ s.sess n.val = 5 ∧ (s.conn n.val).isoPass = true ∧ s.connCut
      n.val = false) ∧
    (∃ (s : State) (n : Fin 32), (s.sess n.val = 6 ∨ s.sess n.val = 8) ∧ 4 ≤ (s.conn n.val).match_) ∧
    (∃ (s : State) (n : Fin 32) (q : V2g), s.v2gOn n.val q = true ∧ (s.sess n.val = 6 ∨ s.sess n.val = 8) ∧ (s.conn n.val).matchOk =
      true ∧ s.pathDone n.val = true ∧ s.connCut n.val = false) ∧
    (∃ (s : State) (n : Fin 32) (q : V2g), s.v2gOn n.val q = true ∧ s.sess n.val = 6 ∧ (s.conn n.val).matchOk = false) ∧
    (∃ (s : State) (n : Fin 32) (q : V2g), s.v2gOn n.val q = true ∧ (s.sess n.val = 7 ∨ s.sess n.val = 8)) :=
  ⟨⟨({ live with session.conns := [(31, { tls := true, v2g := true, sid := 7 })] } : State).w Reg.SESS_STATE 3 31 |>.w
    Reg.SESS_SERVICE 1 31, 31, v2gS, by decide +kernel⟩,
   ⟨({ live with session.conns := [(31, { locked := 4 })] } : State).w Reg.SESS_STATE 4 31, 31, by decide +kernel⟩,
   ⟨live.w Reg.SESS_STATE 4 31 |>.w Reg.SESS_STATE_TIDES 0xFFFFFFFF 31, 31, by decide +kernel⟩,
   ⟨({ live with session.conns := [(31, { tls := true, v2g := true, sid := 7 })] } : State).w Reg.SESS_STATE 4 31, 31, v2gS, by
     decide +kernel⟩,
   ⟨({ live with session.conns := [(31, { iso := 200 })] } : State).w Reg.SESS_STATE 5 31, 31, by decide +kernel⟩,
   ⟨({ live with session.conns := [(31, { tls := true, v2g := true, sid := 7, isoPass := true })] } : State).w Reg.SESS_STATE 5 31,
     31, v2gS, by decide +kernel⟩,
   ⟨({ live with session.conns := [(31, { match_ := 4 })] } : State).w Reg.SESS_STATE 6 31, 31, by decide +kernel⟩,
   ⟨({ live with session.conns := [(31, { tls := true, v2g := true, sid := 7, matchOk := true })] } : State).w Reg.SESS_STATE 6 31
     |>.w Reg.MTX_CONN_BUS 63 0 31 |>.w Reg.MTX_CONN_STATE 2 0 31, 31, v2gS, by decide +kernel⟩,
   ⟨({ live with session.conns := [(31, { tls := true, v2g := true, sid := 7 })] } : State).w Reg.SESS_STATE 6 31, 31, v2gS, by
     decide +kernel⟩,
   ⟨({ live with session.conns := [(31, { tls := true, v2g := true, sid := 7 })] } : State).w Reg.SESS_STATE 7 31, 31, v2gS, by
     decide +kernel⟩⟩

theorem witness_PauseAndResume :
    (∃ (s : State) (n : Fin 32) (q : V2g), s.v2gOn n.val q = true ∧ (s.sess n.val = 7 ∨ s.sess n.val = 8) ∧ s.connCut n.val = false)
      ∧
    (∃ (s : State) (n : Fin 32) (q : V2g), s.v2gOpen n.val q = true ∧ s.sess n.val = 8 ∧ q.sid = some (s.conn n.val).sid ∧ (s.conn
      n.val).suspended = true ∧ (s.conn n.val).app = true) ∧
    (∃ (s : State) (n : Fin 32), s.sess n.val = 8 ∧ s.pathDone n.val = true ∧ (s.r Reg.SESS_PATH_HOLD n.val ≠ 0 ∧ s.r
      Reg.SESS_PATH_HOLD n.val ≤ (s.conn n.val).held ∨ s.r Reg.SESS_PATH_HOLD n.val = 0 ∧ s.r Reg.SESS_I_CMD n.val = 0 ∧ s.connI
      n.val ≤ s.r Reg.MTX_ZERO_I)) ∧
    (∃ (s : State) (n : Fin 32), s.sess n.val = 8 ∧ s.r Reg.SESS_PAUSE_MAX n.val ≤ s.r Reg.SESS_STATE_TIDES n.val ∧ (s.conn
      n.val).stopped = false ∧ s.connCut n.val = false) ∧
    (∃ (s : State) (n : Fin 32), s.dialogues = true ∧ s.sess n.val = 8 ∧ (s.conn n.val).suspended = true) ∧
    (∃ (s : State) (n : Fin 32), s.sess n.val = 8 ∧ (s.conn n.val).suspended = true ∧ 4 ≤ (s.conn n.val).proxGone ∧ (s.conn
      n.val).stopped = false ∧ s.connCut n.val = false) :=
  ⟨⟨({ live with session.conns := [(31, { tls := true, v2g := true, sid := 7 })] } : State).w Reg.SESS_STATE 7 31, 31, v2gS, by
    decide +kernel⟩,
   ⟨({ live with session.conns := [(31, { suspended := true, app := true, tls := true, sid := 7 })] } : State).w Reg.SESS_STATE 8
     31, 31, v2gS, by decide +kernel⟩,
   ⟨({ live with session.conns := [(31, { held := 3 })] } : State).w Reg.SESS_STATE 8 31 |>.w Reg.SESS_PATH_HOLD 3 31 |>.w
     Reg.MTX_CONN_BUS 63 0 31 |>.w Reg.MTX_CONN_STATE 2 0 31, 31, by decide +kernel⟩,
   ⟨live.w Reg.SESS_STATE 8 31 |>.w Reg.SESS_STATE_TIDES 0xFFFFFFFF 31, 31, by decide +kernel⟩,
   ⟨({ live with session.conns := [(31, { suspended := true })] } : State).w Reg.SESS_STATE 8 31, 31, by decide +kernel⟩,
   ⟨({ live with session.conns := [(31, { suspended := true, proxGone := 4 })] } : State).w Reg.SESS_STATE 8 31, 31, by
     decide +kernel⟩⟩

theorem witness_SessionStops :
    (∃ (s : State) (n : Fin 32), (s.conn n.val).stopped = false ∧ s.connCut n.val = false ∧ s.sess n.val = 5 ∧ s.r
      Reg.SESS_CABLE_WAIT n.val ≤ s.r Reg.SESS_STATE_TIDES n.val ∧ (s.conn n.val).isoPass = false) ∧
    (∃ (s : State) (n : Fin 32), (s.conn n.val).stopped = false ∧ s.connCut n.val = false ∧ s.sess n.val = 6 ∧ s.r
      Reg.SESS_PRECHARGE_WAIT n.val ≤ s.r Reg.SESS_STATE_TIDES n.val) ∧
    (∃ (s : State) (n : Fin 32) (q : V2g), (s.conn n.val).stopped = false ∧ s.connCut n.val = false ∧ s.sess n.val = 7 ∧ s.v2gOn
      n.val q = true) ∧
    (∃ (s : State) (n : Fin 32) (q : V2g), (s.conn n.val).stopped = false ∧ s.connCut n.val = false ∧ s.sess n.val = 7 ∧ s.dialogues
      = true ∧ (s.conn n.val).tls = true ∧ q.decodes = true ∧ q.size ≤ 8192 ∧ q.failed = true) ∧
    (∃ (s : State) (n : Fin 32), (s.conn n.val).stopped = false ∧ s.connCut n.val = false ∧ s.sess n.val = 7 ∧ s.rb Reg.SESS_STOP
      n.val = true) ∧
    (∃ (s : State) (n : Fin 32), (s.conn n.val).stopped = false ∧ s.connCut n.val = false ∧ s.sess n.val = 7 ∧ (s.conn n.val).v2g =
      true ∧ 6000 ≤ (s.conn n.val).quiet) ∧
    (∃ (s : State) (n : Fin 32), (s.conn n.val).stopped = false ∧ s.connCut n.val = false ∧ s.sess n.val = 3 ∧ (s.conn n.val).v2g =
      true ∧ 6000 ≤ (s.conn n.val).quiet) ∧
    (∃ (s : State) (n : Fin 32) (q : V2g), s.v2gOn n.val q = true ∧ 9 ≤ s.sess n.val ∧ s.sess n.val ≠ 13) ∧
    (∃ (s : State) (n : Fin 32) (q : V2g), s.v2gOpen n.val q = true ∧ 9 ≤ s.sess n.val) :=
  ⟨⟨live.w Reg.SESS_STATE 5 31 |>.w Reg.SESS_STATE_TIDES 0xFFFFFFFF 31, 31, by decide +kernel⟩,
   ⟨live.w Reg.SESS_STATE 6 31 |>.w Reg.SESS_STATE_TIDES 0xFFFFFFFF 31, 31, by decide +kernel⟩,
   ⟨({ live with session.conns := [(31, { tls := true, v2g := true, sid := 7 })] } : State).w Reg.SESS_STATE 7 31, 31, v2gS, by
     decide +kernel⟩,
   ⟨({ live with session.conns := [(31, { tls := true })] } : State).w Reg.SESS_STATE 7 31, 31, ({ v2g with failed := true } : V2g),
     by decide +kernel⟩,
   ⟨live.w Reg.SESS_STATE 7 31 |>.w Reg.SESS_STOP 1 31, 31, by decide +kernel⟩,
   ⟨({ live with session.conns := [(31, { v2g := true, quiet := 6000 })] } : State).w Reg.SESS_STATE 7 31, 31, by decide +kernel⟩,
   ⟨({ live with session.conns := [(31, { v2g := true, quiet := 6000 })] } : State).w Reg.SESS_STATE 3 31, 31, by decide +kernel⟩,
   ⟨({ live with session.conns := [(31, { tls := true, v2g := true, sid := 7 })] } : State).w Reg.SESS_STATE 12 31, 31, v2gS, by
     decide +kernel⟩,
   ⟨({ live with session.conns := [(31, { tls := true })] } : State).w Reg.SESS_STATE 13 31, 31, v2g, by decide +kernel⟩⟩

theorem witness_SessionEnd :
    (∃ (s : State) (n : Fin 32), s.sess n.val = 9 ∧ s.r Reg.SESS_I_CMD n.val = 0 ∧ 4 ≤ (s.conn n.val).zero ∧ s.connCut n.val =
      false) ∧
    (∃ (s : State) (n : Fin 32), (s.sess n.val = 11 ∨ s.sess n.val = 12) ∧ 10 ≤ (s.conn n.val).below) ∧
    (∃ (s : State) (n : Fin 32), (s.sess n.val = 11 ∨ s.sess n.val = 12) ∧ 100 < (s.conn n.val).above) ∧
    (∃ (s : State) (no : Nat), s.session.unsigned.find? (fun k => (Tab.find s.vault.signed k).isSome) = some no) ∧
    (∃ (s : State) (g : Fin 16), s.running = true ∧ s.groupReadsCut g.val = true) ∧
    (∃ (s : State) (n : Fin 32), s.sess n.val = 10 ∧ (∀ m, m < 32 → m ≠ n.val → s.sess m ≠ 10) ∧ s.matrix.releases.contains n.val =
      false ∧ s.busyMoves = [] ∧ s.connBus n.val = none ∧ s.recordOf n.val = none) ∧
    (∃ (s : State) (m : Fin 8) (k : Fin 256), s.mvExpired m.val 2 (s.r Reg.MTX_OPEN_WAIT) = true ∧ s.mvOpen m.val = some k.val ∧ (∀
      f, f < 64 → s.r Reg.SAFE_FN_TYPE 0 f = 0) ∧ (∀ n, n < 32 → s.sess n ≠ 10)) :=
  ⟨⟨({ live with session.conns := [(31, { zero := 4 })] } : State).w Reg.SESS_STATE 9 31, 31, by decide +kernel⟩,
   ⟨({ live with session.conns := [(31, { below := 10 })] } : State).w Reg.SESS_STATE 11 31, 31, by decide +kernel⟩,
   ⟨({ live with session.conns := [(31, { above := 101 })] } : State).w Reg.SESS_STATE 11 31, 31, by decide +kernel⟩,
   ⟨{ live with vault.signed := [(1, [5])], session.unsigned := [1] }, 1, by decide +kernel⟩,
   ⟨live, 15, by decide +kernel⟩,
   ⟨live.w Reg.SESS_STATE 10 31, 31, by decide +kernel⟩,
   ⟨({ live with matrix.moves := [(7, { waves := 60000 })] } : State).w Reg.MTX_MV_TYPE 1 0 7 |>.w Reg.MTX_MV_PHASE 2 0 7 |>.w
     Reg.MTX_MV_OPEN 255 0 7, 7, 255, by decide +kernel⟩⟩

theorem witness_SessionRecords :
    (∃ (s : State) (e : Env) (i v : Nat), s.admits e 1 i ∧ v < 2 ^ 32 ∧ v ≤ s.r Reg.SESSX_REC_NEWEST ∧ s.rWith s.command.ri
      Reg.SESSX_REC_ACK ≤ v) ∧
    (∃ (s : State) (e : Env) (i v : Nat), s.admits e 1 i ∧ v < 2 ^ 32 ∧ s.r Reg.SESSX_REC_NEWEST < v) ∧
    (∃ (s : State) (e : Env) (i no : Nat) (q : SessRec), s.admits e 0 i ∧ s.session.recs.find? (fun q => decide (q.no = no)) = some
      q) :=
  ⟨⟨srv.w Reg.SESSX_REC_NEWEST 4, env, 31, 4, ⟨by decide +kernel, by decide +kernel, by rfl⟩, by decide +kernel⟩,
   ⟨srv.w Reg.SESSX_REC_NEWEST 4, env, 31, 5, ⟨by decide +kernel, by decide +kernel, by rfl⟩, by decide +kernel⟩,
   ⟨{ srv with session.recs := [record7] }, env, 31, 7, record7, ⟨by decide +kernel, by decide +kernel, by rfl⟩, by decide +kernel⟩⟩

theorem witness_LoopTrips :
    (∃ (s : State) (i : Fin 128), s.r Reg.LOOP_STATE i.val = 4 ∧ s.r Reg.LOOP_MEAS_HOLD i.val ≤ (s.lp i.val).bad) ∧
    (∃ (s : State) (i : Fin 128) (c : Nat), (s.lp i.val).supDue = some c ∧ c < 8 ∧ s.rb Reg.LOOP_SUP_ACTION i.val = true) ∧
    (∃ (s : State) (i : Fin 128) (c : Nat), (s.lp i.val).supDue = some c ∧ c < 8 ∧ s.rb Reg.LOOP_SUP_ACTION i.val = false) ∧
    (∃ (s : State) (i : Fin 128), (s.lp i.val).wrote = true) :=
  ⟨⟨({ live with loop.loops := [(127, { bad := 100000 })] } : State).w Reg.LOOP_STATE 4 127, 127, by decide +kernel⟩,
   ⟨({ live with loop.loops := [(127, { supDue := some 7 })] } : State).w Reg.LOOP_SUP_ACTION 1 127, 127, 7, by decide +kernel⟩,
   ⟨{ live with loop.loops := [(127, { supDue := some 1 })] }, 127, 1, by decide +kernel⟩,
   ⟨{ live with loop.loops := [(127, { wrote := true })] }, 127, by decide +kernel⟩⟩

theorem witness_InjectionAndCapture :
    (∃ (s : State) (i : Fin 128), s.r Reg.LOOP_INJ_CTRL i.val = 1) ∧
    (∃ (s : State) (i : Fin 128), s.r Reg.LOOP_INJ_CTRL i.val = 2 ∧ s.r Reg.LOOP_INJ_STATE i.val = 1) ∧
    (∃ (s : State) (i : Fin 128), s.r Reg.LOOP_INJ_STATE i.val = 1 ∧ s.r Reg.LOOP_INJ_LEN i.val ≠ 0 ∧ s.r Reg.LOOP_INJ_LEN i.val ≤
      (s.lp i.val).k) ∧
    (∃ (s : State) (i : Fin 128) (b : Nat), s.r Reg.LOOP_CAP_CTRL i.val = 1 ∧ (s.lp i.val).bank = some b ∧ b < 4) ∧
    (∃ (s : State) (i : Fin 128) (b : Nat), s.r Reg.LOOP_CAP_CTRL i.val = 1 ∧ (s.lp i.val).bank = none ∧ s.freeBank = some b) ∧
    (∃ (s : State) (i : Fin 128), s.r Reg.LOOP_CAP_CTRL i.val = 1 ∧ (s.lp i.val).bank = none ∧ s.freeBank = none) ∧
    (∃ (s : State) (i : Fin 128), s.r Reg.LOOP_CAP_CTRL i.val = 2) ∧
    (∃ (s : State) (i : Fin 128), s.r Reg.LOOP_CAP_STATE i.val = 2 ∧ s.r Reg.LOOP_CAP_LEN i.val ≤ s.r Reg.LOOP_CAP_COUNT i.val) :=
  ⟨⟨live.w Reg.LOOP_INJ_CTRL 1 127, 127, by decide +kernel⟩,
   ⟨live.w Reg.LOOP_INJ_CTRL 2 127 |>.w Reg.LOOP_INJ_STATE 1 127, 127, by decide +kernel⟩,
   ⟨({ live with loop.loops := [(127, { k := 100000 })] } : State).w Reg.LOOP_INJ_STATE 1 127 |>.w Reg.LOOP_INJ_LEN 1 127, 127, by
     decide +kernel⟩,
   ⟨({ live with loop.loops := [(127, { bank := some 1 })] } : State).w Reg.LOOP_CAP_CTRL 1 127, 127, 1, by decide +kernel⟩,
   ⟨live.w Reg.LOOP_CAP_CTRL 1 127, 127, 0, by decide +kernel⟩,
   ⟨({ live with loop.loops := [(0, { bank := some 0 }), (1, { bank := some 1 }), (2, { bank := some 2 }), (3, { bank := some 3 })]
     } : State).w Reg.LOOP_CAP_CTRL 1 127, 127, by decide +kernel⟩,
   ⟨live.w Reg.LOOP_CAP_CTRL 2 127 |>.w Reg.LOOP_CAP_LEN 100 127 |>.w Reg.LOOP_CAP_COUNT 100 127, 127, by decide +kernel⟩,
   ⟨live.w Reg.LOOP_CAP_STATE 2 127 |>.w Reg.LOOP_CAP_LEN 100 127 |>.w Reg.LOOP_CAP_COUNT 100 127, 127, by decide +kernel⟩⟩

theorem witness_BridgeFaults :
    (∃ (s : State) (x : Fin 6) (q : GdSample) (p : Nat), p < 3 ∧ s.r Reg.GD_SHUNT_OC x.val < q.shunt.getD p 0 ∧ (∀ j, j < p →
      q.shunt.getD j 0 ≤ s.r Reg.GD_SHUNT_OC x.val)) ∧
    (∃ (q : GdSample), q.vdrv < 85) ∧
    (∃ (q : GdSample), 850 < q.vbus) ∧
    (∃ (s : State) (x : Fin 6) (q : GdSample), 100 * (s.r Reg.GD_TSD x.val : Int) < q.temp) ∧
    (∃ (s : State) (x : Fin 6) (q : GdSample) (code phase : Nat), s.prot (.gd x) = .active ∧ (s.takeSample (.gd x q)).sampleCross
      (.gd x q) = none ∧ (s.takeSample (.gd x q)).sampleHot (.gd x q) = [] ∧ (s.takeSample (.gd x q)).sampleFault (.gd x q) = some
      (code, phase) ∧ s.r Reg.GD_TRIES x.val < s.r Reg.GD_RETRY_MAX x.val) ∧
    (∃ (s : State) (x : Fin 6) (q : GdSample) (code phase : Nat), s.prot (.gd x) = .active ∧ (s.takeSample (.gd x q)).sampleCross
      (.gd x q) = none ∧ (s.takeSample (.gd x q)).sampleHot (.gd x q) = [] ∧ (s.takeSample (.gd x q)).sampleFault (.gd x q) = some
      (code, phase) ∧ s.r Reg.GD_RETRY_MAX x.val ≤ s.r Reg.GD_TRIES x.val) ∧
    (∃ (s : State) (x : Fin 6) (q : GdSample), (s.takeSample (.gd x q)).sampleCross (.gd x q) = none ∧ (s.takeSample (.gd x
      q)).sampleHot (.gd x q) = [7] ∧ s.prot (.gd x) = .active) ∧
    (∃ (s : State) (x : Fin 6) (q : GdSample), (s.takeSample (.gd x q)).sampleCross (.gd x q) = none ∧ (s.takeSample (.gd x
      q)).sampleHot (.gd x q) = [7] ∧ s.prot (.gd x) = .retryWait) ∧
    (∃ (s : State) (x : Fin 6) (q : GdSample) (p : Nat), s.prot (.gd x) ≠ .xcLatch ∧ (s.takeSample (.gd x q)).sampleCross (.gd x q)
      = some p) ∧
    (∃ (s : State) (x : Fin 6), s.rb Reg.GD_CLR x.val = true ∧ s.r Reg.GD_STATE x.val = 7 ∧ s.r Reg.GD_MODE x.val = 0) ∧
    (∃ (s : State) (x : Fin 6), s.rb Reg.GD_CLR x.val = true ∧ s.r Reg.GD_STATE x.val = 6 ∧ s.gdFaultPresent x.val = false) ∧
    (∃ (s : State) (x : Fin 6), s.rb Reg.GD_CLR x.val = true ∧ (s.r Reg.GD_STATE x.val = 7 ∧ s.r Reg.GD_MODE x.val ≠ 0 ∨ s.r
      Reg.GD_STATE x.val = 6 ∧ s.gdFaultPresent x.val = true)) :=
  ⟨⟨live, 5, { gdS with shunt := [0, 1000, 0] }, 1, by decide +kernel⟩,
   ⟨{ gdS with vdrv := 84 }, by decide +kernel⟩,
   ⟨{ gdS with vbus := 851 }, by decide +kernel⟩,
   ⟨live, 5, { gdS with temp := 20001 }, by decide +kernel⟩,
   ⟨live.w Reg.GD_STATE 2 5, 5, { gdS with shunt := [1000, 0, 0] }, 1, 0, by decide +kernel⟩,
   ⟨live.w Reg.GD_STATE 2 5 |>.w Reg.GD_TRIES 3 5, 5, { gdS with shunt := [1000, 0, 0] }, 1, 0, by decide +kernel⟩,
   ⟨live.w Reg.GD_STATE 2 5, 5, { gdS with temp := 20001 }, by decide +kernel⟩,
   ⟨live.w Reg.GD_STATE 4 5, 5, { gdS with temp := 20001 }, by decide +kernel⟩,
   ⟨live, 5, { gdS with both := [false, false, true] }, 2, by decide +kernel⟩,
   ⟨live.w Reg.GD_CLR 1 5 |>.w Reg.GD_STATE 7 5, 5, by decide +kernel⟩,
   ⟨live.w Reg.GD_CLR 1 5 |>.w Reg.GD_STATE 6 5 |>.w Reg.GD_VBS 255 5 0 |>.w Reg.GD_VBS 255 5 1 |>.w Reg.GD_VBS 255 5 2, 5, by
     decide +kernel⟩,
   ⟨live.w Reg.GD_CLR 1 5 |>.w Reg.GD_STATE 6 5, 5, by decide +kernel⟩⟩

theorem witness_BridgeRuns :
    (∃ (s : State) (x : Fin 6), s.r Reg.GD_STATE x.val ≠ 2) ∧
    (∃ (s : State) (x : Fin 6), s.r Reg.GD_STATE x.val = 2 ∧ s.r Reg.GD_MODE x.val = 2 ∧ s.r Reg.GD_CMD x.val ≤ 10000) ∧
    (∃ (s : State) (x : Fin 6) (vbs : List Nat), s.r Reg.GD_STATE x.val = 1 ∧ (∀ p, p < 3 → s.r Reg.GD_VBS_UV x.val ≤ vbs.getD p 0 %
      2 ^ 8)) ∧
    (∃ (s : State) (x : Fin 6) (vbs : List Nat), s.r Reg.GD_STATE x.val = 1 ∧ vbs.getD 0 0 % 2 ^ 8 < s.r Reg.GD_VBS_UV x.val ∧ s.r
      Reg.GD_TRIES x.val < s.r Reg.GD_RETRY_MAX x.val) ∧
    (∃ (s : State) (x : Fin 6) (p : Fin 3) (us : Nat), s.r Reg.GD_STATE x.val = 2 ∧ s.rb Reg.GD_REFRESH_ACT x.val p.val = true ∧ s.r
      Reg.GD_REFRESH_T x.val ≤ us) :=
  ⟨⟨live.w Reg.GD_STATE 0 5, 5, by decide +kernel⟩,
   ⟨live.w Reg.GD_STATE 2 5 |>.w Reg.GD_MODE 2 5 |>.w Reg.GD_CMD 10000 5, 5, by decide +kernel⟩,
   ⟨live.w Reg.GD_STATE 1 5, 5, [255, 255, 255], by decide +kernel⟩,
   ⟨live.w Reg.GD_STATE 1 5 |>.w Reg.GD_RETRY_MAX 3 5, 5, [0, 255, 255], by decide +kernel⟩,
   ⟨live.w Reg.GD_STATE 2 5 |>.w Reg.GD_REFRESH_ACT 1 5 2, 5, 2, 10000, by decide +kernel⟩⟩

theorem witness_LoadSwitchesAndSelects :
    (∃ (s : State) (c : Fin 32) (q : LsSample) (code phase : Nat), s.prot (.ls c) = .active ∧ s.r Reg.LS_FUNCTION c.val ≠ 1 ∧
      s.sampleHot (.ls c q) = [] ∧ s.sampleFault (.ls c q) = some (code, phase) ∧ s.r Reg.LS_TRIES c.val < s.r Reg.LS_RETRY_MAX
      c.val) ∧
    (∃ (s : State) (c : Fin 32) (q : LsSample) (code phase : Nat), s.prot (.ls c) = .active ∧ s.r Reg.LS_FUNCTION c.val ≠ 1 ∧
      s.sampleHot (.ls c q) = [] ∧ s.sampleFault (.ls c q) = some (code, phase) ∧ s.r Reg.LS_RETRY_MAX c.val ≤ s.r Reg.LS_TRIES
      c.val) ∧
    (∃ (s : State) (c : Fin 32) (q : LsSample), (s.r Reg.LS_STATE c.val = 1 ∨ s.r Reg.LS_STATE c.val = 2) ∧ s.r Reg.LS_OC_TRIP c.val
      < q.i ∧ s.r Reg.LS_OC_FILT c.val ≤ q.ocFor) ∧
    (∃ (s : State) (c : Fin 32) (q : LsSample) (h : Nat) (l : List Nat), s.sampleHot (.ls c q) = h :: l ∧ s.prot (.ls c) = .active)
      ∧
    (∃ (s : State) (c : Fin 32) (q : LsSample) (h : Nat) (l : List Nat), s.sampleHot (.ls c q) = h :: l ∧ s.prot (.ls c) =
      .retryWait) ∧
    (∃ (s : State) (c : Fin 32) (q : LsSample), s.prot (.ls c) = .thermalHold ∧ (s.outI (.ls c)).hot.filter (fun k => s.stillHot
      (.ls c q) k) ≠ []) ∧
    (∃ (s : State) (c : Fin 32) (q : LsSample), s.prot (.ls c) = .thermalHold ∧ (s.outI (.ls c)).hot.filter (fun k => s.stillHot
      (.ls c q) k) = [] ∧ (s.outI (.ls c)).fresh = none ∧ (s.outI (.ls c)).retry = false) ∧
    (∃ (s : State) (c : Fin 32) (q : LsSample), s.prot (.ls c) = .thermalHold ∧ (s.outI (.ls c)).hot.filter (fun k => s.stillHot
      (.ls c q) k) = [] ∧ (s.outI (.ls c)).fresh = none ∧ (s.outI (.ls c)).retry = true ∧ s.r Reg.LS_FUNCTION c.val ≠ 1 ∧ s.r
      Reg.LS_TRIES c.val < s.r Reg.LS_RETRY_MAX c.val) ∧
    (∃ (s : State) (c : Fin 32) (q : LsSample) (ph : Nat), s.prot (.ls c) = .thermalHold ∧ (s.outI (.ls c)).hot.filter (fun k =>
      s.stillHot (.ls c q) k) = [] ∧ (s.outI (.ls c)).fresh = some (0x11, ph) ∧ s.r Reg.LS_FUNCTION c.val ≠ 1 ∧ s.r Reg.LS_TRIES
      c.val < s.r Reg.LS_RETRY_MAX c.val) ∧
    (∃ (s : State) (c : Fin 32) (ms : Nat), s.prot (.ls c) = .retryWait ∧ s.r Reg.LS_RETRY_WAIT c.val ≤ ms) ∧
    (∃ (s : State) (c : Fin 32) (ms : Nat), s.prot (.ls c) = .active ∧ 10000 ≤ ms) ∧
    (∃ (s : State) (c : Fin 32), s.rb Reg.LS_CLR c.val = true ∧ s.r Reg.LS_STATE c.val = 5 ∧ s.lsFaultPresent c.val = false) ∧
    (∃ (s : State) (c : Fin 32), s.rb Reg.LS_CLR c.val = true ∧ s.r Reg.LS_STATE c.val = 5 ∧ s.lsFaultPresent c.val = true) ∧
    (∃ (s : State) (c : Fin 32) (v : Nat), v < 70 ∧ s.r Reg.LS_SUPPLY c.val < 2) ∧
    (∃ (s : State) (c : Fin 32) (v held : Nat), 75 < v ∧ 10 ≤ held ∧ s.prot (.ls c) = .supplyLow) ∧
    (∃ (s : State) (c : Fin 32) (i ms : Nat), (s.r Reg.LS_STATE c.val = 1 ∨ s.r Reg.LS_STATE c.val = 2) ∧ s.rb Reg.LS_OPEN_LOAD
      c.val = false ∧ i < s.r Reg.LS_OL_THRESH c.val ∧ s.r Reg.LS_OL_FILT c.val ≤ ms) ∧
    (∃ (s : State) (c : Fin 32) (i : Nat), s.r Reg.LS_OL_THRESH c.val ≤ i) ∧
    (∃ (s : State) (c : Fin 32) (q : LsSample) (k : Fin 256) (code phase : Nat), s.prot (.ls c) = .active ∧ s.r Reg.LS_FUNCTION
      c.val = 1 ∧ s.running = true ∧ s.sampleHot (.ls c q) = [] ∧ s.sampleFault (.ls c q) = some (code, phase) ∧ k.val ∈
      s.contactors ∧ s.r Reg.MTX_CT_SEL_KIND 0 k.val = 1 ∧ s.r Reg.MTX_CT_SEL_INDEX 0 k.val = c.val ∧ s.ctWelded k.val = false ∧ s.r
      Reg.MTX_CT_GROUP 0 k.val < 16) :=
  ⟨⟨live.w Reg.LS_FUNCTION 0 31 |>.w Reg.LS_STATE 1 31 |>.w Reg.LS_RETRY_MAX 3 31, 31, { lsS with i := 65000, limFor := 1000 },
    0x12, 3, by decide +kernel⟩,
   ⟨live.w Reg.LS_FUNCTION 0 31 |>.w Reg.LS_STATE 1 31 |>.w Reg.LS_RETRY_MAX 3 31 |>.w Reg.LS_TRIES 3 31, 31,
     { lsS with i := 65000, limFor := 1000 }, 0x12, 3, by decide +kernel⟩,
   ⟨live.w Reg.LS_STATE 1 31, 31, { lsS with i := 65535, ocFor := 100000 }, by decide +kernel⟩,
   ⟨live.w Reg.LS_STATE 1 31, 31, { lsS with temp := 17001 }, 0x13, [0x14], by decide +kernel⟩,
   ⟨live.w Reg.LS_STATE 3 31, 31, { lsS with temp := 17001 }, 0x13, [0x14], by decide +kernel⟩,
   ⟨({ live with drive.ls := [(31, { hot := [0x14] })] } : State).w Reg.LS_STATE 4 31, 31, { lsS with temp := 15500 }, by
     decide +kernel⟩,
   ⟨({ live with drive.ls := [(31, { hot := [0x14] })] } : State).w Reg.LS_STATE 4 31, 31, { lsS with temp := 15499 }, by
     decide +kernel⟩,
   ⟨({ live with drive.ls := [(31, { retry := true })] } : State).w Reg.LS_FUNCTION 0 31 |>.w Reg.LS_STATE 4 31 |>.w
     Reg.LS_RETRY_MAX 3 31, 31, lsS, by decide +kernel⟩,
   ⟨({ live with drive.ls := [(31, { fresh := some (0x11, 3) })] } : State).w Reg.LS_FUNCTION 0 31 |>.w Reg.LS_STATE 4 31 |>.w
     Reg.LS_RETRY_MAX 3 31, 31, lsS, 3, by decide +kernel⟩,
   ⟨live.w Reg.LS_STATE 3 31, 31, 100000, by decide +kernel⟩,
   ⟨live.w Reg.LS_STATE 1 31, 31, 10000, by decide +kernel⟩,
   ⟨live.w Reg.LS_CLR 1 31 |>.w Reg.LS_STATE 5 31, 31, by decide +kernel⟩,
   ⟨live.w Reg.LS_CLR 1 31 |>.w Reg.LS_STATE 5 31 |>.w Reg.LS_I_MEAS 65535 31, 31, by decide +kernel⟩,
   ⟨live.w Reg.MTX_CONTACTORS 256 |>.w Reg.MTX_CT_KIND 1 0 255 |>.w Reg.MTX_CT_GROUP 15 0 255, 31, 1, by decide +kernel⟩,
   ⟨live.w Reg.LS_STATE 6 31, 31, 76, 10, by decide +kernel⟩,
   ⟨live.w Reg.LS_STATE 1 31 |>.w Reg.LS_OL_THRESH 2 31, 31, 1, 100000, by decide +kernel⟩,
   ⟨live, 31, 65535, by decide +kernel⟩,
   ⟨live.w Reg.LS_FUNCTION 1 31 |>.w Reg.MTX_CT_SEL_KIND 1 0 255 |>.w Reg.MTX_CT_SEL_INDEX 31 0 255 |>.w Reg.LS_STATE 1 31 |>.w
     Reg.MTX_CT_KIND 1 0 255 |>.w Reg.MTX_CONTACTORS 256, 31, { lsS with i := 65000, limFor := 1000 }, 255, 0x12, 3, by
     decide +kernel⟩⟩

theorem witness_PowerDie :
    (∃ (s : State) (vls : BitVec 2), vls ≠ 0 ∧ s.drive.fed = 0) ∧
    (∃ (s : State), s.drive.fed ≠ 0) :=
  ⟨⟨{ live with drive.fed := 0 }, 3, by decide +kernel⟩,
   ⟨{ live with drive.fed := 2 }, by decide +kernel⟩⟩

theorem witness_MetrologyInputs :
    (∃ (s : State) (m : Fin 152), 4 ≤ (s.inI m.val).clips ∧ s.r Reg.MET_IN_STATE 0 m.val ≠ 3) ∧
    (∃ (s : State) (m : Fin 152), 400 ≤ (s.inI m.val).good ∧ s.r Reg.MET_IN_STATE 0 m.val = 3) ∧
    (∃ (s : State) (n : Fin 32), 100 ≤ (s.dcI n.val).beyond ∧ (s.dcI n.val).splice = false) ∧
    (∃ (s : State) (n : Fin 32), 100 ≤ (s.dcI n.val).within ∧ (s.dcI n.val).splice = true) ∧
    (∃ (s : State) (j : Fin 16), s.alive = true ∧ s.isReleased (resId 9 j.val) = false ∧ s.r Reg.MET_PLS_BACKLOG 0 j.val ≠ 0 ∧
      (Tab.getD s.meter.pulses j.val { since := 4000 }).high = false ∧ s.r Reg.MET_PLS_WIDTH 0 j.val * 40 ≤ (Tab.getD s.meter.pulses
      j.val { since := 4000 }).since) ∧
    (∃ (s : State) (j : Fin 16), (Tab.getD s.meter.pulses j.val {}).high = true ∧ s.r Reg.MET_PLS_WIDTH 0 j.val * 40 ≤ (Tab.getD
      s.meter.pulses j.val {}).since) :=
  ⟨⟨({ live with meter.ins := [(151, { clips := 4 })] } : State).w Reg.MET_IN_STATE 0 0 151, 151, by decide +kernel⟩,
   ⟨({ live with meter.ins := [(151, { good := 400 })] } : State).w Reg.MET_IN_STATE 3 0 151, 151, by decide +kernel⟩,
   ⟨{ live with meter.dc := [(31, { beyond := 100 })] }, 31, by decide +kernel⟩,
   ⟨{ live with meter.dc := [(31, { within := 100, splice := true })] }, 31, by decide +kernel⟩,
   ⟨({ live with meter.pulses := [(15, { since := 65000 })] } : State).w Reg.MET_PLS_BACKLOG 1 0 15, 15, by decide +kernel⟩,
   ⟨{ live with meter.pulses := [(15, { high := true, since := 65000 })] }, 15, by decide +kernel⟩⟩

theorem witness_LineCycles :
    (∃ (s : State) (p : Fin 8) (c : Cycle) (rest : List Cycle), (s.acI p.val).closed = c :: rest ∧ (c.ys.any fun y => decide (y.getD
      10 0 ≠ 0)) = true) ∧
    (∃ (s : State) (p : Fin 8) (c : Cycle) (rest : List Cycle), (s.acI p.val).closed = c :: rest ∧ (c.ys.any fun y => decide (y.getD
      10 0 ≠ 0)) = false ∧ s.metering = true ∧ (∀ r, r < 7 → s.acc p.val r + (s.r Reg.MPT_REM p.val r + (fun r => if r = 0 then
      (c.ys.foldl (fun t y => (List.range 3).foldl (fun t i => t + y.getD i 0 * y.getD (i + 3) 0) t) 0 : Int).toNat else if r = 1
      then (-(c.ys.foldl (fun t y => (List.range 3).foldl (fun t i => t + y.getD i 0 * y.getD (i + 3) 0) t) 0 : Int)).toNat else if
      r = 2 + (if 0 ≤ (c.ys.foldl (fun t y => (List.range 3).foldl (fun t i => t + y.getD i 0 * y.getD (i + 3) 0) t) 0 : Int) then
      (if 0 ≤ ((List.range 3).foldl (fun t i => t + reactive (c.ys.map (fun y => (y.getD i 0, y.getD (i + 3) 0)))) 0 : Int) then 0
      else 3) else (if 0 ≤ ((List.range 3).foldl (fun t i => t + reactive (c.ys.map (fun y => (y.getD i 0, y.getD (i + 3) 0)))) 0 :
      Int) then 1 else 2) : Nat) then ((List.range 3).foldl (fun t i => t + reactive (c.ys.map (fun y => (y.getD i 0, y.getD (i + 3)
      0)))) 0 : Int).natAbs else if r = 6 then ((List.range 3).foldl (fun t i => t + apparent ((fun i => sum53 (c.ys.map (fun y =>
      (y.getD i 0).natAbs ^ 2))) i) ((fun i => sum53 (c.ys.map (fun y => (y.getD i 0).natAbs ^ 2))) (i + 3))) 0 : Nat) else 0 : Nat
      → Nat) r) / 144000000 < 2 ^ 64 - 1)) ∧
    (∃ (s : State) (p : Fin 8), 50 ≤ (s.acI p.val).beyond ∧ (s.acI p.val).neutral = false) ∧
    (∃ (s : State) (p : Fin 8), 50 ≤ (s.acI p.val).within ∧ (s.acI p.val).neutral = true) ∧
    (∃ (s : State) (l : Fin 8), s.running = true ∧ s.rbit Reg.CHAIN_CHILD_MASK l.val = true) :=
  ⟨⟨{ live with meter.ac := [(7, { closed := [{ ys := [[1, 0, 0, 1, 0, 0, 0, 0, 0, 0, 1]] }] })] }, 7,
    { ys := [[1, 0, 0, 1, 0, 0, 0, 0, 0, 0, 1]] }, [], by decide +kernel⟩,
   ⟨({ live with meter.ac := [(7, { closed := [{ ys := [[20000, 0, 0, 20000, 0, 0, 0, 0, 0, 0, 0]] }] })] } : State).w Reg.MET_STATE
     2, 7, { ys := [[20000, 0, 0, 20000, 0, 0, 0, 0, 0, 0, 0]] }, [], by decide +kernel⟩,
   ⟨({ live with meter.ac := [(7, { beyond := 50 })] } : State).w Reg.TAMP_RESPONSE 0 8, 7, by decide +kernel⟩,
   ⟨{ live with meter.ac := [(7, { within := 50, neutral := true })] }, 7, by decide +kernel⟩,
   ⟨live.wbit Reg.CHAIN_CHILD_MASK 7 true, 7, by decide +kernel⟩⟩

theorem witness_EbbSequence :
    (∃ (s : State) (b : BitVec 2), s.running = true ∧ s.meter.ebb = none ∧ b ≠ 0) ∧
    (∃ (s : State) (a : Nat), s.meter.ebb = some a ∧ s.running = true ∧ s.meter.snaps ≠ 0 ∧ a + 40 * s.meter.snaps ≤ s.now) ∧
    (∃ (s : State), s.meter.snapDue = true ∧ s.legalStore = true) ∧
    (∃ (s : State), s.meter.ebb.isSome = true ∧ 400 ≤ s.meter.highFor) :=
  ⟨⟨live.w Reg.TAMP_RESPONSE 0 11, 2, by decide +kernel⟩,
   ⟨{ live with meter.ebb := some 1, meter.snaps := 1, waves := 41 }, 1, by decide +kernel⟩,
   ⟨({ live with meter.snapDue := true } : State).w Reg.DEV_LIFECYCLE 3, by decide +kernel⟩,
   ⟨{ live with meter.ebb := some 1, meter.highFor := 400 }, by decide +kernel⟩⟩

theorem witness_TamperResponses :
    (∃ (s : State) (c : Fin 8), s.rb Reg.TAMP_TAMP_EN c.val = true ∧ s.rb Reg.TAMP_ACTIVE c.val = false ∧ (s.alive = true ∨ s.phase
      = .retired ∨ s.phase = .strand) ∧ s.r Reg.TAMP_RESPONSE c.val ≠ 2) ∧
    (∃ (s : State) (c : Fin 8), s.rb Reg.TAMP_TAMP_EN c.val = true ∧ s.rb Reg.TAMP_ACTIVE c.val = false ∧ (s.alive = true ∨ s.phase
      = .retired ∨ s.phase = .strand) ∧ s.r Reg.TAMP_RESPONSE c.val = 2) ∧
    (∃ (s : State) (c : Fin 8), s.rb Reg.TAMP_TAMP_EN c.val = true ∧ s.rb Reg.TAMP_ACTIVE c.val = false ∧ s.alive = false ∧ s.phase
      ≠ .retired ∧ s.phase ≠ .strand ∧ s.r Reg.TAMP_RESPONSE c.val = 2) ∧
    (∃ (s : State) (c : Fin 8), s.rb Reg.TAMP_TAMP_EN c.val = true ∧ s.r Reg.TAMP_ACTIVE c.val = 1) ∧
    (∃ (s : State) (c : Fin 16), s.rb Reg.TAMP_SEAL_CLR c.val = true ∧ s.rb Reg.TAMP_SEALED c.val = true) ∧
    (∃ (s : State) (c : Fin 16), s.rb Reg.TAMP_SEAL_CLR c.val = true ∧ s.rb Reg.TAMP_SEALED c.val = false) :=
  ⟨⟨live.w Reg.TAMP_TAMP_EN 1 7 |>.w Reg.TAMP_RESPONSE 0 7, 7, by decide +kernel⟩,
   ⟨live.w Reg.TAMP_TAMP_EN 1 7 |>.w Reg.TAMP_RESPONSE 2 7, 7, by decide +kernel⟩,
   ⟨(at_ .reset).w Reg.TAMP_TAMP_EN 1 7 |>.w Reg.TAMP_RESPONSE 2 7, 7, by decide +kernel⟩,
   ⟨live.w Reg.TAMP_TAMP_EN 1 7 |>.w Reg.TAMP_ACTIVE 1 7, 7, by decide +kernel⟩,
   ⟨live.w Reg.TAMP_SEAL_CLR 1 15 |>.w Reg.TAMP_SEALED 1 15, 15, by decide +kernel⟩,
   ⟨live.w Reg.TAMP_SEAL_CLR 1 15, 15, by decide +kernel⟩⟩

theorem witness_BillingTimeAndCredit :
    (∃ (s : State) (e : Env) (i set : Nat), s.admits e 1 i ∧ s.setRefused set = false) ∧
    (∃ (s : State) (e : Env) (i set : Nat), s.admits e 1 i ∧ s.setRefused set = true) ∧
    (∃ (s : State), s.running = true) ∧
    (∃ (s : State), s.running = true) ∧
    (∃ (s : State) (n : Fin 32) (seq : BitVec 16) (k : Fin 12) (port : Fin 48) (node : Fin 16), s.running = true ∧
      s.decl.keypads.find? (fun p => decide (p.1 = n.val)) = some (n.val, port.val, node.val) ∧ 1 ≤ node.val ∧ node.val ≤ 8 ∧
      Tab.find s.links.keySeq n.val ≠ some seq.toNat ∧ k.val < 10) ∧
    (∃ (s : State) (n : Fin 32) (seq : BitVec 16) (k : Fin 12) (port : Fin 48) (node : Fin 16), s.running = true ∧
      s.decl.keypads.find? (fun p => decide (p.1 = n.val)) = some (n.val, port.val, node.val) ∧ 1 ≤ node.val ∧ node.val ≤ 8 ∧
      Tab.find s.links.keySeq n.val ≠ some seq.toNat ∧ k.val = 10) ∧
    (∃ (s : State) (n : Fin 32) (seq : BitVec 16) (k : Fin 12) (port : Fin 48) (node : Fin 16), s.running = true ∧
      s.decl.keypads.find? (fun p => decide (p.1 = n.val)) = some (n.val, port.val, node.val) ∧ 1 ≤ node.val ∧ node.val ≤ 8 ∧
      Tab.find s.links.keySeq n.val ≠ some seq.toNat ∧ k.val = 11) ∧
    (∃ (s : State) (n : Fin 32) (seq : BitVec 16) (port : Fin 48) (node : Fin 16), s.running = true ∧ s.decl.keypads.find? (fun p =>
      decide (p.1 = n.val)) = some (n.val, port.val, node.val) ∧ 1 ≤ node.val ∧ node.val ≤ 8 ∧ Tab.find s.links.keySeq n.val = some
      seq.toNat) ∧
    (∃ (s : State) (n : Fin 32) (a : Nat), Tab.find s.bill.keyAge n.val = some a ∧ s.r Reg.PREPAY_ENTRY_TIMEOUT < a) ∧
    (∃ (s : State) (n : Fin 32), s.bill.locked.contains n.val = true ∧ s.r Reg.PREPAY_KP_LOCK 0 n.val = 0) ∧
    (∃ (digits : List Nat), digits.length ≠ 20) ∧
    (∃ (m : Nat), m < 32) ∧
    (∃ (s : State) (n : Fin 32) (tok : Nat), s.authRefused = none ∧ tok / 131072 % 8 = 0 ∧ s.sess n.val = 2 ∧ (s.conn n.val).token =
      some (tok / 1048576 % 1048576) ∧ (s.conn n.val).tokenDone = false) ∧
    (∃ (s : State) (tok m : Nat), s.authRefused = none ∧ tok / 131072 % 8 ≠ 0 ∧ s.ri Reg.PREPAY_BALANCE + (tok % 131072 * 1000 :
      Nat) ≤ 2147483647 ∧ m < 32) :=
  ⟨⟨srv, env, 31, 1704067200000, ⟨by decide +kernel, by decide +kernel, by rfl⟩, by decide +kernel⟩,
   ⟨srv, env, 31, 1704067199999, ⟨by decide +kernel, by decide +kernel, by rfl⟩, by decide +kernel⟩,
   ⟨live, by decide +kernel⟩,
   ⟨(placed { keypads := [(31, 47, 15)] }), by decide +kernel⟩,
   ⟨(placed { keypads := [(31, 47, 8)] }), 31, 1, 9, 47, 8, by decide +kernel⟩,
   ⟨(placed { keypads := [(31, 47, 8)] }), 31, 1, 10, 47, 8, by decide +kernel⟩,
   ⟨(placed { keypads := [(31, 47, 8)] }), 31, 1, 11, 47, 8, by decide +kernel⟩,
   ⟨{ (placed { keypads := [(31, 47, 8)] }) with links.keySeq := [(31, 1)] }, 31, 1, 47, 8, by decide +kernel⟩,
   ⟨{ live with bill.keyAge := [(31, 100000)] }, 31, 100000, by decide +kernel⟩,
   ⟨{ live with bill.locked := [31] }, 31, by decide +kernel⟩,
   ⟨[], by decide +kernel⟩,
   ⟨1, by decide +kernel⟩,
   ⟨({ live with session.conns := [(31, { token := some (1 / 1048576 % 1048576) })] } : State).w Reg.SESS_STATE 2 31, 31, 1, by
     decide +kernel⟩,
   ⟨live, 0x32305, 1, by decide +kernel⟩⟩

theorem witness_ThermalStates :
    (∃ (s : State) (b w : Nat), s.therm.rise = some (b, w) ∧ w ≤ s.now) ∧
    (∃ (s : State), s.r Reg.THERM_STATE = 1 ∧ 100 ≤ s.therm.cool ∧ s.therm.lowDue = false) ∧
    (∃ (s : State), s.running = true ∧ s.wave = 0 ∧ s.r Reg.THERM_STATE = 1 ∧ s.therm.lowDue = true) ∧
    (∃ (s : State), s.running = true ∧ s.r Reg.THERM_STATE = 2 ∧ s.therm.saved = false ∧ s.matrixOpen = true) ∧
    (∃ (s : State), s.running = true ∧ s.wave = 0 ∧ s.r Reg.THERM_STATE = 2 ∧ 100 ≤ s.therm.cool ∧ s.therm.saved = true) :=
  ⟨⟨{ live with therm.rise := some (1, 0) }, 1, 0, by decide +kernel⟩,
   ⟨({ live with therm.cool := 100 } : State).w Reg.THERM_STATE 1, by decide +kernel⟩,
   ⟨({ live with therm.lowDue := true } : State).w Reg.THERM_STATE 1, by decide +kernel⟩,
   ⟨live.w Reg.THERM_STATE 2, by decide +kernel⟩,
   ⟨({ live with therm.cool := 100, therm.saved := true } : State).w Reg.THERM_STATE 2, by decide +kernel⟩⟩

theorem witness_Supplies :
    (∃ (s : State), s.alive = true ∧ s.rb Reg.LEDGE_HOLD_EN = true ∧ 6000 ≤ s.therm.holdAge) ∧
    (∃ (mv : Fin 4096), mv.val < 2600) :=
  ⟨⟨({ live with therm.holdAge := 6000 } : State).w Reg.LEDGE_HOLD_EN 1, by decide +kernel⟩,
   ⟨2599, by decide +kernel⟩⟩

theorem witness_FloodRole :
    (∃ (s : State), s.r Reg.PAIR_ROLE = 1 ∧ s.phase = .join ∧ s.rb Reg.PAIR_SOLO_START = true ∧ s.r Reg.PAIR_UNIT = 0 ∧ s.wave = 0 ∧
      300 ≤ s.start.joinTides ∧ 300 ≤ s.r Reg.PAIR_LH_MISS) ∧
    (∃ (s : State) (c : Nat), s.pair.claimDue = some c ∧ s.r Reg.PAIR_ROLE = 1 ∧ s.phase = .join ∧ s.wave = 0 ∧ (s.r Reg.PAIR_UNIT =
      0 ∨ s.rb Reg.PAIR_FLOOD_IN = false)) ∧
    (∃ (s : State) (c : Nat), s.pair.claimDue = some c ∧ s.r Reg.PAIR_ROLE = 3 ∧ s.running = true ∧ s.wave = 0 ∧ s.healthy = true ∧
      (s.r Reg.PAIR_UNIT = 0 ∨ s.r Reg.PAIR_UNIT = 1 ∧ s.rb Reg.PAIR_FLOOD_IN = false)) ∧
    (∃ (s : State) (c : Nat), s.pair.claimDue = some c ∧ s.r Reg.PAIR_ROLE = 3 ∧ s.running = true ∧ s.wave = 0 ∧ s.healthy = false)
      ∧
    (∃ (s : State), s.r Reg.PAIR_ROLE = 3 ∧ s.running = true ∧ s.r Reg.PAIR_UNIT = 0 ∧ s.wave = 0 ∧ s.rb Reg.PAIR_TAKEBACK_EN = true
      ∧ s.r Reg.PAIR_TAKEBACK_TIDES ≤ s.r Reg.PAIR_PASS_TIDES ∧ s.r Reg.MTX_PENDING = 0 ∧ (s.rb Reg.PAIR_TAKEBACK_IDLE = true →
      s.anyEnergised = false)) ∧
    (∃ (s : State) (n : Nat), (∀ n, n < 32 → s.connCut n = false) ∧ n < 32 ∧ (s.sess n = 7 ∨ s.sess n = 8)) ∧
    (∃ (s : State) (c : Nat), s.pair.yieldDue = some c ∧ s.r Reg.PAIR_ROLE = 2 ∧ s.running = true ∧ s.wave = 0) ∧
    (∃ (s : State), s.r Reg.PAIR_HANDOVER = 0xA5 ∧ s.wave = 0 ∧ s.r Reg.PAIR_ROLE = 2 ∧ s.running = true) ∧
    (∃ (s : State), s.r Reg.PAIR_HANDOVER = 0xA5 ∧ s.wave = 0 ∧ (s.r Reg.PAIR_ROLE ≠ 2 ∨ s.running = false)) ∧
    (∃ (s : State), s.r Reg.PAIR_ROLE = 4 ∧ s.running = true ∧ s.r Reg.PAIR_YIELD_MAX ≤ s.pair.yieldWaves ∧ s.rb Reg.PAIR_FLOOD_IN =
      false ∧ s.wave = 0) ∧
    (∃ (s : State), s.clocked = true ∧ s.rb Reg.PAIR_FLOOD_IN = false ∧ s.rb Reg.PAIR_FLOOD_OUT = false) ∧
    (∃ (s : State), s.clocked = true ∧ s.rb Reg.PAIR_FLOOD_IN = false ∧ s.rb Reg.PAIR_FLOOD_OUT = true ∧ s.r Reg.PAIR_UNIT = 0) ∧
    (∃ (s : State), s.clocked = true ∧ s.rb Reg.PAIR_FLOOD_IN = false ∧ s.rb Reg.PAIR_FLOOD_OUT = true ∧ s.r Reg.PAIR_UNIT = 1) ∧
    (∃ (s : State), s.rb Reg.PAIR_FLOOD_IN = true) :=
  ⟨⟨({ (at_ .join) with start.joinTides := 300 } : State).w Reg.PAIR_ROLE 1 |>.w Reg.PAIR_SOLO_START 1 |>.w Reg.PAIR_LH_MISS 300, by
    decide +kernel⟩,
   ⟨({ (at_ .join) with pair.claimDue := some 1 } : State).w Reg.PAIR_ROLE 1 |>.w Reg.PAIR_UNIT 0, 1, by decide +kernel⟩,
   ⟨({ live with pair.claimDue := some 1 } : State).w Reg.PAIR_ROLE 3 |>.w Reg.PAIR_UNIT 0 |>.wbit Reg.PAIR_HEALTH 0 true, 1, by
     decide +kernel⟩,
   ⟨({ live with pair.claimDue := some 1 } : State).w Reg.PAIR_ROLE 3 |>.w Reg.PAIR_TAKEBACK_TIDES 100 |>.w Reg.PAIR_PASS_TIDES 100,
     1, by decide +kernel⟩,
   ⟨live.w Reg.PAIR_ROLE 3 |>.w Reg.PAIR_UNIT 0 |>.w Reg.PAIR_TAKEBACK_EN 1 |>.w Reg.PAIR_TAKEBACK_TIDES 100 |>.w
     Reg.PAIR_PASS_TIDES 100, by decide +kernel⟩,
   ⟨live.w Reg.SESS_STATE 7 1, 1, by decide +kernel⟩,
   ⟨({ live with pair.yieldDue := some 1 } : State).w Reg.PAIR_ROLE 2, 1, by decide +kernel⟩,
   ⟨live.w Reg.PAIR_HANDOVER 0xA5 |>.w Reg.PAIR_ROLE 2, by decide +kernel⟩,
   ⟨live.w Reg.PAIR_HANDOVER 0xA5, by decide +kernel⟩,
   ⟨({ live with pair.yieldWaves := 1000000 } : State).w Reg.PAIR_ROLE 4, by decide +kernel⟩,
   ⟨{ live with pins.refclk := true }, by decide +kernel⟩,
   ⟨({ live with pins.refclk := true } : State).w Reg.PAIR_FLOOD_OUT 1, by decide +kernel⟩,
   ⟨({ live with pins.refclk := true } : State).w Reg.PAIR_FLOOD_OUT 1 |>.w Reg.PAIR_UNIT 1, by decide +kernel⟩,
   ⟨live.w Reg.PAIR_FLOOD_IN 1, by decide +kernel⟩⟩

theorem witness_HealthLightAndMirror :
    (∃ (s : State) (l : Fin 8), s.alive = true ∧ s.paired = true ∧ l.val = s.r Reg.PAIR_PAIR_LINK) ∧
    (∃ (s : State) (l : Fin 8) (k : Nat), s.alive = true ∧ (s.paired = false ∨ l.val ≠ s.r Reg.PAIR_PAIR_LINK) ∧ s.pairAt l.val =
      some k) ∧
    (∃ (s : State) (k : Nat) (x : LhPos), s.alive = true ∧ s.wave = 0 ∧ Tab.find s.pair.lh k = some x ∧ (x.flood = 0xFF ∨ x.miss <
      3)) ∧
    (∃ (s : State) (k : Nat) (x : LhPos), s.alive = true ∧ s.wave = 0 ∧ Tab.find s.pair.lh k = some x ∧ x.flood ≠ 0xFF ∧ 3 ≤ x.miss
      ∧ (Tab.find x.health (1 - x.flood)).any (fun h => h.flags.getLsbD 0) = true) ∧
    (∃ (s : State) (k : Nat) (x : LhPos), s.alive = true ∧ s.wave = 0 ∧ Tab.find s.pair.lh k = some x ∧ x.flood ≠ 0xFF ∧ 3 ≤ x.miss
      ∧ (Tab.find x.health (1 - x.flood)).any (fun h => h.flags.getLsbD 0) = false) ∧
    (∃ (s : State) (l : Fin 8) (q : LightRec), s.alive = true ∧ s.paired = true ∧ l.val = s.r Reg.PAIR_LH_LINK ∧ q.grant = true ∧
      (s.r Reg.PAIR_ROLE = 1 ∨ s.r Reg.PAIR_ROLE = 3) ∧ s.pair.noticed = false) ∧
    (∃ (s : State) (l : Fin 8) (q : LightRec), s.alive = true ∧ s.paired = true ∧ l.val = s.r Reg.PAIR_LH_LINK ∧ s.r Reg.PAIR_ROLE =
      2 ∧ q.flood = 1 - s.r Reg.PAIR_UNIT) ∧
    (∃ (s : State) (l : Fin 8) (q : LightRec), s.alive = true ∧ s.paired = true ∧ l.val = s.r Reg.PAIR_LH_LINK ∧ (q.grant = false ∨
      s.pair.noticed = true ∨ s.r Reg.PAIR_ROLE = 4) ∧ (s.r Reg.PAIR_ROLE ≠ 2 ∨ q.flood ≠ 1 - s.r Reg.PAIR_UNIT)) ∧
    (∃ (s : State), s.paired = true ∧ 3 ≤ s.r Reg.PAIR_LH_MISS) ∧
    (∃ (s : State) (l : Fin 8), s.running = true ∧ s.r Reg.PAIR_ROLE = 3 ∧ l.val = s.r Reg.PAIR_PAIR_LINK) ∧
    (∃ (s : State) (l : Fin 8) (m : Mirror), s.running = true ∧ s.r Reg.PAIR_ROLE = 3 ∧ l.val = s.r Reg.PAIR_PAIR_LINK ∧
      m.fwSvn.toNat ≠ s.r Reg.DEV_FW_SVN) ∧
    (∃ (s : State) (l : Fin 8) (m : Mirror), s.running = true ∧ s.r Reg.PAIR_ROLE = 3 ∧ l.val = s.r Reg.PAIR_PAIR_LINK ∧
      m.fwSvn.toNat = s.r Reg.DEV_FW_SVN ∧ m.full = true) ∧
    (∃ (s : State) (l : Fin 8) (m : Mirror), s.running = true ∧ s.r Reg.PAIR_ROLE = 3 ∧ l.val = s.r Reg.PAIR_PAIR_LINK ∧
      m.fwSvn.toNat = s.r Reg.DEV_FW_SVN ∧ m.full = false) ∧
    (∃ (s : State) (n : Fin 32) (k : Nat), Tab.find s.pair.resume n.val = some k ∧ k < s.r Reg.PAIR_RESUME_WAIT) ∧
    (∃ (s : State) (n : Fin 32) (k : Nat), Tab.find s.pair.resume n.val = some k ∧ s.r Reg.PAIR_RESUME_WAIT ≤ k ∧ s.sess n.val = 8 ∧
      (s.conn n.val).stopped = false ∧ s.connCut n.val = false) :=
  ⟨⟨live.w Reg.PAIR_ROLE 2 |>.w Reg.PAIR_PAIR_LINK 7, 7, by decide +kernel⟩,
   ⟨(placed { witness := some 4 }), 7, 4, by decide +kernel⟩,
   ⟨{ live with pair.lh := [(1, { miss := 2, flood := 0 })] }, 1, { miss := 2, flood := 0 }, by decide +kernel⟩,
   ⟨{ live with pair.lh := [(1, { miss := 3, flood := 0, health := [(1, health)] })] }, 1,
     { miss := 3, flood := 0, health := [(1, health)] }, by decide +kernel⟩,
   ⟨{ live with pair.lh := [(1, { miss := 3, flood := 1 })] }, 1, { miss := 3, flood := 1 }, by decide +kernel⟩,
   ⟨live.w Reg.PAIR_ROLE 1 |>.w Reg.PAIR_LH_LINK 7, 7, ⟨1, 0, true, 0⟩, by decide +kernel⟩,
   ⟨live.w Reg.PAIR_ROLE 2 |>.w Reg.PAIR_LH_LINK 7, 7, ⟨1, 1, false, 0⟩, by decide +kernel⟩,
   ⟨live.w Reg.PAIR_ROLE 2 |>.w Reg.PAIR_LH_LINK 7 |>.w Reg.PAIR_UNIT 1, 7, light0, by decide +kernel⟩,
   ⟨live.w Reg.PAIR_LH_MISS 3 |>.w Reg.PAIR_ROLE 2, by decide +kernel⟩,
   ⟨live.w Reg.PAIR_ROLE 3 |>.w Reg.PAIR_PAIR_LINK 7, 7, by decide +kernel⟩,
   ⟨live.w Reg.PAIR_ROLE 3 |>.w Reg.PAIR_PAIR_LINK 7 |>.w Reg.DEV_FW_SVN 4, 7, mirror, by decide +kernel⟩,
   ⟨live.w Reg.PAIR_ROLE 3 |>.w Reg.PAIR_PAIR_LINK 7 |>.w Reg.DEV_FW_SVN 3, 7, mirror, by decide +kernel⟩,
   ⟨live.w Reg.PAIR_ROLE 3 |>.w Reg.PAIR_PAIR_LINK 7 |>.w Reg.DEV_FW_SVN 3, 7,
     { mirror with full := false, window := [(9, 5, 0, none)] }, by decide +kernel⟩,
   ⟨({ live with pair.resume := [(31, 1)] } : State).w Reg.PAIR_RESUME_WAIT 2, 31, 1, by decide +kernel⟩,
   ⟨({ live with pair.resume := [(31, 10000000)] } : State).w Reg.SESS_STATE 8 31, 31, 10000000, by decide +kernel⟩⟩

theorem witness_KeyOperations :
    (∃ (s : State) (e : Env) (i : Nat) (a : KeyAttrs), s.admits e 3 i ∧ a.type ≤ 3 ∧ s.keyCheck a a.survive = none) ∧
    (∃ (s : State) (e : Env) (i : Nat) (a : KeyAttrs) (c : Nat), s.admits e 3 i ∧ a.type ≠ 4 ∧ s.keyCheck a a.survive = some c) ∧
    (∃ (s : State) (e : Env) (i : Nat) (a : KeyAttrs), s.admits e 3 i ∧ a.type = 4) ∧
    (∃ (s : State) (e : Env) (i : Nat) (a : KeyAttrs) (anchor : Bool) (pub : List Byte), s.admits e 3 i ∧ a.type = 4 ∧ s.keyCheck a
      a.survive = none ∧ pub.length = 96 ∧ (anchor = true → s.r Reg.KEY_ANCHORS < 16)) ∧
    (∃ (s : State) (e : Env) (i : Nat) (a : KeyAttrs) (pub : List Byte), s.admits e 3 i ∧ a.type = 4 ∧ s.keyCheck a a.survive = none
      ∧ pub.length ≠ 96) ∧
    (∃ (s : State) (e : Env) (i : Nat) (a : KeyAttrs) (anchor : Bool) (pub : List Byte), s.admits e 3 i ∧ a.type = 4 ∧ s.keyCheck a
      a.survive = none ∧ pub.length = 96 ∧ anchor = true ∧ 16 ≤ s.r Reg.KEY_ANCHORS) ∧
    (∃ (s : State) (e : Env) (i : Nat) (a : KeyAttrs) (w : KeyWrap), s.admits e 3 i ∧ a.type ≤ 3 ∧ s.keyCheck a a.survive = none ∧
      s.keyState 6 = 1 ∧ s.r Reg.KEY_USAGE 0 6 = 3 ∧ s.r Reg.KEY_LIMIT 0 6 ≠ 1 ∧ w.qe.length = 96) ∧
    (∃ (s : State) (e : Env) (i parent : Nat) (label ctx : List Byte) (a : KeyAttrs), s.admits e 3 i ∧ parent ≤ 511 ∧ label ≠ [] ∧
      label.length ≤ 32 ∧ ctx.length ≤ 64 ∧ a.type ≠ 4 ∧ parent ≠ 1 ∧ s.keyState parent = 1 ∧ s.r Reg.KEY_USAGE 0 parent = 4 ∧ s.r
      Reg.KEY_LIMIT 0 parent ≠ 1 ∧ s.r Reg.KEY_DEPTH 0 parent < 15 ∧ s.keyCheck a (s.rb Reg.KEY_SURVIVE 0 parent) = none) ∧
    (∃ (s : State) (e : Env) (i parent : Nat) (label ctx : List Byte) (a : KeyAttrs), s.admits e 3 i ∧ parent ≤ 511 ∧ label ≠ [] ∧
      label.length ≤ 32 ∧ ctx.length ≤ 64 ∧ a.type ≠ 4 ∧ parent = 1) ∧
    (∃ (s : State) (e : Env) (i parent : Nat) (label ctx : List Byte) (a : KeyAttrs), s.admits e 3 i ∧ parent ≤ 511 ∧ label ≠ [] ∧
      label.length ≤ 32 ∧ ctx.length ≤ 64 ∧ a.type ≠ 4 ∧ parent ≠ 1 ∧ s.keyState parent ≠ 1) ∧
    (∃ (s : State) (e : Env) (i slot : Nat), s.admits e 1 i ∧ (8 ≤ slot ∧ slot ≤ 511 ∨ slot = 0x3FF)) ∧
    (∃ (s : State) (e : Env) (i slot : Nat), s.admits e 1 i ∧ (slot < 8 ∨ 511 < slot ∧ slot ≠ 0x3FF)) ∧
    (∃ (s : State) (k d : Nat), s.r Reg.KEY_INVALIDATE = k ∧ k < 512 ∧ s.keyState k = 1 ∧ 8 ≤ d ∧ d < 512 ∧ d ≠ k ∧ s.keyState d = 1
      ∧ s.r Reg.KEY_PARENT 0 d ≠ 511 ∧ s.r Reg.KEY_PARENT_TAG 0 d = s.r Reg.KEY_TAG 0 k) ∧
    (∃ (s : State) (e : Env) (i slot : Nat), s.admits e 3 i ∧ slot ≤ 511 ∧ s.keyState slot = 1 ∧ (s.r Reg.KEY_TYPE 0 slot = 3 ∨ s.r
      Reg.KEY_TYPE 0 slot = 4)) ∧
    (∃ (s : State) (e : Env) (i slot : Nat), s.admits e 3 i ∧ slot ≤ 511 ∧ s.keyState slot = 1 ∧ s.r Reg.KEY_TYPE 0 slot ≤ 2) ∧
    (∃ (s : State) (e : Env) (i slot : Nat), s.admits e 3 i ∧ slot ≤ 511 ∧ s.keyState slot ≠ 1) ∧
    (∃ (s : State) (e : Env) (i : Nat), s.admits e 3 i ∧ s.keyState 1 = 1) ∧
    (∃ (s : State) (e : Env) (i : Nat), s.admits e 3 i ∧ s.keyState 1 ≠ 1) ∧
    (∃ (s : State) (e : Env) (i : Nat) (l : List Nat), s.admits e 3 i ∧ l.length ≤ 4096) ∧
    (∃ (s : State) (e : Env) (i : Nat) (l : List Nat), s.admits e 3 i ∧ 4096 < l.length) ∧
    (∃ (s : State) (l : List Nat), s.vault.denyDue = some l) ∧
    (∃ (s : State) (o : VaultOp) (rest : List VaultOp), s.vault.ops = o :: rest ∧ o.aborted = false ∧ (o.last = false ∨ s.r
      Reg.KEY_TAG 0 o.slot ≠ o.tag)) ∧
    (∃ (s : State) (o : VaultOp) (rest : List VaultOp), s.vault.ops = o :: rest ∧ o.aborted = false ∧ o.last = true ∧ s.r
      Reg.KEY_TAG 0 o.slot = o.tag ∧ o.slot < 512 ∧ s.keyState o.slot = 1) ∧
    (∃ (s : State) (e : Env) (i : Nat) (ch : List Byte), s.admits e 0 i ∧ ch.length = 32 ∧ s.keyState 4 = 1) ∧
    (∃ (s : State) (e : Env) (i : Nat) (ch : List Byte), s.admits e 0 i ∧ ch.length = 32 ∧ s.keyState 4 ≠ 1) ∧
    (∃ (s : State) (e : Env) (i : Nat) (ch : List Byte), s.admits e 0 i ∧ ch.length ≠ 32) :=
  ⟨⟨srv, env, 31, attrs, ⟨by decide +kernel, by decide +kernel, by rfl⟩, by decide +kernel⟩,
   ⟨srv, env, 31, { attrs with usage := 4 }, 0x1402, ⟨by decide +kernel, by decide +kernel, by rfl⟩, by decide +kernel⟩,
   ⟨srv, env, 31, { attrs with type := 4, usage := 6 }, ⟨by decide +kernel, by decide +kernel, by rfl⟩, by decide +kernel⟩,
   ⟨srv, env, 31, { attrs with type := 4, usage := 6 }, false, List.replicate 96 1, ⟨by decide +kernel, by decide +kernel, by rfl⟩,
     by decide +kernel⟩,
   ⟨srv, env, 31, { attrs with type := 4, usage := 6 }, [], ⟨by decide +kernel, by decide +kernel, by rfl⟩, by decide +kernel⟩,
   ⟨srv.w Reg.KEY_ANCHORS 16, env, 31, { attrs with type := 4, usage := 6 }, true, List.replicate 96 1, ⟨by decide +kernel, by
     decide +kernel, by rfl⟩, by decide +kernel⟩,
   ⟨srv.w Reg.KEY_STATE 1 0 6 |>.w Reg.KEY_USAGE 3 0 6, env, 31, attrs, wrap0, ⟨by decide +kernel, by decide +kernel, by rfl⟩, by
     decide +kernel⟩,
   ⟨srv.w Reg.KEY_STATE 1 0 511 |>.w Reg.KEY_USAGE 4 0 511 |>.w Reg.KEY_LIMIT 0 0 511 |>.w Reg.KEY_DEPTH 14 0 511, env, 31, 511,
     [65], [], attrs, ⟨by decide +kernel, by decide +kernel, by rfl⟩, by decide +kernel⟩,
   ⟨srv, env, 31, 1, [65], [], attrs, ⟨by decide +kernel, by decide +kernel, by rfl⟩, by decide +kernel⟩,
   ⟨srv, env, 31, 511, [65], [], attrs, ⟨by decide +kernel, by decide +kernel, by rfl⟩, by decide +kernel⟩,
   ⟨srv, env, 31, 511, ⟨by decide +kernel, by decide +kernel, by rfl⟩, by decide +kernel⟩,
   ⟨srv, env, 31, 512, ⟨by decide +kernel, by decide +kernel, by rfl⟩, by decide +kernel⟩,
   ⟨live.w Reg.KEY_INVALIDATE 9 |>.w Reg.KEY_STATE 1 0 9 |>.w Reg.KEY_TAG 3 0 9 |>.w Reg.KEY_STATE 1 0 511 |>.w Reg.KEY_PARENT 9 0
     511 |>.w Reg.KEY_PARENT_TAG 3 0 511, 9, 511, by decide +kernel⟩,
   ⟨srv.w Reg.KEY_STATE 1 0 511 |>.w Reg.KEY_TYPE 3 0 511, env, 31, 511, ⟨by decide +kernel, by decide +kernel, by rfl⟩, by
     decide +kernel⟩,
   ⟨srv.w Reg.KEY_STATE 1 0 511 |>.w Reg.KEY_TYPE 2 0 511, env, 31, 511, ⟨by decide +kernel, by decide +kernel, by rfl⟩, by
     decide +kernel⟩,
   ⟨srv, env, 31, 511, ⟨by decide +kernel, by decide +kernel, by rfl⟩, by decide +kernel⟩,
   ⟨srv.w Reg.KEY_STATE 1 0 1, env, 31, ⟨by decide +kernel, by decide +kernel, by rfl⟩, by decide +kernel⟩,
   ⟨srv, env, 31, ⟨by decide +kernel, by decide +kernel, by rfl⟩, by decide +kernel⟩,
   ⟨srv, env, 31, [5], ⟨by decide +kernel, by decide +kernel, by rfl⟩, by decide +kernel⟩,
   ⟨srv, env, 31, List.replicate 4097 0, ⟨by decide +kernel, by decide +kernel, by rfl⟩, by decide +kernel⟩,
   ⟨{ live with vault.denyDue := some [5] }, [5], by decide +kernel⟩,
   ⟨{ live with vault.ops := [{ vop with last := false }] }, { vop with last := false }, [], by decide +kernel⟩,
   ⟨({ live with vault.ops := vop :: [] } : State).w Reg.KEY_STATE 1 0 511, vop, [], by decide +kernel⟩,
   ⟨srv.w Reg.KEY_STATE 1 0 4, env, 31, List.replicate 32 7, ⟨by decide +kernel, by decide +kernel, by rfl⟩, by decide +kernel⟩,
   ⟨srv, env, 31, List.replicate 32 7, ⟨by decide +kernel, by decide +kernel, by rfl⟩, by decide +kernel⟩,
   ⟨srv, env, 31, [7], ⟨by decide +kernel, by decide +kernel, by rfl⟩, by decide +kernel⟩⟩

theorem witness_OtpProgramming :
    (∃ (s : State) (e : Env) (i block g : Nat) (payload : List Byte), s.admits e 4 i ∧ 2 ≤ block ∧ block ≤ 5 ∧ s.unspent block =
      some g ∧ s.progAllowed block g = true ∧ s.otp.prog = none ∧ s.otpConditions = false ∧ payload.length ≤ genSize block - 12) ∧
    (∃ (s : State) (e : Env) (i block g : Nat), s.admits e 4 i ∧ 2 ≤ block ∧ block ≤ 5 ∧ s.unspent block = some g ∧ s.progAllowed
      block g = true ∧ s.otp.prog = none ∧ s.otpConditions = true) ∧
    (∃ (s : State) (e : Env) (i block g : Nat) (payload : List Byte), s.admits e 4 i ∧ 2 ≤ block ∧ block ≤ 5 ∧ s.unspent block =
      some g ∧ s.progAllowed block g = true ∧ s.otp.prog = none ∧ s.otpConditions = false ∧ genSize block - 12 < payload.length) ∧
    (∃ (s : State) (p : OtpProg), s.otp.prog = some p ∧ 2 ≤ p.block ∧ p.block ≤ 5 ∧ p.gen < 4) ∧
    (∃ (s : State), s.r Reg.OTP_RETIRE ≠ 0 ∧ s.retireRefused (s.r Reg.OTP_RETIRE) = true) ∧
    (∃ (s : State), s.r Reg.OTP_RETIRE ≠ 0 ∧ s.retireRefused (s.r Reg.OTP_RETIRE) = false) :=
  ⟨⟨srv.w Reg.DEV_LIFECYCLE 3, env, 31, 5, 0, [], ⟨by decide +kernel, by decide +kernel, by rfl⟩, by decide +kernel⟩,
   ⟨srv.w Reg.DEV_LIFECYCLE 3 |>.w Reg.THERM_BAND 3, env, 31, 5, 0, ⟨by decide +kernel, by decide +kernel, by rfl⟩, by
     decide +kernel⟩,
   ⟨srv.w Reg.DEV_LIFECYCLE 3, env, 31, 5, 0, List.replicate 117 0, ⟨by decide +kernel, by decide +kernel, by rfl⟩, by
     decide +kernel⟩,
   ⟨{ live with otp.prog := some prog0 }, prog0, by decide +kernel⟩,
   ⟨live.w Reg.OTP_RETIRE 1, by decide +kernel⟩,
   ⟨live.w Reg.OTP_RETIRE 0x10000 |>.w Reg.OTP_SPENT 0x10000, by decide +kernel⟩⟩

theorem witness_SwitchFrames :
    (∃ (s : State) (p : Fin 17) (f : TsnFrame), s.alive = true ∧ s.tsnUp p.val = true ∧ p.val < 16 ∧ (f.fcsOk = false ∨ f.len < 64 ∨
      1522 < f.len)) ∧
    (∃ (s : State) (p : Fin 17) (f : TsnFrame) (e : _) (q : Nat), s.alive = true ∧ s.tsnUp p.val = true ∧ (p.val = 16 ∨ f.fcsOk =
      true ∧ 64 ≤ f.len ∧ f.len ≤ 1522) ∧ p.val ∈ s.vlanPorts (vidOf s p.val f) ∧ s.decl.fdbStatic.find? (fun e => decide (e.1 =
      (vidOf s p.val f) ∧ e.2.1 = f.dst.toNat)) = some e ∧ (s.vlanPorts (vidOf s p.val f)).filter (fun k => decide (k ≠ p.val ∧ k <
      16) && e.2.2.getLsbD k) = [q] ∧ s.tsnUp q = true ∧ s.tsnRoom q (clsOf f) f.len = true) ∧
    (∃ (s : State) (p : Fin 16) (tick : Fin 625) (c : Nat) (q : TsnQ), (∀ d, c < d → d < 8 → (s.links.tsn.find? (fun q => decide
      (q.port = p.val ∧ q.cls = d))).all (fun q => !s.gateFits p.val d q.len tick.val) = true) ∧ s.alive = true ∧ s.tsnUp p.val =
      true ∧ c < 8 ∧ s.links.tsn.find? (fun q => decide (q.port = p.val ∧ q.cls = c)) = some q ∧ s.gateFits p.val c q.len tick.val =
      true) ∧
    (∃ (s : State) (p : Fin 16) (tick : Fin 625), s.alive = true ∧ s.tsnUp p.val = true ∧ (∀ c, c < 8 → (s.links.tsn.find? (fun q =>
      decide (q.port = p.val ∧ q.cls = c))).all (fun q => !s.gateFits p.val c q.len tick.val) = true)) ∧
    (∃ (s : State) (p : Fin 16), s.r Reg.TSN_GCL_LEN p.val ≠ 0) ∧
    (∃ (s : State) (p : Fin 16), s.r Reg.TSN_MODE p.val ≠ 0 ∧ s.alive = true ∧ s.isReleased (resId 0x0B p.val) = false) ∧
    (∃ (s : State) (p : Fin 16) (m : SyncMsg), s.alive = true ∧ s.tsnUp p.val = true ∧ s.rb Reg.TSN_AS_EN p.val = true ∧ m.domain =
      0 ∧ m.valid = true ∧ m.best = true) ∧
    (∃ (s : State) (p : Fin 16) (m : SyncMsg), s.alive = true ∧ s.tsnUp p.val = true ∧ s.rb Reg.TSN_AS_EN p.val = true ∧ m.domain =
      0 ∧ m.valid = true ∧ m.best = false ∧ s.links.as.port = some p.val) ∧
    (∃ (s : State) (p : Fin 16) (m : SyncMsg), s.alive = true ∧ s.tsnUp p.val = true ∧ s.rb Reg.TSN_AS_EN p.val = true ∧ m.domain =
      0 ∧ m.valid = true ∧ m.best = false ∧ s.links.as.port ≠ some p.val) ∧
    (∃ (s : State) (p : Fin 16), s.alive = true ∧ s.tsnUp p.val = true ∧ s.rb Reg.TSN_AS_EN p.val = true ∧ s.tsnRoom p.val 6 64 =
      true) ∧
    (∃ (s : State), s.alive = true) :=
  ⟨⟨live.w Reg.TSN_MODE 1 15 |>.w Reg.TSN_LINK 1 15, 15, { frame with len := 63 }, by decide +kernel⟩,
   ⟨({ ported with start.image := some (image { vlans := [(0, 0xC000)], fdbStatic := [(0, 0x010203040506, 0x8000)] }) } : State).w
     Reg.TSN_PVID 0 14, 14, frame, (0, 0x010203040506, 0x8000#16), 15, by decide +kernel⟩,
   ⟨{ ported with links.tsn := [tsnq] }, 15, 624, 7, tsnq, fun d h k => absurd k (by omega), by decide +kernel⟩,
   ⟨ported, 15, 624, by decide +kernel⟩,
   ⟨live.w Reg.TSN_GCL_LEN 1 15, 15, by decide +kernel⟩,
   ⟨live.w Reg.TSN_MODE 1 15 |>.w Reg.TSN_LINK 1 15, 15, by decide +kernel⟩,
   ⟨live.w Reg.TSN_AS_EN 1 15 |>.w Reg.TSN_MODE 1 15 |>.w Reg.TSN_LINK 1 15, 15, sync0, by decide +kernel⟩,
   ⟨({ live with links.as := { port := some 15 } } : State).w Reg.TSN_AS_EN 1 15 |>.w Reg.TSN_MODE 1 15 |>.w Reg.TSN_LINK 1 15, 15,
     { sync0 with best := false }, by decide +kernel⟩,
   ⟨live.w Reg.TSN_AS_EN 1 15 |>.w Reg.TSN_MODE 1 15 |>.w Reg.TSN_LINK 1 15, 15, { sync0 with best := false }, by decide +kernel⟩,
   ⟨live.w Reg.TSN_AS_EN 1 15 |>.w Reg.TSN_MODE 1 15 |>.w Reg.TSN_LINK 1 15, 15, by decide +kernel⟩,
   ⟨live, by decide +kernel⟩⟩

theorem witness_FieldLinks :
    (∃ (s : State) (p : Fin 48) (f : T1sFrame), s.r Reg.T1S_ROLE p.val ≠ 0 ∧ s.alive = true ∧ f.ok = true ∧ s.r Reg.T1S_ROLE p.val =
      1 ∧ (s.rb Reg.T1S_PLCA_EN p.val = false ∨ s.decl.t1sNodes.contains (p.val, f.node) = true)) ∧
    (∃ (s : State) (p : Fin 48) (f : T1sFrame), s.r Reg.T1S_ROLE p.val ≠ 0 ∧ s.alive = true ∧ f.ok = true ∧ s.r Reg.T1S_ROLE p.val ≠
      1 ∧ s.decl.t1sNodes.contains (p.val, f.node) = true ∧ 1 ≤ f.node ∧ f.node ≤ 8) ∧
    (∃ (s : State) (p : Fin 48) (f : T1sFrame), s.r Reg.T1S_ROLE p.val ≠ 0 ∧ s.alive = true ∧ f.ok = true ∧ s.rb Reg.T1S_PLCA_EN
      p.val = true ∧ s.decl.t1sNodes.contains (p.val, f.node) = false) ∧
    (∃ (s : State) (p : Fin 48) (f : T1sFrame), s.r Reg.T1S_ROLE p.val ≠ 0 ∧ s.alive = true ∧ f.ok = false) ∧
    (∃ (s : State) (p : Fin 48), s.alive = true ∧ s.r Reg.T1S_ROLE p.val ≠ 0 ∧ s.rb Reg.T1S_PLCA_EN p.val = true ∧ s.isReleased
      (resId 0x0C p.val) = false) ∧
    (∃ (s : State) (n : Fin 32), s.alive = true ∧ s.r Reg.T1S_ROLE n.val = 1 ∧ s.rb Reg.T1S_LINK n.val = false ∧ Tab.find
      s.links.vehicle n.val = some 0) ∧
    (∃ (s : State) (n : Fin 32), s.alive = true ∧ s.rb Reg.T1S_LINK n.val = true ∧ s.r Reg.T1S_LINK_HOLD n.val ≤ Tab.getD
      s.links.vehicle n.val 0 ∧ 5 ≤ s.sess n.val ∧ s.sess n.val ≤ 8 ∧ ¬(s.sess n.val = 8 ∧ (s.conn n.val).suspended = true) ∧
      (s.conn n.val).stopped = false ∧ s.connCut n.val = false) ∧
    (∃ (s : State) (n : Fin 32), s.alive = true ∧ s.rb Reg.T1S_LINK n.val = true ∧ s.r Reg.T1S_LINK_HOLD n.val ≤ Tab.getD
      s.links.vehicle n.val 0 ∧ 1 ≤ s.sess n.val ∧ s.sess n.val ≤ 4 ∧ (s.conn n.val).stopped = false) ∧
    (∃ (s : State) (n : Fin 32), s.alive = true ∧ s.rb Reg.T1S_LINK n.val = true ∧ s.r Reg.T1S_LINK_HOLD n.val ≤ Tab.getD
      s.links.vehicle n.val 0 ∧ s.sess n.val = 8 ∧ (s.conn n.val).suspended = true) ∧
    (∃ (s : State) (p : Fin 48) (j : Fin 8), s.rbit Reg.T1S_NODES j.val p.val = true ∧ s.r Reg.T1S_NODE_MISS p.val ≤ Tab.getD
      s.links.nodes (p.val * 16 + (j.val + 1)) 0) ∧
    (∃ (s : State) (c : Fin 8) (f : CanFrame), s.r Reg.CAN_MODE c.val ≠ 0 ∧ s.alive = true ∧ s.r Reg.CAN_BUS_STATE c.val ≠ 2 ∧ f.ok
      = true ∧ (f.fdf = true → s.rb Reg.CAN_FD_EN c.val = true) ∧ s.r Reg.CAN_RING_LEN c.val ≠ 0 ∧ (s.can c.val).fill - f.taken <
      s.r Reg.CAN_RING_LEN c.val) ∧
    (∃ (s : State) (c : Fin 8) (f : CanFrame), s.r Reg.CAN_MODE c.val ≠ 0 ∧ s.alive = true ∧ s.r Reg.CAN_BUS_STATE c.val ≠ 2 ∧ f.ok
      = true ∧ (f.fdf = true → s.rb Reg.CAN_FD_EN c.val = true) ∧ s.r Reg.CAN_RING_LEN c.val ≠ 0 ∧ s.r Reg.CAN_RING_LEN c.val ≤
      (s.can c.val).fill - f.taken) ∧
    (∃ (s : State) (c : Fin 8) (f : CanFrame), s.r Reg.CAN_MODE c.val ≠ 0 ∧ s.alive = true ∧ s.r Reg.CAN_BUS_STATE c.val ≠ 2 ∧ (f.ok
      = false ∨ f.fdf = true ∧ s.rb Reg.CAN_FD_EN c.val = false)) ∧
    (∃ (s : State) (c : Fin 8) (x : CanTx), (s.can c.val).boxes = [x] ∧ s.canDrives c.val = true ∧ (x.box.fdf = true → s.rb
      Reg.CAN_FD_EN c.val = true) ∧ s.r Reg.CAN_BUS_STATE c.val < 2) ∧
    (∃ (s : State) (c : Fin 8) (x : CanTx), (s.can c.val).boxes = [x] ∧ s.canDrives c.val = true ∧ (x.box.fdf = true → s.rb
      Reg.CAN_FD_EN c.val = true) ∧ s.r Reg.CAN_BUS_STATE c.val = 3 ∧ s.r Reg.CAN_LONE_PROBE c.val ≤ (s.can c.val).probe) ∧
    (∃ (s : State) (c : Fin 8), s.alive = true ∧ s.canDrives c.val = false) ∧
    (∃ (s : State) (c : Fin 8) (x : CanTx), (s.can c.val).boxes = [x] ∧ s.r Reg.CAN_TX_TIMEOUT c.val ≤ s.now - x.wave) ∧
    (∃ (s : State) (c : Fin 8) (x : CanTx), (s.can c.val).boxes.find? (fun y => decide (s.r Reg.CAN_LONE_LIMIT c.val ≤ y.fails)) =
      some x ∧ s.r Reg.CAN_BUS_STATE c.val < 2) ∧
    (∃ (s : State) (c : Fin 8), s.r Reg.CAN_BUS_STATE c.val = 2 ∧ (s.rb Reg.CAN_BUSOFF_AUTO c.val = true ∨ (s.can c.val).restart =
      true)) ∧
    (∃ (s : State) (c : Fin 8), s.r Reg.CAN_BUS_STATE c.val = 2 ∧ s.rb Reg.CAN_BUSOFF_AUTO c.val = false ∧ (s.can c.val).restart =
      false) ∧
    (∃ (s : State) (c : Fin 8), s.r Reg.CAN_BUS_STATE c.val = 2 ∧ s.rb Reg.CAN_BUSOFF_RESTART c.val = true ∧ (s.can c.val).recovered
      = true) ∧
    (∃ (s : State) (c : Fin 8), s.r Reg.CAN_BUS_STATE c.val = 2 ∧ s.rb Reg.CAN_BUSOFF_RESTART c.val = true ∧ (s.can c.val).recovered
      = false) ∧
    (∃ (s : State) (c : Fin 8), s.r Reg.CAN_MODE c.val = 3 ∧ s.r Reg.CAN_DETECT_STATE c.val = 1 ∧ s.r Reg.CAN_DETECT_DWELL c.val ≤
      (s.can c.val).dwell) ∧
    (∃ (s : State) (i : Fin 16) (f : SentFrame), s.rb Reg.SENT_EN i.val = true ∧ s.alive = true ∧ f.crcOk = false) ∧
    (∃ (s : State) (i : Fin 16) (f : SentFrame), s.rb Reg.SENT_EN i.val = true ∧ s.alive = true ∧ f.crcOk = true ∧ f.nibblesOk =
      true ∧ s.r Reg.SENT_TICK_NS i.val * 3 ≤ f.tickNs * 4 ∧ f.tickNs * 4 ≤ s.r Reg.SENT_TICK_NS i.val * 5 ∧ (∀ p, (Tab.getD
      s.links.sent i.val {}).tick = some p → (f.tickNs - p) + (p - f.tickNs) ≤ p / 64) ∧ (s.ri Reg.SENT_OFFSET1 i.val + Int.tdiv
      (((f.raw1.toNat % 2 ^ sentBits (s.r Reg.SENT_FORMAT i.val) 1) : Int) * s.ri Reg.SENT_GAIN1 i.val) 65536) < 2147483648 ∧
      -2147483648 ≤ (s.ri Reg.SENT_OFFSET1 i.val + Int.tdiv (((f.raw1.toNat % 2 ^ sentBits (s.r Reg.SENT_FORMAT i.val) 1) : Int) *
      s.ri Reg.SENT_GAIN1 i.val) 65536)) ∧
    (∃ (s : State) (i : Fin 16), s.rb Reg.SENT_EN i.val = true ∧ s.r Reg.SENT_TIMEOUT i.val * 40 ≤ s.now - (Tab.getD s.links.sent
      i.val {}).last) :=
  ⟨⟨live.w Reg.T1S_ROLE 1 47 |>.w Reg.T1S_ROLE 1 47 |>.w Reg.T1S_PLCA_EN 0 47, 47, ⟨true, 1, 0, []⟩, by decide +kernel⟩,
   ⟨(placed { t1sNodes := [(47, 8)] }).w Reg.T1S_ROLE 2 47, 47, t1s0, by decide +kernel⟩,
   ⟨live.w Reg.T1S_ROLE 2 47 |>.w Reg.T1S_PLCA_EN 1 47, 47, t1s0, by decide +kernel⟩,
   ⟨live.w Reg.T1S_ROLE 1 47, 47, { t1s0 with ok := false }, by decide +kernel⟩,
   ⟨({ live with links.vehicle := [(31, 10000000)] } : State).w Reg.T1S_ROLE 1 47 |>.w Reg.T1S_PLCA_EN 1 47, 47, by decide +kernel⟩,
   ⟨({ live with links.vehicle := [(31, 0)], links.nodes := [(760, 10000000)] } : State).w Reg.T1S_ROLE 1 31, 31, by
     decide +kernel⟩,
   ⟨({ live with links.vehicle := [(31, 10000000)] } : State).w Reg.T1S_LINK 1 31 |>.w Reg.SESS_STATE 5 31, 31, by decide +kernel⟩,
   ⟨({ live with links.vehicle := [(31, 10000000)] } : State).w Reg.T1S_LINK 1 31 |>.w Reg.SESS_STATE 4 31, 31, by decide +kernel⟩,
   ⟨({ live with session.conns := [(31, { suspended := true })], links.vehicle := [(31, 10000000)] } : State).w Reg.T1S_LINK 1 31
     |>.w Reg.SESS_STATE 8 31, 31, by decide +kernel⟩,
   ⟨({ live with links.nodes := [(760, 10000000)] } : State).wbit Reg.T1S_NODES 7 true 47, 47, 7, by decide +kernel⟩,
   ⟨({ live with links.can := [(7, { boxes := [canTx] })] } : State).w Reg.CAN_MODE 1 7 |>.w Reg.CAN_BUS_STATE 0 7 |>.w
     Reg.CAN_RING_LEN 1 7 |>.w Reg.TIDE_NUMBER_LO 100000, 7, canFrame, by decide +kernel⟩,
   ⟨({ live with links.can := [(7, { fill := 1 })] } : State).w Reg.CAN_MODE 1 7 |>.w Reg.CAN_BUS_STATE 0 7 |>.w Reg.CAN_RING_LEN 1
     7, 7, canFrame, by decide +kernel⟩,
   ⟨live.w Reg.CAN_MODE 1 7 |>.w Reg.CAN_BUS_STATE 0 7, 7, { canFrame with ok := false }, by decide +kernel⟩,
   ⟨({ live with links.can := [(7, { boxes := [canTx] })] } : State).w Reg.CAN_MODE 1 7 |>.w Reg.CAN_BUS_STATE 1 7, 7, canTx, by
     decide +kernel⟩,
   ⟨({ live with links.can := [(7, { boxes := [canTx], probe := 100000 })] } : State).w Reg.CAN_BUS_STATE 3 7 |>.w Reg.CAN_MODE 1 7,
     7, canTx, by decide +kernel⟩,
   ⟨live.w Reg.SENT_TICK_NS 3000 15, 7, by decide +kernel⟩,
   ⟨{ live with links.can := [(7, { boxes := [canTx] })], waves := 10000000 }, 7, canTx, by decide +kernel⟩,
   ⟨{ live with links.can := [(7, { boxes := [{ canTx with fails := 1000 }] })] }, 7, { canTx with fails := 1000 }, by
     decide +kernel⟩,
   ⟨live.w Reg.CAN_BUS_STATE 2 7, 7, by decide +kernel⟩,
   ⟨live.w Reg.CAN_BUS_STATE 2 7 |>.w Reg.CAN_BUSOFF_AUTO 0 7, 7, by decide +kernel⟩,
   ⟨({ live with links.can := [(7, { recovered := true })] } : State).w Reg.CAN_BUS_STATE 2 7 |>.w Reg.CAN_BUSOFF_RESTART 1 7, 7, by
     decide +kernel⟩,
   ⟨live.w Reg.CAN_BUS_STATE 2 7 |>.w Reg.CAN_BUSOFF_RESTART 1 7, 7, by decide +kernel⟩,
   ⟨({ live with links.can := [(7, { dwell := 100000 })] } : State).w Reg.CAN_MODE 3 7 |>.w Reg.CAN_DETECT_STATE 1 7, 7, by
     decide +kernel⟩,
   ⟨live.w Reg.SENT_EN 1 15, 15, { sent with crcOk := false }, by decide +kernel⟩,
   ⟨live.w Reg.SENT_EN 1 15 |>.w Reg.SENT_TICK_NS 3000 15, 15, sent, by decide +kernel⟩,
   ⟨({ live with waves := 10000000 } : State).w Reg.SENT_EN 1 15, 15, by decide +kernel⟩⟩

theorem witness_RequestsReadsAndWrites :
    (∃ (s : State) (e : Env) (op : Nat), s.serving = true ∧ (e.addr = none ∨ ∃ a, e.addr = some a ∧ s.route a = .here) ∧ e.decodes =
      true ∧ 1 ≤ op ∧ op ≤ 14 ∧ s.command.queue.length < 64) ∧
    (∃ (s : State) (e : Env) (op : Nat), s.serving = true ∧ (e.addr = none ∨ ∃ a, e.addr = some a ∧ s.route a = .here) ∧ e.decodes =
      true ∧ 1 ≤ op ∧ op ≤ 14 ∧ 64 ≤ s.command.queue.length) ∧
    (∃ (s : State) (e : Env) (op : Nat), s.serving = true ∧ (e.addr = none ∨ ∃ a, e.addr = some a ∧ s.route a = .here) ∧ (e.decodes
      = false ∨ op < 1 ∨ 14 < op)) ∧
    (∃ (s : State) (e : Env) (a : ChainAddr) (l : Nat) (b : ChainAddr), s.serving = true ∧ e.addr = some a ∧ s.route a = .hop l b) ∧
    (∃ (s : State) (e : Env) (a : ChainAddr), s.serving = true ∧ e.addr = some a ∧ s.route a = .parent) ∧
    (∃ (s : State) (e : Env) (a : ChainAddr) (c k : Nat), s.serving = true ∧ e.addr = some a ∧ s.route a = .bad c ∧ e.conn = some k
      ∧ e.decodes = true) ∧
    (∃ (s : State) (e : Env) (i words : Nat), s.admits e 0 i ∧ (words = 0 ∨ 256 < words)) ∧
    (∃ (s : State) (e : Env) (i addr words : Nat) (l : List Nat), s.admits e 0 i ∧ 1 ≤ words ∧ words ≤ 256 ∧ (0x02000008 < addr ∨
      addr + 4 * words ≤ 0x02000008) ∧ (s.dequeue e).readWords addr words = some l) ∧
    (∃ (s : State) (e : Env) (i addr words : Nat), s.admits e 0 i ∧ 1 ≤ words ∧ words ≤ 256 ∧ (0x02000008 < addr ∨ addr + 4 * words
      ≤ 0x02000008) ∧ (s.dequeue e).readWords addr words = none) ∧
    (∃ (s : State) (e : Env) (i addr words : Nat), s.admits e 0 i ∧ 1 ≤ words ∧ words ≤ 256 ∧ addr ≤ 0x02000008 ∧ 0x02000008 < addr
      + 4 * words) ∧
    (∃ (s : State) (e : Env) (i len : Nat), s.admits e 0 i ∧ (len = 0 ∨ 4096 < len)) ∧
    (∃ (s : State) (e : Env) (i rid ofs len : Nat) (b : BufDef), s.admits e 0 i ∧ 1 ≤ len ∧ len ≤ 4096 ∧ s.decl.buffers.find? (fun b
      => decide (b.id = rid)) = some b ∧ ofs + len ≤ b.size) ∧
    (∃ (s : State) (e : Env) (i rid ofs len : Nat), s.admits e 0 i ∧ 1 ≤ len ∧ len ≤ 4096 ∧ (∀ b : BufDef, s.decl.buffers.find? (fun
      b => decide (b.id = rid)) = some b → b.size < ofs + len)) ∧
    (∃ (s : State) (e : Env) (i : Nat) (l : List WEntry), s.admits e 1 i ∧ (l = [] ∨ 64 < l.length)) ∧
    (∃ (s : State) (e : Env) (i : Nat) (l : List WEntry) (ri : _) (wc : List (Place × Nat)) (w : WEntry) (exportSide : Bool) (kw :
      BitVec 32), s.admits e 1 i ∧ (s.dequeue e).writeEntries l 0 [] [] = .ok (ri, wc) ∧ l ≠ [] ∧ l.length ≤ 64 ∧ l = [w] ∧ w =
      fieldEntry (if exportSide then Reg.ALLOC_EXPORT_LIMIT else Reg.ALLOC_IMPORT_LIMIT) 0 0 kw.toNat) ∧
    (∃ (s : State) (e : Env) (i : Nat) (l : List WEntry) (ri : _) (wc : List (Place × Nat)) (w : WEntry) (c : Fin 32) (duty : Bool)
      (x : BitVec 14), s.admits e 1 i ∧ (s.dequeue e).writeEntries l 0 [] [] = .ok (ri, wc) ∧ l ≠ [] ∧ l.length ≤ 64 ∧ l = [w] ∧ w =
      fieldEntry (if duty then Reg.LS_DUTY else Reg.LS_OUT_REQ) c.val 0 (if duty then x.toNat else x.toNat % 2)) ∧
    (∃ (s : State) (e : Env) (i : Nat) (l : List WEntry) (c k : Nat), s.admits e 1 i ∧ (s.dequeue e).writeEntries l 0 [] [] = .error
      (c, k) ∧ l ≠ [] ∧ l.length ≤ 64) ∧
    (∃ (s : State) (e : Env) (i : Nat), s.admits e 0 i ∧ e.conn = none) ∧
    (∃ (s : State) (e : Env) (i period : Nat) (ranges : Ranges) (c : Nat), s.admits e 0 i ∧ e.conn = some c ∧ (period = 0 ∨ 65535 <
      period ∨ 32 < ranges.length ∨ ∃ r ∈ ranges, r.2 = 0)) ∧
    (∃ (s : State) (e : Env) (i period : Nat) (ranges : Ranges) (c : Nat), s.admits e 0 i ∧ e.conn = some c ∧ 1 ≤ period ∧ period ≤
      65535 ∧ ranges.length ≤ 32 ∧ (∀ r ∈ ranges, r.2 ≠ 0 ∧ ((s.dequeue e).readWords r.1 r.2).isSome = true) ∧ s.command.subs.length
      < 8) ∧
    (∃ (s : State) (e : Env) (i period : Nat) (ranges : Ranges) (c : Nat), s.admits e 0 i ∧ e.conn = some c ∧ 1 ≤ period ∧ period ≤
      65535 ∧ ranges.length ≤ 32 ∧ (∀ r ∈ ranges, r.2 ≠ 0 ∧ ((s.dequeue e).readWords r.1 r.2).isSome = true) ∧ 8 ≤
      s.command.subs.length) :=
  ⟨⟨live, env, 14, by decide +kernel⟩,
   ⟨{ live with command.queue := List.replicate 64 ⟨9, 1, 1⟩ }, env, 14, by decide +kernel⟩,
   ⟨live, env, 0, by decide +kernel⟩,
   ⟨live.wbit Reg.CHAIN_CHILD_MASK 5 true, { env with addr := some ⟨1, 5⟩ }, (⟨1, 5⟩ : ChainAddr), 5, (⟨0, 0⟩ : ChainAddr), by
     decide +kernel⟩,
   ⟨live.w Reg.CHAIN_STATE 2, { env with addr := some ⟨128, 5⟩ }, (⟨128, 5⟩ : ChainAddr), by decide +kernel⟩,
   ⟨live, { env with addr := some ⟨22, 5⟩ }, (⟨22, 5⟩ : ChainAddr), 0x303, 1, by decide +kernel⟩,
   ⟨srv, env, 31, 257, ⟨by decide +kernel, by decide +kernel, by rfl⟩, by decide +kernel⟩,
   ⟨srv, env, 31, Reg.CMD_QUEUE.addr 0 0 0, 1, [0], ⟨by decide +kernel, by decide +kernel, by rfl⟩, by decide +kernel⟩,
   ⟨srv, env, 31, 0, 256, ⟨by decide +kernel, by decide +kernel, by rfl⟩, by decide +kernel⟩,
   ⟨srv, env, 31, 0x02000008, 1, ⟨by decide +kernel, by decide +kernel, by rfl⟩, by decide +kernel⟩,
   ⟨srv, env, 31, 4097, ⟨by decide +kernel, by decide +kernel, by rfl⟩, by decide +kernel⟩,
   ⟨{ placed { buffers := [⟨4, 64, 16⟩] } with regs := srv.regs }, env, 31, 4, 12, 4, ⟨4, 64, 16⟩, ⟨by decide +kernel, by
     decide +kernel, by rfl⟩, by decide +kernel⟩,
   ⟨srv, env, 31, 4, 1, 4096, ⟨by decide +kernel, by decide +kernel, by rfl⟩, by decide +kernel⟩,
   ⟨srv, env, 31, [], ⟨by decide +kernel, by decide +kernel, by rfl⟩, by decide +kernel⟩,
   ⟨srv, env, 31, [limit500], [(⟨Reg.ALLOC_IMPORT_LIMIT.addr 0 0 0, Reg.ALLOC_IMPORT_LIMIT.lo, 500⟩ : PendingField)], ([] : List
     (Place × Nat)), limit500, false, 500#32, ⟨by decide +kernel, by decide +kernel, by rfl⟩, by rfl, by decide +kernel⟩,
   ⟨srv, env, 31, [fieldEntry Reg.LS_OUT_REQ 31 0 1], [(⟨Reg.LS_OUT_REQ.addr 31 0 0, Reg.LS_OUT_REQ.lo, 1⟩ : PendingField)], ([] :
     List (Place × Nat)), fieldEntry Reg.LS_OUT_REQ 31 0 1, (31 : Fin 32), false, 1#14, ⟨by decide +kernel, by decide +kernel, by
     rfl⟩, by rfl, by decide +kernel⟩,
   ⟨srv, env, 31, [⟨0, 0, 1⟩], 0x1912, 0, ⟨by decide +kernel, by decide +kernel, by rfl⟩, by rfl, by decide +kernel⟩,
   ⟨srv, { env with conn := none }, 31, ⟨by decide +kernel, by decide +kernel, by rfl⟩, by decide +kernel⟩,
   ⟨srv, env, 31, 65536, [(Reg.CMD_QUEUE.addr 0 0 0, 1)], 1, ⟨by decide +kernel, by decide +kernel, by rfl⟩, by decide +kernel⟩,
   ⟨srv, env, 31, 65535, [(Reg.CMD_QUEUE.addr 0 0 0, 1)], 1, ⟨by decide +kernel, by decide +kernel, by rfl⟩, by decide +kernel⟩,
   ⟨{ srv with command.subs := List.replicate 8 ⟨0, 3, 10, [], 4⟩ }, env, 31, 65535, [(Reg.CMD_QUEUE.addr 0 0 0, 1)], 1, ⟨by
     decide +kernel, by decide +kernel, by rfl⟩, by decide +kernel⟩⟩

theorem witness_TransactionsAndIssuers :
    (∃ (s : State) (e : Env) (i : Nat), s.admits e 2 i ∧ s.r Reg.CMD_TXN_STATE = 0) ∧
    (∃ (s : State) (e : Env) (i : Nat), s.admits e 2 i ∧ s.r Reg.CMD_TXN_STATE ≠ 0) ∧
    (∃ (s : State) (e : Env) (i : Nat), s.admits e 2 i ∧ s.r Reg.CMD_TXN_STATE = 0 ∧ s.command.coveReply = none) ∧
    (∃ (s : State) (e : Env) (i : Nat), s.admits e 2 i ∧ s.r Reg.CMD_TXN_STATE ≠ 0 ∧ s.r Reg.CMD_TXN_ISSUER ≠ i) ∧
    (∃ (s : State) (e : Env) (i txn : Nat) (l : List SEntry) (new : _) (w : WEntry), s.admits e 2 i ∧ (s.dequeue e).stageEntries i
      (s.rb Reg.CMD_TXN_SCOPE) l 0 = .ok new ∧ s.r Reg.CMD_TXN_STATE = 1 ∧ s.command.prepared = false ∧ s.r Reg.CMD_TXN_ISSUER = i ∧
      s.r Reg.CMD_TXN_ID = txn ∧ s.command.coveReply = none ∧ l ≠ [] ∧ l.length ≤ 64 ∧ (new.foldl stagePut s.command.staged).length
      ≤ 512 ∧ l = [⟨w, none⟩]) ∧
    (∃ (s : State) (e : Env) (i txn : Nat) (l : List SEntry) (new : _) (entry : Fin 32), s.admits e 2 i ∧ (s.dequeue e).stageEntries
      i (s.rb Reg.CMD_TXN_SCOPE) l 0 = .ok new ∧ s.r Reg.CMD_TXN_STATE = 1 ∧ s.command.prepared = false ∧ s.r Reg.CMD_TXN_ISSUER = i
      ∧ s.r Reg.CMD_TXN_ID = txn ∧ s.command.coveReply = none ∧ l ≠ [] ∧ l.length ≤ 64 ∧ (new.foldl stagePut
      s.command.staged).length ≤ 512 ∧ l = [⟨fieldEntry Reg.CMD_ISS_STATE 0 entry.val 2, none⟩]) ∧
    (∃ (s : State) (e : Env) (i txn : Nat) (l : List SEntry) (new : _), s.admits e 2 i ∧ (s.dequeue e).stageEntries i (s.rb
      Reg.CMD_TXN_SCOPE) l 0 = .ok new ∧ s.r Reg.CMD_TXN_STATE = 1 ∧ s.command.prepared = false ∧ s.r Reg.CMD_TXN_ISSUER = i ∧ s.r
      Reg.CMD_TXN_ID = txn ∧ s.command.coveReply = none ∧ l ≠ [] ∧ l.length ≤ 64 ∧ 512 < (new.foldl stagePut
      s.command.staged).length) ∧
    (∃ (s : State) (e : Env) (i txn : Nat) (l : List SEntry) (c k : Nat), s.admits e 2 i ∧ (s.dequeue e).stageEntries i (s.rb
      Reg.CMD_TXN_SCOPE) l 0 = .error (c, k) ∧ s.r Reg.CMD_TXN_STATE = 1 ∧ s.command.prepared = false ∧ s.r Reg.CMD_TXN_ISSUER = i ∧
      s.r Reg.CMD_TXN_ID = txn ∧ s.command.coveReply = none ∧ l ≠ [] ∧ l.length ≤ 64) ∧
    (∃ (s : State) (e : Env) (i txn : Nat), s.admits e 2 i ∧ s.r Reg.CMD_TXN_STATE = 1 ∧ s.command.prepared = false ∧ s.r
      Reg.CMD_TXN_ISSUER = i ∧ s.r Reg.CMD_TXN_ID = txn ∧ s.command.coveReply = none ∧ s.rb Reg.CMD_TXN_SCOPE = false ∧ (s.dequeue
      e).validate s.ownStaged = none) ∧
    (∃ (s : State) (e : Env) (i txn : Nat), s.admits e 2 i ∧ s.r Reg.CMD_TXN_STATE = 1 ∧ s.command.prepared = false ∧ s.r
      Reg.CMD_TXN_ISSUER = i ∧ s.r Reg.CMD_TXN_ID = txn ∧ s.command.coveReply = none ∧ s.rb Reg.CMD_TXN_SCOPE = true ∧ (s.dequeue
      e).validate s.ownStaged = none ∧ s.coveAddrs = []) ∧
    (∃ (s : State) (e : Env) (i txn : Nat), s.admits e 2 i ∧ s.r Reg.CMD_TXN_STATE = 1 ∧ s.command.prepared = false ∧ s.r
      Reg.CMD_TXN_ISSUER = i ∧ s.r Reg.CMD_TXN_ID = txn ∧ s.command.coveReply = none ∧ s.rb Reg.CMD_TXN_SCOPE = true ∧ (s.dequeue
      e).validate s.ownStaged = none ∧ s.coveAddrs ≠ []) ∧
    (∃ (s : State) (e : Env) (i txn c a : Nat), s.admits e 2 i ∧ s.r Reg.CMD_TXN_STATE = 1 ∧ s.command.prepared = false ∧ s.r
      Reg.CMD_TXN_ISSUER = i ∧ s.r Reg.CMD_TXN_ID = txn ∧ s.command.coveReply = none ∧ (s.dequeue e).validate s.ownStaged = some (c,
      a)) ∧
    (∃ (s : State), s.command.prepared = true ∧ s.r Reg.CMD_TXN_STATE = 1) ∧
    (∃ (s : State), s.r Reg.CMD_TXN_STATE = 1 ∧ 6000 ≤ s.r Reg.CMD_TXN_AGE ∧ s.command.coveReply = none) ∧
    (∃ (s : State), s.running = true ∧ s.r Reg.CMD_TXN_STATE ≠ 0) ∧
    (∃ (s : State) (fields : List FieldInit), s.running = true ∧ s.r Reg.CMD_TXN_STATE = 0 ∧ 512 < (fields.map (fun q => ⟨q.addr,
      q.lo, q.value⟩) : List PendingField).length) ∧
    (∃ (s : State) (fields : List FieldInit), s.running = true ∧ s.r Reg.CMD_TXN_STATE = 0 ∧ (fields.map (fun q => ⟨q.addr, q.lo,
      q.value⟩) : List PendingField).length ≤ 512 ∧ (∀ q ∈ (fields.map (fun q => ⟨q.addr, q.lo, q.value⟩) : List PendingField),
      (pendPlace q).any (fun p => decide (p.f.acc = .rt)) = true) ∧ s.validate (fields.map (fun q => ⟨q.addr, q.lo, q.value⟩) : List
      PendingField) = none) ∧
    (∃ (s : State) (fields : List FieldInit) (c a : Nat), s.running = true ∧ s.r Reg.CMD_TXN_STATE = 0 ∧ (fields.map (fun q =>
      ⟨q.addr, q.lo, q.value⟩) : List PendingField).length ≤ 512 ∧ (∀ q ∈ (fields.map (fun q => ⟨q.addr, q.lo, q.value⟩) : List
      PendingField), (pendPlace q).any (fun p => decide (p.f.acc = .rt)) = true) ∧ s.validate (fields.map (fun q => ⟨q.addr, q.lo,
      q.value⟩) : List PendingField) = some (c, a)) ∧
    (∃ (s : State) (x : CoveTarget) (err i c : Nat) (e : Env), s.command.coveReply = some (e, i) ∧ e.conn = some c ∧ e.decodes =
      true ∧ s.command.coveTargets = [x] ∧ s.command.coveN = 0 ∧ s.r Reg.CMD_TXN_STATE = 1 ∧ err ≠ 0) ∧
    (∃ (s : State) (x : CoveTarget) (i c : Nat) (e : Env), s.command.coveReply = some (e, i) ∧ e.conn = some c ∧ e.decodes = true ∧
      s.command.coveTargets = [x] ∧ s.tide < s.command.coveN) ∧
    (∃ (s : State) (x : CoveTarget) (i c : Nat) (e : Env), s.command.coveReply = some (e, i) ∧ e.conn = some c ∧ e.decodes = true ∧
      s.command.coveTargets = [x] ∧ s.command.coveN ≠ 0 ∧ s.command.coveN ≤ s.tide ∧ x.acked = false) ∧
    (∃ (s : State), s.command.prepared = true ∧ s.r Reg.CMD_TXN_STATE ≠ 0) ∧
    (∃ (s : State) (e : Env) (i entry : Nat), s.admits e 8 i ∧ entry < 32 ∧ s.rb Reg.BILL_RTC_VALID = true ∧ s.r
      Reg.CMD_ISS_NOT_AFTER 0 entry < s.rtcS) ∧
    (∃ (s : State) (e : Env) (i entry : Nat), s.admits e 8 i ∧ entry < 32 ∧ (s.rb Reg.BILL_RTC_VALID = false ∨ s.rtcS ≤ s.r
      Reg.CMD_ISS_NOT_AFTER 0 entry)) ∧
    (∃ (s : State) (e : Env) (i entry : Nat), s.admits e 8 i ∧ 32 ≤ entry) :=
  ⟨⟨srv, env, 31, ⟨by decide +kernel, by decide +kernel, by rfl⟩, by decide +kernel⟩,
   ⟨srv.w Reg.CMD_TXN_STATE 1, env, 31, ⟨by decide +kernel, by decide +kernel, by rfl⟩, by decide +kernel⟩,
   ⟨srv, env, 31, ⟨by decide +kernel, by decide +kernel, by rfl⟩, by decide +kernel⟩,
   ⟨srv.w Reg.CMD_TXN_STATE 1 |>.w Reg.CMD_TXN_ISSUER 30, env, 31, ⟨by decide +kernel, by decide +kernel, by rfl⟩, by
     decide +kernel⟩,
   ⟨srv.w Reg.CMD_TXN_STATE 1 |>.w Reg.CMD_TXN_ID 1 |>.w Reg.CMD_TXN_ISSUER 31, env, 31, 1, [⟨staged0, none⟩],
     [(⟨⟨Reg.SESS_AUTH_MODE.addr 31 0 0, Reg.SESS_AUTH_MODE.lo, 2⟩, none⟩ : Staged)], staged0, ⟨by decide +kernel, by
     decide +kernel, by rfl⟩, by rfl, by decide +kernel⟩,
   ⟨srv.w Reg.CMD_TXN_STATE 1 |>.w Reg.CMD_TXN_ID 1 |>.w Reg.CMD_TXN_ISSUER 31, env, 31, 1, [⟨fieldEntry Reg.CMD_ISS_STATE 0 31 2,
     none⟩], [(⟨⟨Reg.CMD_ISS_STATE.addr 0 31 0, Reg.CMD_ISS_STATE.lo, 2⟩, none⟩ : Staged)], (31 : Fin 32), ⟨by decide +kernel, by
     decide +kernel, by rfl⟩, by rfl, by decide +kernel⟩,
   ⟨({ srv with command.staged := List.replicate 512 ⟨⟨0, 0, 1⟩, none⟩ } : State).w Reg.CMD_TXN_STATE 1 |>.w Reg.CMD_TXN_ID 1 |>.w
     Reg.CMD_TXN_ISSUER 31, env, 31, 1, [⟨staged0, none⟩], [(⟨⟨Reg.SESS_AUTH_MODE.addr 31 0 0, Reg.SESS_AUTH_MODE.lo, 2⟩, none⟩ :
     Staged)], ⟨by decide +kernel, by decide +kernel, by rfl⟩, by rfl, by decide +kernel⟩,
   ⟨srv.w Reg.CMD_TXN_STATE 1 |>.w Reg.CMD_TXN_ID 1 |>.w Reg.CMD_TXN_ISSUER 31, env, 31, 1, [⟨⟨0, 0, 1⟩, none⟩], 0x1912, 0, ⟨by
     decide +kernel, by decide +kernel, by rfl⟩, by rfl, by decide +kernel⟩,
   ⟨srv.w Reg.CMD_TXN_STATE 1 |>.w Reg.CMD_TXN_ID 1 |>.w Reg.CMD_TXN_ISSUER 31, env, 31, 1, ⟨by decide +kernel, by decide +kernel,
     by rfl⟩, by decide +kernel⟩,
   ⟨srv.w Reg.CMD_TXN_STATE 1 |>.w Reg.CMD_TXN_ID 1 |>.w Reg.CMD_TXN_SCOPE 1 |>.w Reg.CMD_TXN_ISSUER 31, env, 31, 1, ⟨by
     decide +kernel, by decide +kernel, by rfl⟩, by decide +kernel⟩,
   ⟨({ srv with command.staged := [⟨⟨Reg.SESS_AUTH_MODE.addr 31 0 0, Reg.SESS_AUTH_MODE.lo, 2⟩, some ⟨1, 5⟩⟩] } : State).w
     Reg.CMD_TXN_STATE 1 |>.w Reg.CMD_TXN_ID 1 |>.w Reg.CMD_TXN_SCOPE 1 |>.w Reg.CMD_TXN_ISSUER 31, env, 31, 1, ⟨by decide +kernel,
     by decide +kernel, by rfl⟩, by decide +kernel⟩,
   ⟨({ srv with command.staged := [⟨⟨0, 0, 1⟩, none⟩] } : State).w Reg.CMD_TXN_STATE 1 |>.w Reg.CMD_TXN_ID 1 |>.w Reg.CMD_TXN_ISSUER
     31, env, 31, 1, 0x1912, 0, ⟨by decide +kernel, by decide +kernel, by rfl⟩, by decide +kernel⟩,
   ⟨({ live with command.prepared := true } : State).w Reg.CMD_TXN_STATE 1 |>.w Reg.BILL_RTC_HI 1 |>.w Reg.BILL_TIME_STATUS 0x55, by
     decide +kernel⟩,
   ⟨live.w Reg.CMD_TXN_STATE 1 |>.w Reg.CMD_TXN_AGE 6000, by decide +kernel⟩,
   ⟨live.w Reg.CMD_TXN_STATE 1, by decide +kernel⟩,
   ⟨live, List.replicate 513 ⟨Reg.SESS_AUTH_MODE.addr 31 0 0, Reg.SESS_AUTH_MODE.lo, 2⟩, by decide +kernel⟩,
   ⟨live, [⟨Reg.SESS_AUTH_MODE.addr 31 0 0, Reg.SESS_AUTH_MODE.lo, 2⟩], by decide +kernel⟩,
   ⟨live, [⟨Reg.MTX_RAMP_WAVES.addr 0 0 0, Reg.MTX_RAMP_WAVES.lo, 0⟩], 0x508, Reg.MTX_RAMP_WAVES.addr 0 0 0, by decide +kernel⟩,
   ⟨({ live with command.coveReply := some (env, 1), command.coveTargets := [target], command.coveN := 0 } : State).w
     Reg.CMD_TXN_STATE 1, target, 1, 1, 1, env, by decide +kernel⟩,
   ⟨{ live with command.coveReply := some (env, 1), command.coveTargets := [target], command.coveN := 1 }, target, 1, 1, env, by
     decide +kernel⟩,
   ⟨({ live with command.coveReply := some (env, 1), command.coveTargets := [target], command.coveN := 1 } : State).w
     Reg.TIDE_NUMBER_LO 1, target, 1, 1, env, by decide +kernel⟩,
   ⟨({ live with command.prepared := true } : State).w Reg.CMD_TXN_STATE 1, by decide +kernel⟩,
   ⟨srv.w Reg.BILL_RTC_VALID 1 |>.w Reg.BILL_RTC_LO 10000 |>.w Reg.CMD_ISS_NOT_AFTER 9 0 5, env, 31, 5, ⟨by decide +kernel, by
     decide +kernel, by rfl⟩, by decide +kernel⟩,
   ⟨srv, env, 31, 5, ⟨by decide +kernel, by decide +kernel, by rfl⟩, by decide +kernel⟩,
   ⟨srv, env, 31, 32, ⟨by decide +kernel, by decide +kernel, by rfl⟩, by decide +kernel⟩⟩

theorem witness_UpdateStages :
    (∃ (s : State) (e : Env) (i : Nat) (a : OpenArgs), s.admits e 5 i ∧ (s.r Reg.UPD_STATE = 0 ∨ s.r Reg.UPD_STATE = 3 ∨ s.r
      Reg.UPD_STATE = 5) ∧ s.inTrial = false ∧ a.bank = none ∧ 1 ≤ a.fwLength ∧ a.fwLength ≤ 25165824 ∧ 1 ≤ a.ttLength ∧ a.ttLength
      ≤ 4194304 ∧ s.minFwSvn ≤ a.fwSvn ∧ a.fwSvn < 4294967296) ∧
    (∃ (s : State) (e : Env) (i : Nat) (a : OpenArgs), s.admits e 5 i ∧ (s.r Reg.UPD_STATE = 0 ∨ s.r Reg.UPD_STATE = 3 ∨ s.r
      Reg.UPD_STATE = 5) ∧ s.inTrial = false ∧ (a.bank.isSome = true ∨ 25165824 < a.fwLength ∨ a.ttLength = 0 ∨ 4194304 < a.ttLength
      ∨ a.fwLength ≠ 0 ∧ a.fwSvn < s.minFwSvn)) ∧
    (∃ (s : State) (e : Env) (i : Nat), s.admits e 5 i ∧ (s.r Reg.UPD_STATE = 1 ∨ s.r Reg.UPD_STATE = 2 ∨ s.r Reg.UPD_STATE = 4 ∨
      s.r Reg.UPD_STATE = 6)) ∧
    (∃ (s : State), s.serving = true ∧ s.r Reg.UPD_STATE = 1 ∧ s.start.fwCopy = false) ∧
    (∃ (s : State), s.serving = true ∧ s.r Reg.UPD_STATE = 1 ∧ s.start.fwCopy = true) ∧
    (∃ (s : State) (e : Env) (i : Nat), s.admits e 5 i ∧ s.r Reg.UPD_STATE ≠ 2) ∧
    (∃ (s : State) (e : Env) (i : Nat) (tt : Bool) (ofs : Nat), s.admits e 5 i ∧ s.r Reg.UPD_STATE = 2 ∧ ofs ≠ s.r (if tt then
      Reg.UPD_TT_RECEIVED else Reg.UPD_FW_RECEIVED)) ∧
    (∃ (s : State) (e : Env) (i : Nat) (tt : Bool) (data : List Byte), s.admits e 5 i ∧ s.r Reg.UPD_STATE = 2 ∧ data ≠ [] ∧
      data.length ≤ 8192 ∧ data.length % 256 = 0 ∧ s.r (if tt then Reg.UPD_TT_RECEIVED else Reg.UPD_FW_RECEIVED) + data.length < (if
      tt then (s.headerNow.bank (s.rb Reg.UPD_TARGET)).ttLength else (s.headerNow.bank (s.rb Reg.UPD_TARGET)).fwLength)) ∧
    (∃ (s : State) (e : Env) (i : Nat) (tt : Bool) (data : List Byte), s.admits e 5 i ∧ s.r Reg.UPD_STATE = 2 ∧ data ≠ [] ∧
      data.length ≤ 8192 ∧ s.r (if tt then Reg.UPD_TT_RECEIVED else Reg.UPD_FW_RECEIVED) + data.length = (if tt then
      (s.headerNow.bank (s.rb Reg.UPD_TARGET)).ttLength else (s.headerNow.bank (s.rb Reg.UPD_TARGET)).fwLength) ∧ (if tt then
      (s.headerNow.bank (s.rb Reg.UPD_TARGET)).ttLength else (s.headerNow.bank (s.rb Reg.UPD_TARGET)).fwLength) < 2 ^ (if tt then
      Reg.UPD_TT_RECEIVED else Reg.UPD_FW_RECEIVED).w ∧ s.r (if tt then Reg.UPD_FW_RECEIVED else Reg.UPD_TT_RECEIVED) = (if tt then
      (s.headerNow.bank (s.rb Reg.UPD_TARGET)).fwLength else (s.headerNow.bank (s.rb Reg.UPD_TARGET)).ttLength)) ∧
    (∃ (s : State) (e : Env) (i : Nat), s.admits e 5 i ∧ s.r Reg.UPD_STATE = 3) ∧
    (∃ (s : State) (e : Env) (i : Nat), s.admits e 5 i ∧ s.r Reg.UPD_STATE ≠ 3) ∧
    (∃ (s : State) (e : Env) (i : Nat), s.admits e 5 i ∧ s.r Reg.UPD_STATE = 5 ∧ s.actRefusal = none) ∧
    (∃ (s : State) (e : Env) (i c : Nat), s.admits e 5 i ∧ s.r Reg.UPD_STATE = 5 ∧ s.actRefusal = some c) ∧
    (∃ (s : State) (e : Env) (i : Nat), s.admits e 5 i ∧ s.r Reg.UPD_STATE ≠ 5) ∧
    (∃ (s : State) (e : Env) (i : Nat), s.admits e 5 i ∧ 1 ≤ s.r Reg.UPD_STATE ∧ s.r Reg.UPD_STATE ≤ 6 ∧ s.start.actX = none) ∧
    (∃ (s : State) (e : Env) (i : Nat), s.admits e 5 i ∧ s.r Reg.UPD_STATE = 0) ∧
    (∃ (s : State) (e : Env) (i : Nat), (s.dequeue e).gate e 5 = (.pass i, s.dequeue e) ∧ s.phase = .strand ∧ s.ebbRole = false ∧
      s.r Reg.UPD_STATE = 5 ∧ s.rb Reg.UPD_LOCK = false) ∧
    (∃ (s : State), s.serving = true ∧ s.r Reg.UPD_STATE = 4 ∧ s.bankCheck (s.rb Reg.UPD_TARGET) (s.rbit Reg.DEV_STRAPS 1) = none) ∧
    (∃ (s : State) (exit x : Nat), s.serving = true ∧ s.r Reg.UPD_STATE = 4 ∧ s.bankCheck (s.rb Reg.UPD_TARGET) (s.rbit
      Reg.DEV_STRAPS 1) = some (exit, x)) ∧
    (∃ (s : State), s.quiet ∧ s.running = true ∧ s.wave = 0 ∧ s.r Reg.UPD_STATE = 6 ∧ s.start.actX = none ∧ s.anyEnergised = false ∧
      s.actRefusal = none ∧ s.ebbLatched = false ∧ s.r Reg.DEV_LIFECYCLE ≠ 3 ∧ s.headerNow.seq < 4294967295) ∧
    (∃ (s : State), s.running = true ∧ s.wave = 0 ∧ s.r Reg.UPD_STATE = 6 ∧ s.start.actX = none ∧ s.anyEnergised = false ∧
      s.actRefusal = none ∧ s.ebbLatched = false ∧ s.start.ordered = none ∧ s.r Reg.DEV_LIFECYCLE = 3 ∧ s.headerNow.seq <
      4294967295) ∧
    (∃ (s : State) (a : Nat), s.start.actFrom = some a ∧ s.r Reg.UPD_STATE = 6 ∧ s.start.actX = none ∧ s.r Reg.UPD_ACT_WAIT ≤
      s.tidesSince a) ∧
    (∃ (s : State), s.running = true ∧ s.inTrial = true ∧ s.r Reg.UPD_CONFIRM_AFTER ≤ s.start.runTides ∧ s.r Reg.KEY_HANDOVER_STATE
      ≠ 3 ∧ s.start.ordered = none) ∧
    (∃ (s : State), s.quiet ∧ s.running = true ∧ s.inTrial = true ∧ 60000 ≤ s.start.runTides ∧ s.r Reg.DEV_LIFECYCLE ≠ 3) ∧
    (∃ (s : State), s.running = true ∧ s.inTrial = true ∧ 60000 ≤ s.start.runTides ∧ s.start.ordered = none ∧ s.r Reg.DEV_LIFECYCLE
      = 3) ∧
    (∃ (s : State) (e : Env) (op : Nat), s.phase = .strand ∧ s.command.queue.length < 64 ∧ e.decodes = true ∧ 1 ≤ op ∧ op ≤ 14) :=
  ⟨⟨srv.w Reg.UPD_STATE 0, env, 31, open0, ⟨by decide +kernel, by decide +kernel, by rfl⟩, by decide +kernel⟩,
   ⟨srv.w Reg.UPD_STATE 0, env, 31, { open0 with ttLength := 4194305 }, ⟨by decide +kernel, by decide +kernel, by rfl⟩, by
     decide +kernel⟩,
   ⟨srv.w Reg.UPD_STATE 1, env, 31, ⟨by decide +kernel, by decide +kernel, by rfl⟩, by decide +kernel⟩,
   ⟨live.w Reg.UPD_STATE 1, by decide +kernel⟩,
   ⟨({ live with start.fwCopy := true, store.h0 := headerBytes header } : State).w Reg.UPD_STATE 1 |>.w Reg.UPD_TARGET 1, by
     decide +kernel⟩,
   ⟨srv.w Reg.UPD_STATE 0, env, 31, ⟨by decide +kernel, by decide +kernel, by rfl⟩, by decide +kernel⟩,
   ⟨srv.w Reg.UPD_STATE 2, env, 31, false, 1, ⟨by decide +kernel, by decide +kernel, by rfl⟩, by decide +kernel⟩,
   ⟨({ srv with store.h0 := headerBytes header } : State).w Reg.UPD_STATE 2 |>.w Reg.UPD_TARGET 1, env, 31, false, List.replicate
     256 0, ⟨by decide +kernel, by decide +kernel, by rfl⟩, by decide +kernel⟩,
   ⟨({ srv with store.h0 := headerBytes { header with b := { fwLength := 1024, ttLength := 0 } } } : State).w Reg.UPD_STATE 2 |>.w
     Reg.UPD_TARGET 1, env, 31, false, List.replicate 1024 0, ⟨by decide +kernel, by decide +kernel, by rfl⟩, by decide +kernel⟩,
   ⟨srv.w Reg.UPD_STATE 3 |>.w Reg.LEDGE_VLEDGE 3000 |>.w Reg.UPD_LOCK 1, env, 31, ⟨by decide +kernel, by decide +kernel, by rfl⟩,
     by decide +kernel⟩,
   ⟨srv.w Reg.UPD_STATE 6, env, 31, ⟨by decide +kernel, by decide +kernel, by rfl⟩, by decide +kernel⟩,
   ⟨srv.w Reg.UPD_STATE 5 |>.w Reg.LEDGE_VLEDGE 2600, env, 31, ⟨by decide +kernel, by decide +kernel, by rfl⟩, by decide +kernel⟩,
   ⟨srv.w Reg.UPD_STATE 5, env, 31, 0x1A06, ⟨by decide +kernel, by decide +kernel, by rfl⟩, by decide +kernel⟩,
   ⟨srv.w Reg.UPD_STATE 4, env, 31, ⟨by decide +kernel, by decide +kernel, by rfl⟩, by decide +kernel⟩,
   ⟨srv.w Reg.UPD_STATE 1, env, 31, ⟨by decide +kernel, by decide +kernel, by rfl⟩, by decide +kernel⟩,
   ⟨srv.w Reg.LEDGE_VLEDGE 3000, env, 31, ⟨by decide +kernel, by decide +kernel, by rfl⟩, by decide +kernel⟩,
   ⟨{ srv with phase := .strand }.w Reg.UPD_STATE 5, env, 31, by rfl, by decide +kernel⟩,
   ⟨bootable.w Reg.UPD_STATE 4, by decide +kernel⟩,
   ⟨live.w Reg.UPD_STATE 4, 0x104, 0, by decide +kernel⟩,
   ⟨live.w Reg.UPD_STATE 6 |>.w Reg.DEV_LIFECYCLE 0 |>.w Reg.LEDGE_VLEDGE 2600, ⟨rfl, rfl, rfl, rfl⟩, by decide +kernel⟩,
   ⟨live.w Reg.UPD_STATE 6 |>.w Reg.DEV_LIFECYCLE 3 |>.w Reg.LEDGE_VLEDGE 2600, by decide +kernel⟩,
   ⟨({ live with start.actFrom := some 0, waves := 4000 } : State).w Reg.UPD_STATE 6 |>.w Reg.UPD_ACT_WAIT 1, 0, by decide +kernel⟩,
   ⟨({ live with start.runTides := 1000000, store.h0 := headerBytes { seq := 1, a := { state := 3 } } } : State).w
     Reg.KEY_HANDOVER_STATE 0, by decide +kernel⟩,
   ⟨({ live with start.runTides := 60000, store.h0 := headerBytes { seq := 1, a := { state := 3 } } } : State).w Reg.DEV_LIFECYCLE
     0, ⟨rfl, rfl, rfl, rfl⟩, by decide +kernel⟩,
   ⟨({ live with start.runTides := 60000, store.h0 := headerBytes { seq := 1, a := { state := 3 } } } : State).w Reg.DEV_LIFECYCLE
     3, by decide +kernel⟩,
   ⟨(at_ .strand), env, 1, by decide +kernel⟩⟩

end Sys2Proof.Tests
end

section
/-! SUPPORT. A refused task access (R29): what an event, a latched cause and a breach leave unchanged, and from them what the
refusal does. -/
namespace Sys2Proof.Machine

/-! ## Loops -/

/-- What every pass of a loop keeps holds after the loop. -/
theorem State.over_induct {α : Type} {P : State → Prop} {s : State} {l : List α} {f : α → State → State} (h : P s)
    (hf : ∀ a ∈ l, ∀ t, P t → P (f a t)) : P (s.over l f) :=
  List.foldlRecOn l (fun s a => f a s) h fun t ht a ha => hf a ha t ht

/-- What every pass of a loop over indices keeps holds after the loop. -/
theorem State.each_induct {P : State → Prop} {s : State} {f : Nat → State → State} (h : P s) :
    ∀ n, (∀ k < n, ∀ t, P t → P (f k t)) → P (s.each n f)
  | 0, _ => h
  | n + 1, hf => hf n n.lt_succ_self _ (State.each_induct h n fun k hk => hf k (Nat.lt_succ_of_lt hk))

/-- What one pass of a loop sets and every pass keeps holds after the loop. -/
theorem State.over_sets {α : Type} {P : State → Prop} {l : List α} {f : α → State → State} {a : α} (ha : a ∈ l)
    (hset : ∀ t, P (f a t)) (hkeep : ∀ b t, P t → P (f b t)) (s : State) : P (s.over l f) := by
  induction l generalizing s with
  | nil => cases ha
  | cons b l ih =>
    rcases List.mem_cons.mp ha with rfl | ha
    · exact State.over_induct (P := P) (s := f a s) (hset s) fun c _ => hkeep c
    · exact ih ha (f b s)

/-! ## Bits of fields -/

/-- A bit of a value reads what it was set to. -/
theorem testBit_setBit_self (v k : Nat) (b : Bool) : (setBit v k b).testBit k = b := by
  unfold setBit
  split
  · assumption
  · next h => cases b <;> simp_all

/-- A bit of a field reads what was written into it. -/
theorem State.rbit_wbit_self (s : State) (f : Fld) (k : Nat) (b : Bool) (n i j : Nat) (hk : k < f.w) (hw : f.w ≤ 32) :
    (s.wbit f k b n i j).rbit f k n i j = b := by
  unfold State.rbit State.wbit
  rw [State.r_w_self s f _ n i j hw]
  simp [bit, Nat.testBit_mod_two_pow, hk, testBit_setBit_self]

/-- Counting in a field: it wraps at its width. -/
theorem State.r_inc_self (s : State) (f : Fld) (n i j : Nat) (hw : f.w ≤ 32) :
    (s.inc f n i j).r f n i j = (s.r f n i j + 1) % 2 ^ f.w :=
  State.r_w_self s f _ n i j hw

/-! ## Frames: what differs between two states is registers at listed keys, and what events send -/

theorem State.onlyEvents_refl (s : State) (l : List Nat) : s.onlyEvents s l := ⟨rfl, fun _ _ _ _ _ => rfl⟩

theorem State.onlyEvents_trans {s t u : State} {l : List Nat} (h : s.onlyEvents t l) (h' : t.onlyEvents u l) : s.onlyEvents u l := by
  obtain ⟨ht, hr⟩ := h
  obtain ⟨hu, hr'⟩ := h'
  refine ⟨?_, fun f n i j hk => (hr' f n i j hk).trans (hr f n i j hk)⟩
  calc u = t.sends u := hu
    _ = (s.sends t).sends u := by rw [← ht]
    _ = s.sends u := rfl

/-- A longer list of keys allows more. -/
theorem State.onlyEvents_mono {s t : State} {l l' : List Nat} (h : s.onlyEvents t l) (hl : l ⊆ l') : s.onlyEvents t l' :=
  ⟨h.1, fun f n i j hk => h.2 f n i j fun hm => hk (List.cons_subset_cons _ hl hm)⟩

theorem State.onlyEvents_safety {s t : State} {l : List Nat} (h : s.onlyEvents t l) : t.safety = s.safety := by
  rw [h.1]; rfl

theorem State.onlyEvents_session {s t : State} {l : List Nat} (h : s.onlyEvents t l) : t.session = s.session := by
  rw [h.1]; rfl

theorem State.onlyEvents_mem {s t : State} {l : List Nat} (h : s.onlyEvents t l) : t.mem = s.mem := by
  rw [h.1]; rfl

theorem State.onlyEvents_fabric {s t : State} {l : List Nat} (h : s.onlyEvents t l) : t.fabric = s.fabric := by
  rw [h.1]; rfl

/-- A write of a listed field. -/
theorem State.onlyEvents_w (s : State) (f : Fld) (v n i j : Nat) {l : List Nat}
    (h : f.key n i j ∈ Reg.CMD_EVENT_DROPS.key 0 0 0 :: l) : s.onlyEvents (s.w f v n i j) l :=
  ⟨rfl, fun g m a b hk => State.r_w_other s f g v n i j m a b fun e => hk (e ▸ h)⟩

/-- A conditional step. -/
theorem State.onlyEvents_when {s : State} (c : Bool) {f : State → State} {l : List Nat} (h : s.onlyEvents (f s) l) :
    s.onlyEvents (s.when c f) l := by
  cases c
  · exact s.onlyEvents_refl l
  · exact h

/-! ## Events (R453) -/

theorem State.onlyEvents_queueMsg (s : State) (m : Msg) : s.onlyEvents (s.queueMsg m) [] := by
  unfold State.queueMsg
  split
  · exact ⟨rfl, fun _ _ _ _ _ => rfl⟩
  · exact State.onlyEvents_trans ⟨rfl, fun _ _ _ _ _ => rfl⟩ (State.onlyEvents_w _ _ _ _ _ _ (List.mem_singleton.mpr rfl))

theorem State.onlyEvents_chainQueue (s : State) (l type size : Nat) (o : Out) : s.onlyEvents (s.chainQueue l type size o) [] := by
  unfold State.chainQueue
  split
  · exact s.onlyEvents_refl []
  · exact ⟨rfl, fun _ _ _ _ _ => rfl⟩

theorem State.onlyEvents_chainMessage (s : State) (l type ctrl path id : Nat) (payload : List Byte) :
    s.onlyEvents (s.chainMessage l type ctrl path id payload) [] :=
  List.foldlRecOn (motive := (s.onlyEvents · [])) _ _ (s.onlyEvents_refl [])
    fun t ht _ _ => State.onlyEvents_trans ht (t.onlyEvents_chainQueue _ _ _ _)

theorem State.onlyEvents_chainSend (s : State) (l type ctrl path : Nat) (payload : List Byte) :
    s.onlyEvents (s.chainSend l type ctrl path payload) [] :=
  State.onlyEvents_trans ⟨rfl, fun _ _ _ _ _ => rfl⟩ (State.onlyEvents_chainMessage _ _ _ _ _ _ _)

/-- What newly set event bits send. -/
theorem State.onlyEvents_announce (s : State) (addr bits : Nat) : s.onlyEvents (s.announce addr bits) [] := by
  have messages : s.onlyEvents (s.over (s.command.subs.filter (fun b => b.blocks.getLsbD (addr / 0x1000000)))
      (fun b s => s.queueMsg { conn := b.conn, words := [s.tide, addr, bits] })) [] :=
    State.over_induct (P := (s.onlyEvents · [])) (s.onlyEvents_refl []) fun _ _ t ht => State.onlyEvents_trans ht (t.onlyEvents_queueMsg _)
  unfold State.announce
  dsimp only
  split
  · exact State.onlyEvents_trans messages (State.onlyEvents_chainSend _ _ _ _ _ _)
  · exact messages

/-- An event writes its EVENT field and sends. -/
theorem State.onlyEvents_ev (s : State) (f : Fld) (k n i : Nat) {l : List Nat} (h : f.key n i 0 ∈ l) :
    s.onlyEvents (s.ev f k n i) l := by
  unfold State.ev State.evMask
  dsimp only
  split
  · exact s.onlyEvents_refl l
  · exact State.onlyEvents_trans (State.onlyEvents_w _ _ _ _ _ _ (List.mem_cons_of_mem _ h))
      (State.onlyEvents_mono (State.onlyEvents_announce _ _ _) (List.nil_subset l))

/-- The bits that an event of bit `k` newly sets hold bit `k` where it was not set. -/
theorem testBit_freshMask (old k w : Nat) (hk : k < w) :
    ((2 ^ k &&& (old ^^^ (2 ^ w - 1))) % 2 ^ w).testBit k = !old.testBit k := by
  simp [Nat.testBit_mod_two_pow, Nat.testBit_and, Nat.testBit_xor, Nat.testBit_two_pow_sub_one, hk]

/-- After an event its bit reads 1, set by it or before it. -/
theorem State.rbit_ev_self (s : State) (f : Fld) (k n i : Nat) (hk : k < f.w) (hw : f.w ≤ 32)
    (hd : f.key n i 0 ≠ Reg.CMD_EVENT_DROPS.key 0 0 0) : (s.ev f k n i).rbit f k n i = true := by
  have fresh := testBit_freshMask (s.r f n i) k f.w hk
  unfold State.ev State.evMask State.rbit bit
  dsimp only
  split
  · next h0 => simpa [h0] using fresh
  · rw [(State.onlyEvents_announce _ _ _).2 f n i 0 (by simpa using hd), State.r_w_self _ _ _ _ _ _ hw,
      Nat.testBit_mod_two_pow, Nat.testBit_or, fresh]
    simp [hk]

/-! ## A latched cause (R352) -/

/-- The keys of what the object map shows of the channels. -/
def safeShownKeys : List Nat :=
  Reg.SAFE_LOCKED.key 0 0 0 :: ((List.range 16).map (Reg.SAFE_CH_CAUSE.key 0 · 0) ++ (List.range 16).map (Reg.SAFE_CH_STATE.key 0 · 0))

/-- The keys that the latching of a cause may write. -/
def safeLatchKeys : List Nat :=
  [Reg.SAFE_LAST_CAUSE.key 0 0 0, Reg.SAFE_LAST_INDEX.key 0 0 0, Reg.SAFE_CUTS.key 0 0 0, Reg.SAFE_EVENT.key 0 0 0] ++ safeShownKeys

theorem chCause_mem_safeShownKeys {c : Nat} (hc : c < 16) : Reg.SAFE_CH_CAUSE.key 0 c 0 ∈ safeShownKeys :=
  List.mem_cons_of_mem _ (List.mem_append_left _ (List.mem_map.mpr ⟨c, List.mem_range.mpr hc, rfl⟩))

theorem chState_mem_safeShownKeys {c : Nat} (hc : c < 16) : Reg.SAFE_CH_STATE.key 0 c 0 ∈ safeShownKeys :=
  List.mem_cons_of_mem _ (List.mem_append_right _ (List.mem_map.mpr ⟨c, List.mem_range.mpr hc, rfl⟩))

theorem State.onlyEvents_safeRefresh (s : State) : s.onlyEvents s.safeRefresh safeShownKeys := by
  unfold State.safeRefresh
  refine State.each_induct (P := (s.onlyEvents · safeShownKeys))
    (State.onlyEvents_w _ _ _ _ _ _ (List.mem_cons_of_mem _ List.mem_cons_self)) 16 fun c hc t ht => ?_
  have cause : ∀ v, t.onlyEvents (t.w Reg.SAFE_CH_CAUSE v 0 c) safeShownKeys := fun _ =>
    State.onlyEvents_w _ _ _ _ _ _ (List.mem_cons_of_mem _ (chCause_mem_safeShownKeys hc))
  have state : ∀ (u : State) v, u.onlyEvents (u.w Reg.SAFE_CH_STATE v 0 c) safeShownKeys := fun _ _ =>
    State.onlyEvents_w _ _ _ _ _ _ (List.mem_cons_of_mem _ (chState_mem_safeShownKeys hc))
  exact State.onlyEvents_trans (State.onlyEvents_trans ht (cause _)) (state _ _)

/-- The safety state with a cause latched on channels in the wave `now`. -/
def SafetyI.latch (sf : SafetyI) (now cause idx : Nat) (mask : BitVec 16) : SafetyI :=
  let k := causeKey cause idx
  { sf with
    latched := Tab.put sf.latched k (mask ||| Tab.getD sf.latched k 0), latchWave := some now
    latchNow := if decide (sf.latchWave = some now) then k :: sf.latchNow else [k] }

/-- Latching a cause on some channel changes the safety state, registers of the block SAFE, and sends. -/
theorem State.onlyEvents_safeLatch (s : State) (cause idx : Nat) (mask : BitVec 16) (hm : mask ≠ 0) :
    ({ s with safety := s.safety.latch s.now cause idx mask } : State).onlyEvents (s.safeLatch cause idx mask) safeLatchKeys := by
  unfold State.safeLatch
  rw [if_neg hm]
  dsimp only
  refine State.onlyEvents_trans ?_ (State.onlyEvents_mono (State.onlyEvents_safeRefresh _) (List.subset_append_right _ _))
  have latest : ∀ (t : State) (kept : Bool), t.onlyEvents
      (if kept then t else (t.w Reg.SAFE_LAST_CAUSE cause).w Reg.SAFE_LAST_INDEX idx) safeLatchKeys := by
    intro t kept
    split
    · exact t.onlyEvents_refl _
    · exact State.onlyEvents_trans (State.onlyEvents_w _ _ _ _ _ _ (by simp [safeLatchKeys]))
        (State.onlyEvents_w _ _ _ _ _ _ (by simp [safeLatchKeys]))
  have event : ∀ t : State, t.onlyEvents (match causeEvent cause with
      | some b => t.ev Reg.SAFE_EVENT b
      | none => t) safeLatchKeys := by
    intro t
    split
    · exact t.onlyEvents_ev _ _ _ _ (by simp [safeLatchKeys])
    · exact t.onlyEvents_refl _
  refine State.onlyEvents_trans ?_ (event _)
  refine State.onlyEvents_trans ?_ (State.onlyEvents_when _ (State.onlyEvents_w _ _ _ _ _ _ (by simp [safeLatchKeys])))
  exact latest _ _

/-- A cause listed on every channel locks every channel. -/
theorem lockedMask_put_all (t : Tab (BitVec 16)) (k : Nat) : lockedMask (Tab.put t k (BitVec.allOnes 16)) = BitVec.allOnes 16 := by
  have stays : ∀ t : Tab (BitVec 16), t.foldl (fun m p => m ||| p.2) (BitVec.allOnes 16) = BitVec.allOnes 16 := fun t =>
    List.foldlRecOn (motive := (· = BitVec.allOnes 16)) t _ rfl fun m hm p _ => by rw [hm, BitVec.allOnes_or]
  suffices h : ∀ m, (Tab.put t k (BitVec.allOnes 16)).foldl (fun m p => m ||| p.2) m = BitVec.allOnes 16 from h 0
  induction t with
  | nil => exact fun m => BitVec.or_allOnes
  | cons p t ih =>
    intro m
    unfold Tab.put
    split
    · rw [List.foldl_cons, BitVec.or_allOnes, stays]
    · split
      · rw [List.foldl_cons, BitVec.or_allOnes, stays]
      · exact ih _

/-- Latching a cause on every channel lists it on every channel. -/
theorem State.safeLatch_all_latched (s : State) (cause idx : Nat) :
    (s.safeLatch cause idx 0xFFFF).safety.latched = Tab.put s.safety.latched (causeKey cause idx) (BitVec.allOnes 16) := by
  rw [State.onlyEvents_safety (s.onlyEvents_safeLatch cause idx 0xFFFF (by decide))]
  exact congrArg _ BitVec.allOnes_or

/-! ## Breaches of points (R251, R252) -/

/-- The registers of a breach. -/
theorem State.breach_r (s : State) (p : Nat) (f : Fld) (n i j : Nat) :
    (s.breach p).r f n i j = (s.wbit Reg.MPT_IV_FLAGS 0 true p).r f n i j := by
  unfold State.breach
  split <;> rfl

@[simp] theorem State.breach_mem (s : State) (p : Nat) : (s.breach p).mem = s.mem := by
  unfold State.breach
  split <;> rfl

@[simp] theorem State.breach_fabric (s : State) (p : Nat) : (s.breach p).fabric = s.fabric := by
  unfold State.breach
  split <;> rfl

/-- A breach sets the flag of its point. -/
theorem State.breach_flag_self (s : State) (p : Nat) : (s.breach p).rbit Reg.MPT_IV_FLAGS 0 p = true := by
  unfold State.rbit
  rw [State.breach_r]
  exact State.rbit_wbit_self s Reg.MPT_IV_FLAGS 0 true p 0 0 (by decide) (by decide)

/-- A breach clears no point's flag. -/
theorem State.breach_flag_keep (s : State) (p m : Nat) (h : s.rbit Reg.MPT_IV_FLAGS 0 m = true) :
    (s.breach p).rbit Reg.MPT_IV_FLAGS 0 m = true := by
  by_cases hm : m = p
  · exact hm ▸ s.breach_flag_self p
  · have key : Reg.MPT_IV_FLAGS.key m 0 0 ≠ Reg.MPT_IV_FLAGS.key p 0 0 := by
      simp only [Fld.key, Fld.addr]; omega
    unfold State.rbit at h ⊢
    rwa [State.breach_r, State.wbit, State.r_w_other _ _ _ _ _ _ _ _ _ _ key]

/-- The breach flag stands on every enabled point that the partition serves. -/
theorem State.breachPoints_flag (s : State) (part m : Nat) (hm : m < 40) (hk : s.r Reg.MPT_KIND m ≠ 0)
    (hp : s.r Reg.MPT_PARTITION m = part) : (s.breachPoints part).rbit Reg.MPT_IV_FLAGS 0 m = true :=
  State.over_sets (P := fun t => t.rbit Reg.MPT_IV_FLAGS 0 m = true) (a := m)
    (List.mem_filter.mpr ⟨List.mem_range.mpr hm, decide_eq_true ⟨hk, hp⟩⟩) (fun t => t.breach_flag_self m)
    (fun p t => t.breach_flag_keep p m) s

@[simp] theorem State.breachPoints_mem (s : State) (part : Nat) : (s.breachPoints part).mem = s.mem :=
  State.over_induct (P := fun t => t.mem = s.mem) rfl fun p _ t ht => (t.breach_mem p).trans ht

@[simp] theorem State.breachPoints_fabric (s : State) (part : Nat) : (s.breachPoints part).fabric = s.fabric :=
  State.over_induct (P := fun t => t.fabric = s.fabric) rfl fun p _ t ht => (t.breach_fabric p).trans ht

/-- Breaches write no field below the flags of the first point. -/
theorem State.breachPoints_r_below (s : State) (part : Nat) (f : Fld) (n i j : Nat)
    (h : f.key n i j < Reg.MPT_IV_FLAGS.key 0 0 0) : (s.breachPoints part).r f n i j = s.r f n i j :=
  State.over_induct (P := fun t => t.r f n i j = s.r f n i j) rfl fun p _ t ht => by
    have key : f.key n i j ≠ Reg.MPT_IV_FLAGS.key p 0 0 := by
      simp only [Fld.key, Fld.addr] at h ⊢; omega
    rw [State.breach_r, State.wbit, State.r_w_other _ _ _ _ _ _ _ _ _ _ key, ht]

/-! ## The class consequence (Table 1.5) -/

theorem State.classConsequence_classS {s : State} {part : Nat} (h : s.r Reg.TIDE_PART_CLASS 0 part = 0) :
    s.classConsequence part = s.safeLatch 0x11 0 0xFFFF := by
  simp only [State.classConsequence, h]

theorem State.classConsequence_classM {s : State} {part : Nat} (h : s.r Reg.TIDE_PART_CLASS 0 part = 1) :
    s.classConsequence part = s.breachPoints part := by
  simp only [State.classConsequence, h]

theorem State.classConsequence_others {s : State} {part : Nat} (h : 1 < s.r Reg.TIDE_PART_CLASS 0 part) :
    s.classConsequence part = s := by
  obtain ⟨c, hc⟩ := Nat.exists_eq_add_of_lt h
  simp only [State.classConsequence, hc, Nat.add_comm 1 c]

/-- The class consequence is one of the three of Table 1.5. -/
theorem State.classConsequence_cases {P : State → Prop} (s : State) (part : Nat) (classS : P (s.safeLatch 0x11 0 0xFFFF))
    (classM : P (s.breachPoints part)) (others : P s) : P (s.classConsequence part) := by
  unfold State.classConsequence
  split <;> assumption

theorem State.classConsequence_mem (s : State) (part : Nat) : (s.classConsequence part).mem = s.mem :=
  s.classConsequence_cases (P := fun t => t.mem = s.mem) part
    ((State.onlyEvents_mem (s.onlyEvents_safeLatch 0x11 0 0xFFFF (by decide))).trans rfl)
    (s.breachPoints_mem part) rfl

theorem State.classConsequence_fabric (s : State) (part : Nat) : (s.classConsequence part).fabric = s.fabric :=
  s.classConsequence_cases (P := fun t => t.fabric = s.fabric) part
    ((State.onlyEvents_fabric (s.onlyEvents_safeLatch 0x11 0 0xFFFF (by decide))).trans rfl) (s.breachPoints_fabric part) rfl

/-- What latching a cause may write lies above the flags of the first point. -/
theorem mptFlags_le_of_mem_safeLatchKeys {k : Nat} (h : k ∈ Reg.CMD_EVENT_DROPS.key 0 0 0 :: safeLatchKeys) :
    Reg.MPT_IV_FLAGS.key 0 0 0 ≤ k := by
  have all : ∀ k ∈ Reg.CMD_EVENT_DROPS.key 0 0 0 :: safeLatchKeys, Reg.MPT_IV_FLAGS.key 0 0 0 ≤ k := by decide
  exact all k h

/-- The class consequence writes no field below the flags of the first point, so none of the block TIDE. -/
theorem State.classConsequence_r_below (s : State) (part : Nat) (f : Fld) (n i j : Nat)
    (h : f.key n i j < Reg.MPT_IV_FLAGS.key 0 0 0) : (s.classConsequence part).r f n i j = s.r f n i j :=
  s.classConsequence_cases (P := fun t => t.r f n i j = s.r f n i j) part
    ((s.onlyEvents_safeLatch 0x11 0 0xFFFF (by decide)).2 f n i j fun hm =>
      absurd (mptFlags_le_of_mem_safeLatchKeys hm) (Nat.not_le.mpr h))
    (s.breachPoints_r_below part f n i j h) rfl

/-! ## The refusal (R29) -/

/-- The state with a slot ended. -/
def State.slotEnded (s : State) (i : Nat) : State :=
  s.modFabric (fun f => { f with slots := Tab.upd f.slots i ⟨s.now, true, true, 0⟩ (fun x => { x with done := true }) })

/-- The state with the slot of a refused access ended, the fault counted and its event set. -/
def State.refusalCounted (s : State) (part i : Nat) : State :=
  (((s.slotEnded i).inc Reg.TIDE_PART_FAULT 0 part).inc Reg.TIDE_FAULT_COUNT).ev Reg.TIDE_PART_EVENT 1 0 part

/-- The class consequence comes last. -/
theorem State.regionFault_slot (s : State) (part i : Nat) :
    s.regionFault part (some i) = (s.refusalCounted part i).classConsequence part := rfl

theorem State.slotEnded_done (s : State) (i : Nat) : (Tab.find (s.slotEnded i).fabric.slots i).any (fun x => x.done) = true := by
  simp [State.slotEnded, Tab.upd, Tab.find_put]

/-- The keys that the count of a refused access writes. -/
def refusalKeys (part : Nat) : List Nat :=
  [Reg.TIDE_PART_FAULT.key 0 part 0, Reg.TIDE_FAULT_COUNT.key 0 0 0, Reg.TIDE_PART_EVENT.key 0 part 0]

theorem State.onlyEvents_refusalCounted (s : State) (part i : Nat) :
    (s.slotEnded i).onlyEvents (s.refusalCounted part i) (refusalKeys part) :=
  State.onlyEvents_trans
    (State.onlyEvents_trans (State.onlyEvents_w _ _ _ _ _ _ (by simp [refusalKeys]))
      (State.onlyEvents_w _ _ _ _ _ _ (by simp [refusalKeys])))
    (State.onlyEvents_ev _ _ _ _ _ (by simp [refusalKeys]))

/-- The refusal is counted for its partition. -/
theorem State.refusalCounted_fault (s : State) (part i : Nat) (hp : part < 64) :
    (s.refusalCounted part i).r Reg.TIDE_PART_FAULT 0 part = (s.r Reg.TIDE_PART_FAULT 0 part + 1) % 2 ^ Reg.TIDE_PART_FAULT.w := by
  have notEvent : Reg.TIDE_PART_FAULT.key 0 part 0 ∉ [Reg.CMD_EVENT_DROPS.key 0 0 0, Reg.TIDE_PART_EVENT.key 0 part 0] := by
    simp only [List.mem_cons, List.not_mem_nil, or_false, Fld.key, Fld.addr, Reg.TIDE_PART_FAULT, Reg.CMD_EVENT_DROPS,
      Reg.TIDE_PART_EVENT]
    omega
  have notCount : Reg.TIDE_PART_FAULT.key 0 part 0 ≠ Reg.TIDE_FAULT_COUNT.key 0 0 0 := by
    simp only [Fld.key, Fld.addr, Reg.TIDE_PART_FAULT, Reg.TIDE_FAULT_COUNT]; omega
  calc (s.refusalCounted part i).r Reg.TIDE_PART_FAULT 0 part
      = (((s.slotEnded i).inc Reg.TIDE_PART_FAULT 0 part).inc Reg.TIDE_FAULT_COUNT).r Reg.TIDE_PART_FAULT 0 part :=
        (State.onlyEvents_ev _ Reg.TIDE_PART_EVENT 1 0 part (List.mem_singleton.mpr rfl)).2 _ _ _ _ notEvent
    _ = ((s.slotEnded i).inc Reg.TIDE_PART_FAULT 0 part).r Reg.TIDE_PART_FAULT 0 part :=
        State.r_w_other _ _ _ _ _ _ _ _ _ _ notCount
    _ = _ := State.r_inc_self _ _ _ _ _ (by decide)

/-- The refusal sets its event bit. -/
theorem State.refusalCounted_event (s : State) (part i : Nat) (hp : part < 64) :
    (s.refusalCounted part i).rbit Reg.TIDE_PART_EVENT 1 0 part = true :=
  State.rbit_ev_self _ _ _ _ _ (by decide) (by decide)
    (by simp only [Fld.key, Fld.addr, Reg.TIDE_PART_EVENT, Reg.CMD_EVENT_DROPS]; omega)

/-- The words that the count writes stand at no multiple of 16. -/
theorem unaligned_of_mem_refusalKeys {part k : Nat} (h : k ∈ Reg.CMD_EVENT_DROPS.key 0 0 0 :: refusalKeys part) : k / 32 % 16 ≠ 0 := by
  simp only [refusalKeys, List.mem_cons, List.not_mem_nil, or_false, Fld.key, Fld.addr, Reg.CMD_EVENT_DROPS, Reg.TIDE_PART_FAULT,
    Reg.TIDE_FAULT_COUNT, Reg.TIDE_PART_EVENT] at h
  omega

/-- The count writes no field of a word whose address is a multiple of 16. -/
theorem State.refusalCounted_r_aligned (s : State) (part i : Nat) (f : Fld) (n a b : Nat) (h : f.key n a b / 32 % 16 = 0) :
    (s.refusalCounted part i).r f n a b = s.r f n a b :=
  (s.onlyEvents_refusalCounted part i).2 f n a b fun hm => unaligned_of_mem_refusalKeys hm h

/-- The count leaves the class of the partition. -/
theorem State.refusalCounted_class (s : State) (part i : Nat) :
    (s.refusalCounted part i).r Reg.TIDE_PART_CLASS 0 part = s.r Reg.TIDE_PART_CLASS 0 part :=
  s.refusalCounted_r_aligned part i _ _ _ _ (by simp only [Fld.key, Fld.addr, Reg.TIDE_PART_CLASS]; omega)

/-- The count leaves whether a point is enabled. -/
theorem State.refusalCounted_kind (s : State) (part i m : Nat) : (s.refusalCounted part i).r Reg.MPT_KIND m = s.r Reg.MPT_KIND m :=
  s.refusalCounted_r_aligned part i _ _ _ _ (by simp only [Fld.key, Fld.addr, Reg.MPT_KIND]; omega)

/-- The count leaves the partition that serves a point. -/
theorem State.refusalCounted_partition (s : State) (part i m : Nat) :
    (s.refusalCounted part i).r Reg.MPT_PARTITION m = s.r Reg.MPT_PARTITION m :=
  s.refusalCounted_r_aligned part i _ _ _ _ (by simp only [Fld.key, Fld.addr, Reg.MPT_PARTITION]; omega)

/-- What a refused access of a slot leaves, besides the memory and the transactions: the slot ended, the fault counted, its
event, and the consequence of the partition's class. -/
def State.refusalLeaves (s t : State) (p i : Nat) : Prop :=
  (Tab.find t.fabric.slots i).any (fun x => x.done) = true ∧
  t.r Reg.TIDE_PART_FAULT 0 p = (s.r Reg.TIDE_PART_FAULT 0 p + 1) % 2 ^ Reg.TIDE_PART_FAULT.w ∧
  t.rbit Reg.TIDE_PART_EVENT 1 0 p = true ∧
  (s.r Reg.TIDE_PART_CLASS 0 p = 0 → lockedMask t.safety.latched = 0xFFFF ∧
    (Tab.find t.safety.latched (causeKey 0x11 0)) = some 0xFFFF) ∧
  (s.r Reg.TIDE_PART_CLASS 0 p = 1 → ∀ m, m < 40 → s.r Reg.MPT_KIND m ≠ 0 → s.r Reg.MPT_PARTITION m = p →
    t.rbit Reg.MPT_IV_FLAGS 0 m = true) ∧
  (1 < s.r Reg.TIDE_PART_CLASS 0 p → t.safety = s.safety ∧ t.session = s.session)

theorem State.regionFault_leaves (s : State) (p i : Nat) (hp : p < 64) : s.refusalLeaves (s.regionFault p (some i)) p i := by
  have hclass := s.refusalCounted_class p i
  have frame := s.onlyEvents_refusalCounted p i
  rw [State.regionFault_slot]
  refine ⟨?_, ?_, ?_, fun hS => ?_, fun hM m hm hkind hpart => ?_, fun hO => ?_⟩
  · rw [State.classConsequence_fabric, State.onlyEvents_fabric frame]
    exact s.slotEnded_done i
  · rw [State.classConsequence_r_below _ _ _ _ _ _ (by simp only [Fld.key, Fld.addr, Reg.TIDE_PART_FAULT, Reg.MPT_IV_FLAGS]; omega)]
    exact s.refusalCounted_fault p i hp
  · unfold State.rbit
    rw [State.classConsequence_r_below _ _ _ _ _ _ (by simp only [Fld.key, Fld.addr, Reg.TIDE_PART_EVENT, Reg.MPT_IV_FLAGS]; omega)]
    exact s.refusalCounted_event p i hp
  · rw [State.classConsequence_classS (hclass.trans hS), State.safeLatch_all_latched]
    exact ⟨lockedMask_put_all _ _, by rw [Tab.find_put, if_pos rfl]; rfl⟩
  · rw [State.classConsequence_classM (hclass.trans hM)]
    exact State.breachPoints_flag _ p m hm ((s.refusalCounted_kind p i m).symm ▸ hkind)
      ((s.refusalCounted_partition p i m).trans hpart)
  · rw [State.classConsequence_others (hclass.symm ▸ hO)]
    exact ⟨(State.onlyEvents_safety frame).trans rfl, (State.onlyEvents_session frame).trans rfl⟩

/-- A refused access stores nothing. -/
theorem State.regionFault_mem (s : State) (p i : Nat) : (s.regionFault p (some i)).mem = s.mem := by
  rw [State.regionFault_slot, State.classConsequence_mem]
  exact (State.onlyEvents_mem (s.onlyEvents_refusalCounted p i)).trans rfl

/-- A refused access stays outstanding until its response. -/
theorem State.regionFault_flight (s : State) (p i : Nat) : (s.regionFault p (some i)).fabric.flight = s.fabric.flight := by
  rw [State.regionFault_slot, State.classConsequence_fabric, State.onlyEvents_fabric (s.onlyEvents_refusalCounted p i)]
  rfl

/-! ## The request that is refused -/

/-- The state with a refused request outstanding, with its fault code and without data. -/
def State.refusedInFlight (s : State) (q : FabReq) : State :=
  let u := s.modFabric (fun x => { x with flight := x.flight ++ [⟨q, s.accessFault q, []⟩] })
  let k := u.fabric.flight.length
  (u.w Reg.TIDE_INFLIGHT k).w Reg.TIDE_PEAK (max (u.r Reg.TIDE_PEAK) k)

/-- A request that the region descriptors refuse becomes outstanding, and is a refused task access. -/
theorem State.issue_refused (s : State) (q : FabReq) (p : Fin 64) (hf : s.accessFault q = 1 ∨ s.accessFault q = 2)
    (hp : q.part = some p) : s.issue q = (s.refusedInFlight q).regionFault p.val q.slot := by
  have h0 : s.accessFault q ≠ 0 := by omega
  have h7 : s.accessFault q ≠ 7 := by omega
  simp only [State.issue, State.refusedInFlight, h0, h7, hf, hp, false_and, if_false, if_true]

/-- A request below its requester's credit limit, with none of it withheld, is issued. -/
theorem exec_fabricRequest_issued (s : State) (q : FabReq) (ha : s.alive = true) (hl : s.atLimit q.req.val = false)
    (hs : (s.fabric.stalled.any fun x => decide (x.req = q.req)) = false) : exec (.fabricRequest q) s = .next (s.issue q) := by
  show execFabricRequest q s = _
  simp [execFabricRequest, ha, hl, hs]

/-- Taking its place in flight, a refused request writes INFLIGHT and PEAK, and no field above them. -/
theorem State.refusedInFlight_r_above (s : State) (q : FabReq) (f : Fld) (n i j : Nat) (h : Reg.TIDE_PEAK.key 0 0 0 < f.key n i j) :
    (s.refusedInFlight q).r f n i j = s.r f n i j := by
  have order : Reg.TIDE_INFLIGHT.key 0 0 0 < Reg.TIDE_PEAK.key 0 0 0 := by decide
  have notPeak : f.key n i j ≠ Reg.TIDE_PEAK.key 0 0 0 := Nat.ne_of_gt h
  have notInFlight : f.key n i j ≠ Reg.TIDE_INFLIGHT.key 0 0 0 := Nat.ne_of_gt (Nat.lt_trans order h)
  exact (State.r_w_other _ _ _ _ _ _ _ _ _ _ notPeak).trans (State.r_w_other _ _ _ _ _ _ _ _ _ _ notInFlight)

/-- What the refusal leaves, seen from before the request took its place in flight. -/
theorem State.refusalLeaves_of_inFlight {s t : State} {q : FabReq} {p i : Nat} (h : (s.refusedInFlight q).refusalLeaves t p i) :
    s.refusalLeaves t p i := by
  have fault : (s.refusedInFlight q).r Reg.TIDE_PART_FAULT 0 p = s.r Reg.TIDE_PART_FAULT 0 p := s.refusedInFlight_r_above q _ _ _ _
    (by simp only [Fld.key, Fld.addr, Reg.TIDE_PART_FAULT, Reg.TIDE_PEAK]; omega)
  have cls : (s.refusedInFlight q).r Reg.TIDE_PART_CLASS 0 p = s.r Reg.TIDE_PART_CLASS 0 p := s.refusedInFlight_r_above q _ _ _ _
    (by simp only [Fld.key, Fld.addr, Reg.TIDE_PART_CLASS, Reg.TIDE_PEAK]; omega)
  have kind : ∀ m, (s.refusedInFlight q).r Reg.MPT_KIND m = s.r Reg.MPT_KIND m := fun m => s.refusedInFlight_r_above q _ _ _ _
    (by simp only [Fld.key, Fld.addr, Reg.MPT_KIND, Reg.TIDE_PEAK]; omega)
  have part : ∀ m, (s.refusedInFlight q).r Reg.MPT_PARTITION m = s.r Reg.MPT_PARTITION m := fun m =>
    s.refusedInFlight_r_above q _ _ _ _ (by simp only [Fld.key, Fld.addr, Reg.MPT_PARTITION, Reg.TIDE_PEAK]; omega)
  unfold State.refusalLeaves at h
  simp only [fault, cls, kind, part] at h
  exact h

/-- Settles O9: the slot, the count and the event come before the class consequence, which writes no register of the block TIDE,
and latches FENCE_S, sets the breach flags, or does nothing, by the class. -/
theorem refusedAccess : Obligations.RefusedAccess := by
  unfold Obligations.RefusedAccess
  refine ⟨fun s p i hp => s.regionFault_leaves p i hp, fun s q p i ha hl hs hf hpart hslot => ?_⟩
  refine ⟨s.issue q, exec_fabricRequest_issued s q ha hl hs, ?_⟩
  rw [s.issue_refused q p hf hpart, hslot]
  have leaves := State.refusalLeaves_of_inFlight ((s.refusedInFlight q).regionFault_leaves p.val i p.isLt)
  obtain ⟨slot, fault, event, classS, classM, others⟩ := leaves
  exact ⟨slot, fault, event, classS, classM, others, State.regionFault_mem _ _ _, State.regionFault_flight _ _ _⟩

end Sys2Proof.Machine
end

section
/-! SUPPORT. A beacon of another root (R71): which branch of BEACON_RECEIVE answers it, and what that branch does. -/
namespace Sys2Proof.Machine

/-- CHAIN.EVENT is not the register that counts the dropped event messages. -/
theorem chainEvent_key_ne_eventDrops : Reg.CHAIN_EVENT.key 0 0 0 ≠ Reg.CMD_EVENT_DROPS.key 0 0 0 := by decide

/-- A root or an admitted device answers a beacon of another root on a declared link with the event ROOT_CONFLICT alone. -/
theorem exec_beaconReceive_foreignRoot (s : State) (l : Fin 8) (b : Beacon) (ha : s.alive = true)
    (hl : s.declaredLink l.val = true) (hc : s.chainState = 2 ∨ s.chainState = 3) (hr : b.root.toNat ≠ s.rootId) :
    exec (.beaconReceive l b) s = .next (s.ev Reg.CHAIN_EVENT 2) := by
  show execBeaconReceive l b s = _
  rcases hc with admitted | root
  · simp [execBeaconReceive, ha, hl, admitted, hr]
  · simp [execBeaconReceive, ha, hl, root, hr]

/-- Settles O23: the beacon's one effect is the event of CHAIN.EVENT bit 2, which sets its bit and writes no other field but the
count of dropped events. -/
theorem foreignRootIsIgnored : Obligations.ForeignRootIsIgnored := by
  unfold Obligations.ForeignRootIsIgnored
  intro s l b ha hl hc hr
  refine ⟨s.ev Reg.CHAIN_EVENT 2, exec_beaconReceive_foreignRoot s l b ha hl hc hr, ?_, ?_⟩
  · exact s.rbit_ev_self Reg.CHAIN_EVENT 2 0 0 (by decide) (by decide) chainEvent_key_ne_eventDrops
  · exact s.onlyEvents_ev Reg.CHAIN_EVENT 2 0 0 List.mem_cons_self

end Sys2Proof.Machine
end

section
/-! SUPPORT. The tide mark (R92, R93): what the bisection from a start level over the `2 ^ k` levels above it answers. -/
namespace Sys2Proof.Machine

/-- One step of the bisection: it goes on over half of the levels, from the candidate where the candidate fits. -/
theorem tideMark_succ (sum : Nat → Int) (budget : Int) (k mark : Nat) :
    tideMark sum budget (k + 1) mark =
      if sum (mark + 2 ^ k) ≤ budget then tideMark sum budget k (mark + 2 ^ k) else tideMark sum budget k mark := by
  rw [tideMark]
  split <;> rfl

/-- The `k` steps stay below the end of their `2 ^ k` levels. -/
theorem tideMark_lt (sum : Nat → Int) (budget : Int) (k mark : Nat) : tideMark sum budget k mark < mark + 2 ^ k := by
  induction k generalizing mark with
  | zero => exact Nat.lt_succ_self mark
  | succ k ih =>
    rw [tideMark_succ, Nat.pow_succ]
    split
    · have upper := ih (mark + 2 ^ k)
      omega
    · have lower := ih mark
      omega

/-- Only a candidate that fits is ever taken, so the mark fits or is the start. -/
theorem tideMark_fits_or_eq_start (sum : Nat → Int) (budget : Int) (k mark : Nat) :
    sum (tideMark sum budget k mark) ≤ budget ∨ tideMark sum budget k mark = mark := by
  induction k generalizing mark with
  | zero => exact .inr rfl
  | succ k ih =>
    rw [tideMark_succ]
    split
    next fits =>
      rcases ih (mark + 2 ^ k) with below | start
      · exact .inl below
      · exact .inl (Int.le_trans (Int.le_of_eq (congrArg sum start)) fits)
    next => exact ih mark

/-- Over a sum that never falls, the levels above the mark exceed the budget when those past the end of the steps do: a candidate
that does not fit is the new end, and one that fits leaves the end where it was. -/
theorem tideMark_exceeds_above {sum : Nat → Int} {budget : Int} (hmono : ∀ x y, x ≤ y → y ≤ 65535 → sum x ≤ sum y) (k mark : Nat)
    (hend : ∀ x, x ≤ 65535 → mark + 2 ^ k ≤ x → budget < sum x) (x : Nat) (hx : x ≤ 65535)
    (habove : tideMark sum budget k mark < x) : budget < sum x := by
  induction k generalizing mark with
  | zero => exact hend x hx habove
  | succ k ih =>
    rw [tideMark_succ] at habove
    split at habove
    next =>
      have sameEnd : mark + 2 ^ k + 2 ^ k = mark + 2 ^ (k + 1) := by rw [Nat.pow_succ]; omega
      exact ih (mark + 2 ^ k) (sameEnd ▸ hend) habove
    next tooMuch =>
      exact ih mark (fun y hy hcand => Int.lt_of_lt_of_le (Int.not_le.mp tooMuch) (hmono (mark + 2 ^ k) y hcand hy)) habove

/-- The 16 steps from 0 stay within the levels (R85). -/
theorem tideMark_le_top (sum : Nat → Int) (budget : Int) : tideMark sum budget 16 0 ≤ 65535 :=
  Nat.le_of_lt_succ (tideMark_lt sum budget 16 0)

/-- In a shortfall, where no level fits, the mark stays 0 (R92). -/
theorem tideMark_eq_zero_of_short {sum : Nat → Int} {budget : Int} (hmono : ∀ x y, x ≤ y → y ≤ 65535 → sum x ≤ sum y)
    (hshort : budget < sum 0) : tideMark sum budget 16 0 = 0 := by
  rcases tideMark_fits_or_eq_start sum budget 16 0 with fits | start
  · have bottom := hmono 0 _ (Nat.zero_le _) (tideMark_le_top sum budget)
    omega
  · exact start

/-- Settles O28: the 16 steps range over all 65,536 levels, so no level stands past their end; the mark fits because it is a
candidate taken or level 0, and every level above it exceeds the budget. -/
theorem tideMarkIsGreatest : Obligations.TideMarkIsGreatest := by
  unfold Obligations.TideMarkIsGreatest
  intro sum budget hmono m
  refine ⟨tideMark_le_top sum budget, fun hbottom => ?_, ?_⟩
  · rcases tideMark_fits_or_eq_start sum budget 16 0 with fits | start
    · exact fits
    · exact Int.le_trans (Int.le_of_eq (congrArg sum start)) hbottom
  · exact tideMark_exceeds_above hmono 16 0 (fun x hx hpast => by omega)

end Sys2Proof.Machine
end
